-- ==== Sys2Proof/Word.lean ====
section
/-!
DEFINITION. The byte of the line link and the container of two like things.

Almost nothing of this part is a bit vector: the spec gives it records of numbers. Bytes exist on the
line link (chapter 11) and in the use-mark bitmap of a ticket block (chapter 7).
-/

namespace Sys2Proof

/-- One byte of the line link. -/
abbrev Byte := BitVec 8

/-- Two like things, one for each car, brake, tension channel or encoder. -/
structure Two (α : Type) where
  fst : α
  snd : α
  deriving DecidableEq, Repr

end Sys2Proof
end

