-- ==== Sys2Proof/Syntax.lean ====
section
/-!
DEFINITION. The commands of the part: the records that requests carry, the requests of the catalogue
(11 R181), and `Instr`, one constructor for each row of opcode_table.json.

Fields of a request are the numbers that its frame carries: the part checks their ranges itself, so a
record may hold a number outside its range. Named values are numbered from 0 in the order of their
tables (11 R181).
-/

namespace Sys2Proof

/-- The two cars (00, Cars and directions). -/
inductive Car where
  | a
  | b
  deriving DecidableEq, Repr

/-- Directions of travel: UP is the one in which car A climbs (00). -/
inductive Dir where
  | up
  | down
  deriving DecidableEq, Repr

/-- The two brakes (04 section 4.1). -/
inductive Brake where
  | holding
  | emergency
  deriving DecidableEq, Repr

/-- The two tension channels (02 section 2.2). -/
inductive Chan where
  | one
  | two
  deriving DecidableEq, Repr

/-- The two encoders (02 section 2.1). -/
inductive Encoder where
  | drive
  | sheave
  deriving DecidableEq, Repr

/-- What a station's presence input reports (01 section 1.2). -/
inductive PresenceReport where
  | none
  | carA
  | carB
  deriving DecidableEq, Repr

/-- The two feedback inputs of a brake (04 section 4.1). -/
inductive FeedbackInput where
  | applied
  | released
  deriving DecidableEq, Repr

/-- The three inputs of a door set (06 section 6.1). -/
inductive DoorInput where
  | closedAndLocked
  | fullyOpen
  | obstruction
  deriving DecidableEq, Repr

/-- One station record of the line record (01 section 1.1). -/
structure StationRec where
  id : Nat
  position : Nat
  doorSet : Nat
  sensor : Nat
  lanes : List Nat
  deriving DecidableEq, Repr

/-- The line record (01 section 1.1). -/
structure LineRec where
  length : Nat
  stations : Nat
  table : List StationRec
  loopStart : Nat
  loopEnd : Nat
  window : Nat
  margin : Nat
  driveCpm : Nat
  sheaveCpm : Nat
  deriving DecidableEq, Repr

/-- One marker record; tracks LOWER 0, LOOP_A 1, LOOP_B 2, UPPER 3 (01 section 1.5). -/
structure MarkerRec where
  position : Nat
  track : Nat
  window : Nat
  deriving DecidableEq, Repr

/-- One segment of a profile class as a request carries it (03 section 3.1). -/
structure SegmentRec where
  start : Nat
  ceiling : Nat
  accel : Nat
  decel : Nat
  deriving DecidableEq, Repr

/-- The body of PROFILE_SET (03 R37). -/
structure ProfileBody where
  cls : Nat
  lineMax : Nat
  inspection : Nat
  segments : List SegmentRec
  deriving DecidableEq, Repr

/-- The settings of one tension channel; ranges LOW 0, HIGH 1 (02 section 2.2). -/
structure TensionSettings where
  range : Nat
  rate : Nat
  window : Nat
  gain : Nat
  offset : Int
  min : Int
  max : Int
  standbyMin : Int
  standbyMax : Int
  deriving DecidableEq, Repr

/-- One lane description; roles ENTRY_UP 0, ENTRY_DOWN 1, EXIT 2 (08 R127). -/
structure LaneDesc where
  lane : Nat
  station : Nat
  role : Nat
  deriving DecidableEq, Repr

/-- The fields of PARAM_SET in the order of 09 R157, less the scope. -/
structure ParamBody where
  dwell : Nat
  warning : Nat
  passageTimeout : Nat
  passback : Nat
  supervision : Nat
  capacity : Nat
  mass : Nat
  imb1 : Nat
  imb2 : Nat
  imb3 : Nat
  tolerance : Nat
  offsets : List (Nat × Nat)
  deriving DecidableEq, Repr

/-- The body of TICKETS_LOAD; classes SINGLE 0, RETURN 1, DAY 2, STAFF 3 (07 section 7.1). -/
structure TicketBody where
  block : Nat
  first : Nat
  count : Nat
  cls : Nat
  firstDay : Nat
  lastDay : Nat
  bitmap : List Byte
  deriving DecidableEq, Repr

/-- The tag, post and claimed level of a request frame (11 section 11.1). -/
structure Header where
  tag : Nat
  post : Nat
  level : Nat
  deriving DecidableEq, Repr

/-- The 34 request kinds of the catalogue with the fields of their bodies (11 R181). -/
inductive Request where
  | lineSet (r : LineRec)
  | markersSet (limit : Nat) (markers : List MarkerRec)
  | profileSet (p : ProfileBody)
  | tensionSet (one two : TensionSettings)
  | lanesSet (lanes : List LaneDesc)
  | postsSet (pairs : List (Nat × Nat))
  | paramSet (scope : Nat) (p : ParamBody)
  | ticketsLoad (t : TicketBody)
  | ticketsDrop (block : Nat)
  | ticketQuery (serial : Nat)
  | daySet (day time : Nat)
  | modeSet (mode : Nat)
  | dispatch (target direction : Nat)
  | hold
  | resume
  | stopNow
  | tripReset
  | doors (operation pair argument : Nat)
  | lane (lane operation : Nat)
  | queue (queue operation : Nat)
  | forceStop (stop operation : Nat)
  | weatherSet (weather : Nat)
  | amend (cls segment ceiling accel decel : Nat)
  | brakeTest (brake direction torque duration : Nat)
  | faultsAck
  | restart
  | statusRead
  | carRead (car : Nat)
  | queueRead (queue place : Nat)
  | laneRead (lane : Nat)
  | faultsRead
  | tripRead
  | brakesRead
  | tensionRead
  deriving DecidableEq, Repr

/-- The commands of the part, one constructor for each row of opcode_table.json, in its order.
A request carries its frame's header and its body's fields. `elapsed` is the time in microseconds
that passes before the event (log 2). -/
inductive Instr where
  /-- LINE_SET (01 R1). -/
  | lineSet (h : Header) (r : LineRec)
  /-- MARKERS_SET (01 R12). -/
  | markersSet (h : Header) (limit : Nat) (markers : List MarkerRec)
  /-- PROFILE_SET (03 R37). -/
  | profileSet (h : Header) (p : ProfileBody)
  /-- TENSION_SET (02 R28). -/
  | tensionSet (h : Header) (one two : TensionSettings)
  /-- LANES_SET (08 R127). -/
  | lanesSet (h : Header) (lanes : List LaneDesc)
  /-- POSTS_SET (09 R156). -/
  | postsSet (h : Header) (pairs : List (Nat × Nat))
  /-- PARAM_SET of scope ALL (09 R157). -/
  | paramSetAll (h : Header) (p : ParamBody)
  /-- PARAM_SET of scope TIMING (09 R157). -/
  | paramSetTiming (h : Header) (p : ParamBody)
  /-- TICKETS_LOAD (07 R110). -/
  | ticketsLoad (h : Header) (t : TicketBody)
  /-- TICKETS_DROP (07 R112). -/
  | ticketsDrop (h : Header) (block : Nat)
  /-- TICKET_QUERY (07 R114). -/
  | ticketQuery (h : Header) (serial : Nat)
  /-- DAY_SET (07 R123). -/
  | daySet (h : Header) (day time : Nat)
  /-- MODE_SET (09 R150). -/
  | modeSet (h : Header) (mode : Nat)
  /-- DISPATCH; target 255 is NEAREST (03 R50). -/
  | dispatch (h : Header) (target direction : Nat)
  /-- HOLD (03 R59). -/
  | hold (h : Header)
  /-- RESUME (03 R60). -/
  | resume (h : Header)
  /-- STOP_NOW (04 R78). -/
  | stopNow (h : Header)
  /-- TRIP_RESET (04 R79). -/
  | tripReset (h : Header)
  /-- DOORS OPEN (06 R98). -/
  | doorsOpen (h : Header) (pair : Nat)
  /-- DOORS CLOSE (06 R102). -/
  | doorsClose (h : Header) (pair : Nat)
  /-- DOORS HOLD SET (06 R101). -/
  | doorsHoldSet (h : Header) (pair : Nat)
  /-- DOORS HOLD CLEAR (06 R101). -/
  | doorsHoldClear (h : Header) (pair : Nat)
  /-- LANE OPEN (08 R129). -/
  | laneOpen (h : Header) (lane : Nat)
  /-- LANE CLOSE (08 R129). -/
  | laneClose (h : Header) (lane : Nat)
  /-- LANE CLEAR (08 R129). -/
  | laneClear (h : Header) (lane : Nat)
  /-- QUEUE OPEN (08 R139). -/
  | queueOpen (h : Header) (queue : Nat)
  /-- QUEUE CLOSE (08 R139). -/
  | queueClose (h : Header) (queue : Nat)
  /-- FORCE_STOP SET (03 R48). -/
  | forceStopSet (h : Header) (stop : Nat)
  /-- FORCE_STOP CLEAR (03 R48). -/
  | forceStopClear (h : Header) (stop : Nat)
  /-- WEATHER_SET (03 R41). -/
  | weatherSet (h : Header) (weather : Nat)
  /-- AMEND (03 R39). -/
  | amend (h : Header) (cls segment ceiling accel decel : Nat)
  /-- BRAKE_TEST (05 R85). -/
  | brakeTest (h : Header) (brake direction torque duration : Nat)
  /-- FAULTS_ACK (10 R173). -/
  | faultsAck (h : Header)
  /-- RESTART (09 R164). -/
  | restart (h : Header)
  /-- STATUS_READ (11 R182). -/
  | statusRead (h : Header)
  /-- CAR_READ (11 R182). -/
  | carRead (h : Header) (car : Nat)
  /-- QUEUE_READ (11 R182). -/
  | queueRead (h : Header) (queue place : Nat)
  /-- LANE_READ (11 R182). -/
  | laneRead (h : Header) (lane : Nat)
  /-- FAULTS_READ (11 R182). -/
  | faultsRead (h : Header)
  /-- TRIP_READ (11 R182). -/
  | tripRead (h : Header)
  /-- BRAKES_READ (11 R182). -/
  | brakesRead (h : Header)
  /-- TENSION_READ (11 R182). -/
  | tensionRead (h : Header)
  /-- A checked frame whose kind is not a request kind (11 R179). -/
  | unknownKindFrame (h : Header) (kind : Nat)
  /-- Power-up, undervoltage or the reset line (09 R166). -/
  | fullReset
  /-- The rising edge of the restart line (09 R164). -/
  | restartLine
  /-- A quadrature edge of an encoder (02 R20). -/
  | encoderEdge (e : Encoder) (sense : Dir) (elapsed : Nat)
  /-- Time passes with no edge and the estimates fall (02 R21). -/
  | estimateDecay (elapsed : Nat)
  /-- The quiet interval of a channel expires (02 R22). -/
  | quietExpiry (e : Encoder)
  /-- The magnitude disagreement interval expires (02 R25). -/
  | disagreementIntervalExpiry
  /-- A presence input takes a value (01 R4). -/
  | presenceChange (input : Fin 6) (value : PresenceReport)
  /-- A pulse on a marker input (01 R13). -/
  | markerPulse (input : Fin 24)
  /-- A tension channel completes a conversion (02 R29). -/
  | tensionConversion (c : Chan) (raw : Fin 65536)
  /-- The missing-conversion interval of a channel expires (02 R31). -/
  | missingConversionExpiry (c : Chan)
  /-- A feedback input of a brake takes a value (04 R67). -/
  | brakeFeedbackChange (b : Brake) (input : FeedbackInput) (value : Bool)
  /-- A release proof interval expires (04 R65). -/
  | releaseProofExpiry (b : Brake)
  /-- An apply proof interval expires (04 R66). -/
  | applyProofExpiry (b : Brake)
  /-- The drive reports READY or FAULT (04 R68). -/
  | driveReportChange (ready : Bool)
  /-- The 500 ms sample of a service stop (04 R74). -/
  | escalationSample
  /-- A 500 ms escalation check of a service stop (04 R74). -/
  | escalationCheck
  /-- The departure warning interval expires (03 R51). -/
  | warningExpiry
  /-- The brake test pulse interval expires (05 R87). -/
  | pulseExpiry
  /-- A car reports its track brake (03 R62). -/
  | carTrackBrakeReport (c : Car) (applied : Bool)
  /-- A car reports its emergency button (03 R62). -/
  | carEmergencyButtonReport (c : Car) (pressed : Bool)
  /-- A car asks to stop at a station (03 R62). -/
  | carStopRequest (c : Car) (station : Nat)
  /-- A car reports the three inputs of its doors (06 R94). -/
  | carDoorReport (c : Car) (closed opened obstructed : Bool)
  /-- The silence interval of a car line expires (03 R62). -/
  | carLineSilenceExpiry (c : Car)
  /-- An input of a station's platform doors takes a value (06 R94). -/
  | platformDoorInputChange (station : Fin 6) (input : DoorInput) (value : Bool)
  /-- The open proof interval of a door set expires (06 R99). -/
  | openProofExpiry (set : Fin 8)
  /-- The close proof interval of a door set expires (06 R104). -/
  | closeProofExpiry (set : Fin 8)
  /-- The dwell interval expires (06 R100). -/
  | dwellExpiry
  /-- A ticket is presented at a lane (08 R132). -/
  | lanePresentation (lane : Fin 16) (serial : Fin 4294967296)
  /-- A lane's passage sensor reports a passage (08 R133, R135, R136). -/
  | lanePassage (lane : Fin 16)
  /-- The passage interval of a lane expires (08 R134). -/
  | passageTimeout (lane : Fin 16)
  /-- A leaf jam input is asserted (08 R130). -/
  | leafJam (lane : Fin 16)
  /-- A leaf jam input is withdrawn (08 R130). -/
  | leafJamWithdrawn (lane : Fin 16)
  /-- The load cross-check settle interval expires (08 R146). -/
  | settleIntervalExpiry
  /-- The supervision interval expires (09 R159). -/
  | supervisionExpiry
  /-- A byte arrives on the line link (11 R177). -/
  | linkByte (b : Byte)
  /-- The gap interval of the receiver expires (11 R177). -/
  | gapIntervalExpiry
  /-- The transmitter finishes a frame (11 R184). -/
  | frameSendEnd
  /-- Time passes and an effective ceiling falls (03 R40). -/
  | effectiveCeilingFall (elapsed : Nat)
  /-- The line clock reaches its end and stops (07 R124). -/
  | lineClockStop
  deriving DecidableEq, Repr

end Sys2Proof
end

