-- ==== Sys2Proof/Config.lean ====
section
/-!
DEFINITION. What the manual leaves open as a value: the free values. They have no body, so nothing can
be proved of them and a claim holds whatever they are.
-/

namespace Sys2Proof

/-- The magnitude, in tenths of a mm/s, of a speed estimate whose mean period T is 0: 02 R21 divides by
T and states no result there. It is taken for each number of periods held and each counts per metre
(log 9). -/
opaque Config.zeroPeriodSpeed : Nat → Nat → Nat

/-- A correction of a car, counted from −6,000,000 mm, after a capture whose sum lies outside the range that
01 R7 gives: no rule states the result. It is taken for each correction and each error (log 21). -/
opaque Config.correctionBeyond : Int → Int → Fin 12000001

end Sys2Proof
end

