-- ==== Sys2Proof/Machine/State.lean ====
section
/-!
DEFINITION. The state of the part, block by block, its outgoing frames, and its reset.

Units: positions in millimetres; the rope position and other travel in units of 1 / (DRIVE counts per
metre) mm, so that one count is 1,000 of them (01 R6); times in microseconds since full reset unless
they are line clock values in milliseconds; speed estimates in 0.1 mm/s (02 section 2.1); ceilings and
demands in 0.000001 mm/s (log 10); tension readings in 0.001 kg (02 section 2.2).
A field whose name ends in `Due` is an interval: none while stopped, else the time at which it ends.
-/

namespace Sys2Proof.Machine

/-! ### Refusal codes of replies -/

/-- The refusal codes of a REFUSED reply, in the order of 11 R180. -/
inductive RefusalCode where
  | format
  | unknownKind
  | authority
  | mode
  | notConfigured
  | state
  | bounds
  | symmetry
  | direction
  | offStop
  | brakeTestDue
  | blockedByFault
  | notEmpty
  | overlap
  | inUse
  | notFound
  | full
  deriving DecidableEq, Repr

/-! ### The fault table, chapter 10 -/

/-- The fault codes 1 to 22 (10 section 10.1). -/
inductive FaultCode where
  | carBrakeTripped
  | overtravel
  | overspeedEmergency
  | encoderDisagree
  | positionDisagree
  | ropeTensionLimit
  | brakeFeedback
  | operatorEmergency
  | overspeedService
  | brakeEscalated
  | doorUnproven
  | carEmergencyRequest
  | carLinkLost
  | supervisionLost
  | tensionChannelFault
  | stopOverrun
  | markerMissed
  | brakeTestFailed
  | doorTimeout
  | doorObstructed
  | loadDisagree
  | gateLaneFault
  deriving DecidableEq, Repr

/-- The class of a fault (10 section 10.1). -/
inductive FaultClass where
  | emergency
  | service
  | block
  | report
  deriving DecidableEq, Repr

/-- How the condition of a fault ends: at its raise, to a latched slot, or clearing itself
(10 section 10.1). -/
inductive FaultKind where
  | event
  | latched
  | selfClearing
  deriving DecidableEq, Repr

/-- A fault key: a code with the index of its subject (10 R167). -/
structure FaultKey where
  code : FaultCode
  subject : Nat
  deriving DecidableEq, Repr

/-- The state of a present slot (10 R168). -/
inductive SlotState where
  | active
  | ended
  deriving DecidableEq, Repr

/-- The record of a present slot; its times are line clock values (10 R168). -/
structure FaultRec where
  state : SlotState
  first : Nat
  last : Nat
  count : Nat
  deriving DecidableEq, Repr

/-- The fault table: 69 slots in the order of ranking, `none` for ABSENT (10 R167, R172). -/
structure FaultTable where
  slots : List (Option FaultRec)
  deriving DecidableEq, Repr

/-! ### Line geometry and position, chapter 1 -/

/-- The position states (01 section 1.4). -/
inductive PosState where
  | unknown
  | referenced
  | doubtful
  deriving DecidableEq, Repr

/-- A marker watch that names a marker (01 R16). -/
structure Watch where
  marker : Nat
  fromBelow : Bool
  captured : Bool
  deriving DecidableEq, Repr

/-- The side of an overtravel excursion (01 R17). -/
inductive Side where
  | below
  | above
  deriving DecidableEq, Repr

/-- The state of LGP (01 R18). -/
structure Lgp where
  /-- the line record, with the defaults of 0 fields applied -/
  line : Option LineRec
  markers : List MarkerRec
  corrLimit : Nat
  /-- rope position in units of 1 / (DRIVE counts per metre) mm -/
  p : Int
  corr : Two Int
  position : PosState
  /-- the complete pair at the entry to DOUBTFUL may not re-reference the line (01 R9, log 12) -/
  freshNeeded : Bool
  presence : Two (Option Nat)
  lastMarker : Two (Option Nat)
  watch : Two (Option Watch)
  overtravel : Two (Option Side)
  /-- the six presence inputs (pins) -/
  presenceIn : List PresenceReport
  deriving DecidableEq, Repr

/-! ### Speed and tension, chapter 2 -/

/-- A speed channel (02 section 2.1). -/
structure SpeedChannel where
  /-- edge times, oldest first, at most nine -/
  history : List Nat
  sense : Option Dir
  lastEdge : Option Nat
  quiet : Bool
  quietDue : Option Nat
  deriving DecidableEq, Repr

/-- The states of a tension channel (02 R30). -/
inductive TensionState where
  | filling
  | valid
  | silent
  | recovering
  deriving DecidableEq, Repr

/-- The limits of a tension channel in kilograms (02 section 2.2). -/
structure TensionLimits where
  min : Int
  max : Int
  standbyMin : Int
  standbyMax : Int
  deriving DecidableEq, Repr

/-- A tension channel: settings and running state (02 section 2.2). -/
structure TensionChannel where
  /-- the range setting: 0 LOW, 1 HIGH -/
  range : Nat
  rate : Nat
  size : Nat
  gain : Nat
  offset : Int
  limits : Option TensionLimits
  state : TensionState
  /-- readings in 0.001 kg, oldest first -/
  window : List Int
  /-- raw value and reading of the latest conversion -/
  latest : Option (Nat × Int)
  /-- the average in 0.001 kg, none while invalid -/
  average : Option Int
  outside : Nat
  limitCondition : Bool
  standbyFlag : Bool
  missingDue : Option Nat
  deriving DecidableEq, Repr

/-- The state of STU (02 R27, R36). -/
structure Stu where
  speed : Two SpeedChannel
  magnitudeHolds : Bool
  directionHolds : Bool
  disagreeDue : Option Nat
  tension : Two TensionChannel
  deriving DecidableEq, Repr

/-! ### Haul controller, chapter 3 -/

/-- A segment of a loaded class. While its ceiling falls after an amendment at a crossing, `falling` is
its effective ceiling in 0.000001 mm/s (03 R40). -/
structure Segment where
  start : Nat
  ceiling : Nat
  accel : Nat
  decel : Nat
  falling : Option Nat
  deriving DecidableEq, Repr

/-- A pending amendment of a class (03 R39). -/
structure Amendment where
  segment : Nat
  ceiling : Nat
  accel : Nat
  decel : Nat
  deriving DecidableEq, Repr

/-- The weather states (03 R41). -/
inductive Weather where
  | dry
  | wet
  | ice
  deriving DecidableEq, Repr

/-- The haul states (03 section 3.5). -/
inductive HaulState where
  | parked
  | warning
  | releasing
  | running
  | approach
  | stopping
  | tripped
  | brakeTest
  deriving DecidableEq, Repr

/-- The states of the trip record (03 section 3.5). -/
inductive TripState where
  | none
  | active
  | suspended
  | completed
  | abandoned
  deriving DecidableEq, Repr

/-- The class or kind of a trip (03 R38, R41). -/
inductive TripKind where
  | cls (n : Nat)
  | inspection
  | recovery
  deriving DecidableEq, Repr

/-- The end causes of a trip (03 section 3.5). -/
inductive EndCause where
  | arrival
  | hold
  | overrun
  | fault (code : FaultCode)
  | restart
  deriving DecidableEq, Repr

/-- The fields of an opened trip record (03 section 3.5). `origin` none is off-stop; `topSpeed` is in
0.1 mm/s. -/
structure TripRec where
  number : Nat
  origin : Option Nat
  target : Option Nat
  dir : Dir
  kind : TripKind
  committed : Bool
  batches : Option (Two Nat)
  reapproach : Bool
  startTime : Nat
  topSpeed : Nat
  deriving DecidableEq, Repr

/-- The trip record: its state, its fields once one was opened, its end cause (03 section 3.5). -/
structure Trip where
  state : TripState
  rec? : Option TripRec
  cause : Option EndCause
  deriving DecidableEq, Repr

/-- The automatic cycle stages (03 section 3.11). -/
inductive Cycle where
  | none
  | boarding
  | ready
  | held
  deriving DecidableEq, Repr

/-- What the part commands the drive (03 R43, 04 R73, 05 R87). Demands are in 0.000001 mm/s. -/
inductive DriveCommand where
  | noTorque
  | holding
  | speed (dir : Dir) (demand : Nat)
  | test (dir : Dir) (torque : Nat)
  deriving DecidableEq, Repr

/-- The car line part of a car record (03 section 3.12). -/
structure CarLine where
  alive : Bool
  brakeApplied : Bool
  buttonPressed : Bool
  /-- the stop-request set, ascending -/
  requests : List Nat
  silenceDue : Option Nat
  deriving DecidableEq, Repr

/-- The state of HC (03 R63). -/
structure Hc where
  /-- classes 1 to 4 in order, none while not loaded -/
  classes : List (Option (List Segment))
  /-- the pending amendments of classes 1 to 4 -/
  amendments : List (Option Amendment)
  lineMax : Option Nat
  inspection : Option Nat
  weather : Weather
  haul : HaulState
  trip : Trip
  /-- the trip was made while the position state was not REFERENCED (03 R58) -/
  unreferencedTrip : Bool
  tripCounter : Nat
  heading : Dir
  /-- the host-forced subset, ascending (03 R47) -/
  forced : List Nat
  cycle : Cycle
  waiting : Option RefusalCode
  /-- an arrival in AUTOMATIC waits for the holding brake's proof (03 R56, R61) -/
  arrivalDue : Bool
  carLine : Two CarLine
  warnDue : Option Nat
  warningMs : Nat
  /-- imb1, imb2, imb3 in kilograms, none while unconfigured -/
  thresholds : Option (Nat × Nat × Nat)
  commitRef : Int
  /-- the ramp of the speed demand, in 0.000001 mm/s (03 R43) -/
  ramp : Nat
  drive : DriveCommand
  deriving DecidableEq, Repr

/-! ### Brake ladder, chapter 4 -/

/-- The brake states (04 R64). -/
inductive BrakeState where
  | applied
  | releasing
  | released
  | applying
  deriving DecidableEq, Repr

/-- A brake as BL holds it; its output is a view of its state (04 R64). -/
structure BrakeRec where
  state : BrakeState
  appliedIn : Bool
  releasedIn : Bool
  proofDue : Option Nat
  deriving DecidableEq, Repr

/-- The cause of a service stop (04 section 4.5). -/
inductive StopCause where
  | hold
  | fault (code : FaultCode)
  deriving DecidableEq, Repr

/-- The stop record of the service stop in progress (04 section 4.5). `nextDue` is the next 500 ms
point: the sample while `sample` is none, a check afterwards (04 R74). -/
structure StopRec where
  stage : Nat
  start : Nat
  ceiling : Nat
  cause : StopCause
  sample : Option Nat
  nextDue : Nat
  deriving DecidableEq, Repr

/-- The state of BL, less its haul states (04 R83). -/
structure Bl where
  brakes : Two BrakeRec
  driveReady : Bool
  stop : Option StopRec
  /-- the cause of a stop that went to stage 3, until the BRAKES notice of that event is sent (R76) -/
  stage3 : Option StopCause
  trippedCeiling : Nat
  serviceTest : Bool
  emergencyTest : Bool
  deriving DecidableEq, Repr

/-! ### Brake proving, chapter 5 -/

/-- A completed test; the slip is in tenths of a millimetre (05 R84). -/
structure TestRec where
  pass : Bool
  day : Nat
  slip : Nat
  torque : Nat
  dir : Dir
  deriving DecidableEq, Repr

/-- The phases of a test in progress (05 R84). -/
inductive TestPhase where
  | lifting
  | pulse
  | restoring
  deriving DecidableEq, Repr

/-- The test in progress; `start` and `slip` are rope positions and travel (05 R84). -/
structure Test where
  brake : Brake
  dir : Dir
  torque : Nat
  duration : Nat
  phase : TestPhase
  start : Option Int
  slip : Option Nat
  deriving DecidableEq, Repr

/-- The state of BPU (05 R92). -/
structure Bpu where
  records : Two (Option TestRec)
  test : Option Test
  pulseDue : Option Nat
  deriving DecidableEq, Repr

/-! ### Doors, chapter 6 -/

/-- The three inputs of a door set (06 section 6.1). -/
structure DoorInputs where
  closed : Bool
  opened : Bool
  obstructed : Bool
  deriving DecidableEq, Repr

/-- The door set states (06 R93). -/
inductive DoorState where
  | locked
  | opening
  | open
  | closing
  | unproven
  deriving DecidableEq, Repr

/-- The command of a door set (06 section 6.1). -/
inductive DoorCommand where
  | none
  | open
  | close
  deriving DecidableEq, Repr

/-- A running proof interval: the line clock at its start and the time of its expiry (06 R93, R108). -/
structure Proof where
  start : Nat
  due : Nat
  deriving DecidableEq, Repr

/-- A door set record, less its inputs, which `Dc.inputs` holds (06 R93). The running proof is the open
proof in OPENING and the close proof in CLOSING. -/
structure DoorSet where
  state : DoorState
  command : DoorCommand
  proof : Option Proof
  reopen : Nat
  hold : Bool
  lastProof : Option Nat
  deriving DecidableEq, Repr

/-- A released pair record (06 R95). -/
structure Released where
  stop : Nat
  closeDemand : Bool
  closureStopped : Bool
  deriving DecidableEq, Repr

/-- A pair record: empty or released, and the stop of a pending automatic release (06 R95, R97). -/
structure PairRec where
  released : Option Released
  pendingStop : Option Nat
  deriving DecidableEq, Repr

/-- The dwell state; `start` is a line clock value and `due` the time of its expiry (06 R100). -/
inductive Dwell where
  | idle
  | running (start : Nat) (due : Nat)
  | expired
  deriving DecidableEq, Repr

/-- The state of DC (06 R109). -/
structure Dc where
  /-- the inputs of door sets 0 to 7, whether or not the table has the set -/
  inputs : List DoorInputs
  sets : List DoorSet
  pairs : Two PairRec
  dwell : Dwell
  dwellS : Nat
  /-- how many door messages were sent to each car (06 R94, log 29) -/
  doorMessages : Two Nat
  deriving DecidableEq, Repr

/-! ### Tickets, chapter 7 -/

/-- The ticket classes (07 section 7.1). -/
inductive TicketClass where
  | single
  | return
  | day
  | staff
  deriving DecidableEq, Repr

/-- A ticket block record. `marks` holds the set use marks at the bit positions of the bitmap layout
(07 section 7.1). -/
structure TicketBlock where
  id : Nat
  first : Nat
  count : Nat
  cls : TicketClass
  firstDay : Nat
  lastDay : Nat
  marks : Nat
  deriving DecidableEq, Repr

/-- An entry of the passback list (07 section 7.4). -/
structure PassbackEntry where
  serial : Nat
  station : Nat
  time : Nat
  deriving DecidableEq, Repr

/-- The undo record of a validation (07 R118): a mark by its bit position, a passback entry by its
station and time, or nothing. -/
inductive Undo where
  | mark (bit : Nat)
  | passback (station : Nat) (time : Nat)
  | nothing
  deriving DecidableEq, Repr

/-- The state of TT (07 R126). -/
structure Tt where
  blocks : List TicketBlock
  passback : List PassbackEntry
  passbackS : Nat
  day : Nat
  clock : Nat
  /-- microseconds since the clock last counted (log 25) -/
  clockUs : Nat
  deriving DecidableEq, Repr

/-! ### Lanes, queues and loads, chapter 8 -/

/-- The lane roles (08 section 8.1). -/
inductive LaneRole where
  | entryUp
  | entryDown
  | exit
  deriving DecidableEq, Repr

/-- The lane states (08 R128). -/
inductive LaneState where
  | closed
  | open
  | passage
  | blocked
  deriving DecidableEq, Repr

/-- The outcomes of a presentation or passage window (08 section 8.1). -/
inductive LaneOutcome where
  | admits
  | laneClosed
  | queueFull
  | unknown
  | notValid
  | used
  | passback
  | timeout
  deriving DecidableEq, Repr

/-- A passage in progress. Its queue entry is the one of this serial in the lane's queue (08 R132). -/
structure Passage where
  serial : Nat
  undo : Undo
  /-- line clock at which the window started (08 R148) -/
  start : Nat
  due : Nat
  deriving DecidableEq, Repr

/-- A lane record, less its state, which is a view (08 section 8.1). -/
structure Lane where
  id : Nat
  station : Nat
  role : LaneRole
  hostClosed : Bool
  jammed : Bool
  passage : Option Passage
  lastSerial : Option Nat
  lastOutcome : Option LaneOutcome
  countDay : Nat
  admissions : Nat
  refusals : Nat
  passages : Nat
  unpaid : Nat
  deriving DecidableEq, Repr

/-- A queue entry; `admitted` none is PENDING (08 R137). -/
structure Entry where
  serial : Nat
  cls : TicketClass
  lane : Nat
  admitted : Option Nat
  batch : Option Car
  deriving DecidableEq, Repr

/-- An admission queue, less its state, which is a view (08 R137). -/
structure Queue where
  hostClosed : Bool
  entries : List Entry
  deriving DecidableEq, Repr

/-- The queue states (08 R138). -/
inductive QueueState where
  | closed
  | full
  | lastCall
  | open
  deriving DecidableEq, Repr

/-- A fixed boarding batch; its entries carry the car's batch mark (08 section 8.4). -/
structure Batch where
  stop : Nat
  queue : Nat
  deriving DecidableEq, Repr

/-- The state of GQU (08 R149). A load none is UNKNOWN. -/
structure Gqu where
  lanes : List Lane
  /-- the sixteen leaf jam inputs (pins) -/
  jamIn : List Bool
  queues : List Queue
  /-- ten pairs: last-call offset m, demand offset n -/
  offsets : List (Nat × Nat)
  batches : Two (Option Batch)
  loads : Two (Option Nat)
  capacity : Option Nat
  mass : Nat
  tolerance : Option Nat
  passageMs : Nat
  disagree : Bool
  settleDue : Option Nat
  deriving DecidableEq, Repr

/-! ### Modes and authority, chapter 9 -/

/-- The line modes (09 section 9.1). -/
inductive LineMode where
  | off
  | automatic
  | attended
  | inspection
  | recovery
  deriving DecidableEq, Repr

/-- The supervision states (09 R159). -/
inductive Supervision where
  | suspended
  | running
  | lost
  deriving DecidableEq, Repr

/-- The wake causes (09 R162). -/
inductive WakeCause where
  | link
  | tension
  | movement
  | carLine
  | power
  deriving DecidableEq, Repr

/-- The configuration record: which of the eight items are accepted (09 R158). -/
structure ConfigRecord where
  line : Bool
  /-- profile classes 1 to 4 -/
  profiles : List Bool
  tension : Bool
  lanes : Bool
  params : Bool
  deriving DecidableEq, Repr

/-- The state of MAU (09 R166). -/
structure Mau where
  mode : LineMode
  posts : List Nat
  config : ConfigRecord
  supervision : Supervision
  supDue : Option Nat
  supMs : Nat
  /-- time of the last valid frame (09 R165, log 19) -/
  lastFrame : Option Nat
  /-- the wake cause set in the order of 09 R162 -/
  wakeSet : List WakeCause
  wakeCount : Nat
  latestWake : Option (WakeCause × Nat)
  /-- the standby travel, which is standbyTravel / standbyScale millimetres (09 R163, log 35) -/
  standbyTravel : Int
  standbyScale : Nat
  deriving DecidableEq, Repr

/-! ### What replies and notices carry (11 R182, R185) -/

/-- A present fault slot as it is reported (10 R175). -/
structure FaultEntry where
  key : FaultKey
  cls : FaultClass
  record : FaultRec
  deriving DecidableEq, Repr

/-- The content of a FAULT notice (10 R175). -/
structure FaultReport where
  mostUrgent : Option FaultEntry
  present : List FaultEntry
  deriving DecidableEq, Repr

/-- The content of a HAUL notice (03 R44). -/
structure HaulReport where
  haul : HaulState
  stop : Option Nat
  heading : Dir
  demandSet : List Nat
  forced : List Nat
  cycle : Cycle
  waiting : Option RefusalCode
  deriving DecidableEq, Repr

/-- The content of a MODE notice (09 R165). -/
structure ModeReport where
  mode : LineMode
  config : ConfigRecord
  supervision : Supervision
  deriving DecidableEq, Repr

/-- The content of a WAKE notice (09 R162). -/
structure WakeReport where
  causes : List WakeCause
  count : Nat
  latest : Option (WakeCause × Nat)
  deriving DecidableEq, Repr

/-- The batch part of a car record (08 R145). -/
structure BatchReport where
  stop : Nat
  queue : Nat
  size : Nat
  deriving DecidableEq, Repr

/-- A whole car record (01 R19, 08 R145, 03 section 3.12). -/
structure CarReport where
  x : Int
  corr : Int
  lastMarker : Option Nat
  presence : Option Nat
  position : PosState
  load : Option Nat
  capacity : Option Nat
  batch : Option BatchReport
  alive : Bool
  brakeApplied : Bool
  buttonPressed : Bool
  requests : List Nat
  deriving DecidableEq, Repr

/-- A brake as BRAKES_READ reports it (11 R182). -/
structure BrakeReport where
  state : BrakeState
  outputRelease : Bool
  appliedIn : Bool
  releasedIn : Bool
  deriving DecidableEq, Repr

/-- The content of BRAKES_READ and of a BRAKES notice (11 R182). The ceiling is in mm/s. -/
structure BrakesReport where
  brakes : Two BrakeReport
  driveReady : Bool
  stage : Nat
  cause : Option StopCause
  ceiling : Nat
  records : Two (Option TestRec)
  valid : Two Bool
  test : Option Test
  /-- p_start of the test in progress, in mm -/
  testStart : Option Int
  /-- the largest slip of the test in progress, in tenths of a mm -/
  testSlip : Option Nat
  deriving DecidableEq, Repr

/-- The content of a DOOR notice (06 R108). -/
structure DoorReport where
  set : Nat
  record : DoorSet
  inputs : DoorInputs
  pair : Option (Car × Option Released × Option Nat)
  /-- for door sets 0 and 1, the dwell state -/
  dwell : Option Dwell
  deriving DecidableEq, Repr

/-- The fields of a queue that a QUEUE notice carries (08 R148). -/
structure QueueFields where
  number : Nat
  station : Nat
  dir : Dir
  state : QueueState
  hostClosed : Bool
  offsets : Nat × Nat
  entryCount : Nat
  admittedCount : Nat
  deriving DecidableEq, Repr

/-- The content of QUEUE_READ (11 R182). -/
structure QueueReport where
  fields : QueueFields
  entries : List Entry
  deriving DecidableEq, Repr

/-- The content of LANE_READ and of a LANE notice (08 R148). -/
structure LaneReport where
  record : Lane
  state : LaneState
  deriving DecidableEq, Repr

/-- The content of TRIP_READ; a TRIP notice carries the record (03 R45, 11 R182). -/
structure TripReport where
  trip : Trip
  counter : Option Nat
  deriving DecidableEq, Repr

/-- A tension channel as TENSION_READ reports it (02 R34). Values are in whole kilograms. -/
structure ChannelReport where
  settings : TensionSettings
  limitsKnown : Bool
  state : TensionState
  readings : Nat
  latest : Option (Int × Nat)
  average : Option Int
  limitCondition : Bool
  deriving DecidableEq, Repr

/-- The content of TENSION_READ (02 R34). -/
structure TensionReport where
  channels : Two ChannelReport
  imbalance : Option Int
  deriving DecidableEq, Repr

/-- The content of TICKET_QUERY's reply (07 R114). -/
structure TicketReport where
  block : Nat
  cls : TicketClass
  firstDay : Nat
  lastDay : Nat
  inDays : Bool
  /-- the one mark of SINGLE, the UP and DOWN marks of RETURN, none otherwise -/
  marks : List Bool
  passback : Option PassbackEntry
  deriving DecidableEq, Repr

/-- A pair record as STATUS_READ reports it: with the car door set and the platform door set of a released pair
(06 R95). -/
structure PairReport where
  record : PairRec
  sets : Option (List Nat)
  deriving DecidableEq, Repr

/-- The content of STATUS_READ, block by block in the order of 11 R182. Speeds are in whole mm/s. -/
structure StatusReport where
  position : PosState
  stationIds : List Nat
  standstill : Bool
  lineSpeed : Nat
  lineDir : Option Dir
  estimates : Two Int
  haul : HaulReport
  weather : Weather
  pendingAmendments : List Bool
  driveReady : Bool
  doors : List DoorReport
  pairs : Two PairReport
  day : Nat
  clock : Nat
  mode : LineMode
  config : ConfigRecord
  posts : List Nat
  supervision : Supervision
  supMs : Nat
  /-- milliseconds since the last valid frame -/
  sinceFrame : Option Nat
  wake : WakeReport
  mostUrgent : Option FaultEntry
  presentPerClass : List Nat
  deriving DecidableEq, Repr

/-- What a reply or a notice carries. -/
inductive Content where
  | empty
  | ticket (r : TicketReport)
  | tripNumber (n : Nat)
  | resumeNumber (n : Option Nat)
  | amended (pending : Bool)
  | removed (n : Nat)
  | status (r : StatusReport)
  | car (r : CarReport)
  | queue (r : QueueReport)
  | lane (r : LaneReport)
  | faults (r : FaultReport)
  | trip (r : TripReport)
  | brakes (r : BrakesReport)
  | tension (r : TensionReport)
  | haul (r : HaulReport)
  | mode (r : ModeReport)
  | wake (r : WakeReport)
  | door (r : DoorReport)
  | queueFields (r : QueueFields)
  deriving DecidableEq, Repr

/-- A reply frame: kind, tag, refusal code or DONE, body (11 R180). -/
structure Reply where
  kind : Nat
  tag : Nat
  refusal : Option RefusalCode
  body : Content
  deriving DecidableEq, Repr

/-- The notice keys (11 section 11.4). -/
inductive NoticeKey where
  | haul
  | mode
  | trip
  | brakes
  | fault
  | wake
  | car (c : Car)
  | door (set : Nat)
  | queue (q : Nat)
  | lane (id : Nat)
  deriving DecidableEq, Repr

/-- A frame that the transmitter sends: a reply, or the notice of a key with its content, none when its
subject does not exist (11 R184, R185). -/
inductive OutFrame where
  | reply (r : Reply)
  | notice (k : NoticeKey) (content : Option Content)
  deriving DecidableEq, Repr

/-- What a checked frame asks (11 R179): a kind that is no request kind, a request kind whose body
length does not match, or a request. -/
inductive FrameContent where
  | unknownKind (kind : Nat)
  | badLength (kind : Nat)
  | request (r : Request)
  deriving DecidableEq, Repr

/-- A frame of the receive holding (11 R178). -/
structure HeldFrame where
  header : Header
  content : FrameContent
  deriving DecidableEq, Repr

/-- The frame on the line and the time at which its sending ends (11 R184). -/
structure Sending where
  frame : OutFrame
  due : Nat
  deriving DecidableEq, Repr

/-- The state of LL (11 R186). `rx` is none while HUNTING, else the bytes received after the start
byte. -/
structure Ll where
  rx : Option (List Byte)
  gapDue : Option Nat
  holding : List HeldFrame
  replySlot : Option Reply
  sending : Option Sending
  notices : List NoticeKey
  deriving DecidableEq, Repr

/-! ### The whole state -/

/-- The state of the part: the commands waiting, the time in microseconds since full reset, and each
block's body of state (00, Block overview). -/
structure State where
  pending : List Instr
  now : Nat
  lgp : Lgp
  stu : Stu
  hc : Hc
  bl : Bl
  bpu : Bpu
  dc : Dc
  tt : Tt
  gqu : Gqu
  mau : Mau
  ft : FaultTable
  ll : Ll
  deriving DecidableEq, Repr

/-- The part's commands have no machine fault: whatever goes wrong on the line is a slot of its own
fault table and every command gives a next state. No meaning raises one (safe). -/
inductive Fault where
  deriving DecidableEq, Repr

/-- Why the model has no meaning for a command. -/
inductive Refusal where
  /-- Raised by exec for a row that has no meaning yet; no row is left so. Safe: the model stops. -/
  | notModelled (mnemonic : String)
  deriving DecidableEq, Repr

/-! ### Reset -/

/-- A speed channel after full reset: the quiet interval of 500 ms runs (02 R22, R27). -/
def SpeedChannel.reset : SpeedChannel :=
  { history := [], sense := none, lastEdge := none, quiet := false, quietDue := some 500000 }

/-- A tension channel after full reset: its missing-conversion interval runs at 5 readings/s
(02 R36). -/
def TensionChannel.reset : TensionChannel :=
  { range := 1, rate := 5, size := 1, gain := 1000, offset := 0, limits := none, state := .filling,
    window := [], latest := none, average := none, outside := 0, limitCondition := false,
    standbyFlag := false, missingDue := some 800000 }

/-- A car line after full reset: its silence interval of 2,000 ms runs (03 R63). -/
def CarLine.reset : CarLine :=
  { alive := false, brakeApplied := false, buttonPressed := false, requests := [],
    silenceDue := some 2000000 }

/-- A brake after full reset, with feedback that agrees with APPLIED (04 R83, log 8). -/
def BrakeRec.reset : BrakeRec :=
  { state := .applied, appliedIn := true, releasedIn := false, proofDue := none }

/-- LGP after full reset (01 R18). -/
def Lgp.reset : Lgp :=
  { line := none, markers := [], corrLimit := 500, p := 0, corr := ⟨0, 0⟩, position := .unknown,
    freshNeeded := false, presence := ⟨none, none⟩, lastMarker := ⟨none, none⟩,
    watch := ⟨none, none⟩, overtravel := ⟨none, none⟩,
    presenceIn := List.replicate 6 .none }

/-- STU after full reset (02 R27, R36). -/
def Stu.reset : Stu :=
  { speed := ⟨SpeedChannel.reset, SpeedChannel.reset⟩, magnitudeHolds := false,
    directionHolds := false, disagreeDue := none,
    tension := ⟨TensionChannel.reset, TensionChannel.reset⟩ }

/-- HC after full reset (03 R63). -/
def Hc.reset : Hc :=
  { classes := List.replicate 4 none, amendments := List.replicate 4 none, lineMax := none,
    inspection := none, weather := .ice, haul := .tripped,
    trip := { state := .none, rec? := none, cause := none }, unreferencedTrip := false,
    tripCounter := 0, heading := .up, forced := [], cycle := .none, waiting := none,
    arrivalDue := false, carLine := ⟨CarLine.reset, CarLine.reset⟩, warnDue := none,
    warningMs := 5000, thresholds := none, commitRef := 0, ramp := 0, drive := .noTorque }

/-- BL after full reset; the tripped ceiling is the creep speed of 300 mm/s (04 R83). -/
def Bl.reset : Bl :=
  { brakes := ⟨BrakeRec.reset, BrakeRec.reset⟩, driveReady := true, stop := none,
    stage3 := none, trippedCeiling := 300000000, serviceTest := false, emergencyTest := false }

/-- BPU after full reset (05 R92). -/
def Bpu.reset : Bpu :=
  { records := ⟨none, none⟩, test := none, pulseDue := none }

/-- DC after full reset (06 R109). -/
def Dc.reset : Dc :=
  { inputs := List.replicate 8 { closed := false, opened := false, obstructed := false }, sets := [],
    pairs := ⟨{ released := none, pendingStop := none }, { released := none, pendingStop := none }⟩,
    dwell := .idle, dwellS := 30, doorMessages := ⟨0, 0⟩ }

/-- TT after full reset (07 R126). -/
def Tt.reset : Tt :=
  { blocks := [], passback := [], passbackS := 600, day := 0, clock := 0, clockUs := 0 }

/-- GQU after full reset (08 R149). -/
def Gqu.reset : Gqu :=
  { lanes := [], jamIn := List.replicate 16 false, queues := [], offsets := List.replicate 10 (20, 0),
    batches := ⟨none, none⟩, loads := ⟨some 0, some 0⟩, capacity := none, mass := 80,
    tolerance := none, passageMs := 8000, disagree := false, settleDue := none }

/-- MAU after full reset, in line mode OFF with the wake event of cause POWER made (09 R162, R166). -/
def Mau.reset : Mau :=
  { mode := .off, posts := [0, 3, 3, 3, 3, 3, 3, 3],
    config := { line := false, profiles := List.replicate 4 false, tension := false, lanes := false,
                params := false },
    supervision := .suspended, supDue := none, supMs := 2000, lastFrame := none,
    wakeSet := [.power], wakeCount := 1, latestWake := some (.power, 0), standbyTravel := 0,
    standbyScale := 1 }

/-- FT after full reset: all 69 slots ABSENT (10 R176). -/
def FaultTable.reset : FaultTable :=
  { slots := List.replicate 69 none }

/-- LL after full reset: the notice list holds MODE and WAKE (11 R186). -/
def Ll.reset : Ll :=
  { rx := none, gapDue := none, holding := [], replySlot := none, sending := none,
    notices := [.mode, .wake] }

/-- The part right after full reset, with no command waiting (the blocks' tables of reset values; the
levels of the input pins are those of log 8). -/
def State.reset : State :=
  { pending := [], now := 0, lgp := Lgp.reset, stu := Stu.reset, hc := Hc.reset, bl := Bl.reset,
    bpu := Bpu.reset, dc := Dc.reset, tt := Tt.reset, gqu := Gqu.reset, mau := Mau.reset,
    ft := FaultTable.reset, ll := Ll.reset }

end Sys2Proof.Machine
end

