-- ==== Sys2Proof/Machine/Operands.lean ====
section
/-!
DEFINITION. The readings that rules take of the state: positions, estimates, ceilings, stops, lane and
queue states, averages. Nothing here changes the state.
-/

namespace Sys2Proof

/-! ### Choosing one of two -/

/-- The one of car c. -/
def Two.car {α : Type} (t : Two α) : Car → α
  | .a => t.fst
  | .b => t.snd

/-- t with car c's changed to x. -/
def Two.setCar {α : Type} (t : Two α) (c : Car) (x : α) : Two α :=
  match c with
  | .a => { t with fst := x }
  | .b => { t with snd := x }

/-- The one of brake b. -/
def Two.brake {α : Type} (t : Two α) : Brake → α
  | .holding => t.fst
  | .emergency => t.snd

/-- t with brake b's changed to x. -/
def Two.setBrake {α : Type} (t : Two α) (b : Brake) (x : α) : Two α :=
  match b with
  | .holding => { t with fst := x }
  | .emergency => { t with snd := x }

/-- The one of channel c. -/
def Two.chan {α : Type} (t : Two α) : Chan → α
  | .one => t.fst
  | .two => t.snd

/-- t with channel c's changed to x. -/
def Two.setChan {α : Type} (t : Two α) (c : Chan) (x : α) : Two α :=
  match c with
  | .one => { t with fst := x }
  | .two => { t with snd := x }

/-- The one of encoder e. -/
def Two.encoder {α : Type} (t : Two α) : Encoder → α
  | .drive => t.fst
  | .sheave => t.snd

/-- t with encoder e's changed to x. -/
def Two.setEncoder {α : Type} (t : Two α) (e : Encoder) (x : α) : Two α :=
  match e with
  | .drive => { t with fst := x }
  | .sheave => { t with snd := x }

/-- The other brake (05 R84). -/
def Brake.other : Brake → Brake
  | .holding => .emergency
  | .emergency => .holding

/-- The other direction. -/
def Dir.opposite : Dir → Dir
  | .up => .down
  | .down => .up

/-- +1 for UP, −1 for DOWN. -/
def Dir.sign : Dir → Int
  | .up => 1
  | .down => -1

/-- The index of a car: door set 0 or 1, subject 0 or 1 (10 R167). -/
def Car.index : Car → Nat
  | .a => 0
  | .b => 1

/-- The index of a brake as a fault subject (10 R167). -/
def Brake.index : Brake → Nat
  | .holding => 0
  | .emergency => 1

/-- The index of a tension channel as a fault subject (10 R167). -/
def Chan.index : Chan → Nat
  | .one => 0
  | .two => 1

/-! ### Markers -/

/-- Whether a car can pass a marker: LOWER and UPPER are visible to both cars, LOOP_A to car A, LOOP_B to
car B (01 section 1.5). -/
def MarkerRec.visible (m : MarkerRec) (c : Car) : Bool :=
  match c with
  | .a => decide (m.track ≠ 2)
  | .b => decide (m.track ≠ 1)

/-- Whether a position lies within a marker's capture window. -/
def MarkerRec.holds (m : MarkerRec) (x : Int) : Bool :=
  decide ((x - m.position).natAbs ≤ m.window)

end Sys2Proof

namespace Sys2Proof.Machine

/-! ### Numbers -/

/-- n / d rounded to the nearest whole number, halves away from zero (01 R6, 02 section 2.1). -/
def roundDiv (n : Int) (d : Nat) : Int :=
  if n < 0 then -((2 * -n + d) / (2 * d)) else (2 * n + d) / (2 * d)

/-- The largest r with r * r ≤ n among those that `bits` binary digits below r can reach. -/
def isqrtFrom (n : Nat) : Nat → Nat → Nat
  | 0, r => r
  | k + 1, r =>
    let c := r + 2 ^ k
    if c * c ≤ n then isqrtFrom n k c else isqrtFrom n k r

/-- The whole part of the square root of n. -/
def isqrt (n : Nat) : Nat := isqrtFrom n (n.log2 / 2 + 1) 0

/-- Elements in order without those equal to x. -/
def without (x : Nat) (l : List Nat) : List Nat := l.filter (fun y => decide (y ≠ x))

/-- x put into an ascending list that holds each number once. -/
def insertSet (x : Nat) : List Nat → List Nat
  | [] => [x]
  | y :: ys => if x < y then x :: y :: ys else if x = y then y :: ys else y :: insertSet x ys

/-- The list with place i changed by f. -/
def updateAt {α : Type} (i : Nat) (f : α → α) : List α → List α
  | [] => []
  | x :: xs => match i with
    | 0 => f x :: xs
    | j + 1 => x :: updateAt j f xs

/-! ### Positions (chapter 1) -/

/-- DRIVE counts per metre of the line record; 1 before one is loaded. -/
def State.driveCpm (s : State) : Nat :=
  match s.lgp.line with
  | some r => r.driveCpm
  | none => 1

/-- Line length; 0 before a line record is loaded. -/
def State.length (s : State) : Nat :=
  match s.lgp.line with
  | some r => r.length
  | none => 0

/-- Number of stations S; 0 before a line record is loaded. -/
def State.stations (s : State) : Nat :=
  match s.lgp.line with
  | some r => r.stations
  | none => 0

/-- The stop window in force (01 section 1.1). -/
def State.stopWindow (s : State) : Nat :=
  match s.lgp.line with
  | some r => r.window
  | none => 0

/-- A car's position in units of 1 / (DRIVE counts per metre) mm: p + cA for car A, L − p + cB for
car B (01 R7). -/
def State.carFine (s : State) (c : Car) : Int :=
  match c with
  | .a => s.lgp.p + s.lgp.corr.fst * s.driveCpm
  | .b => (s.length : Int) * s.driveCpm - s.lgp.p + s.lgp.corr.snd * s.driveCpm

/-- A car's position rounded to the nearest whole millimetre, halves away from zero (01 R6, R7). -/
def State.carPos (s : State) (c : Car) : Int := roundDiv (s.carFine c) s.driveCpm

/-- The position of station i, if the line has it. -/
def State.stationPos? (s : State) (i : Nat) : Option Nat :=
  match s.lgp.line with
  | some r => (r.table[i]?).map (fun st => st.position)
  | none => none

/-- The station at which a car stands at stop k: station k for car A, S − 1 − k for car B (00). -/
def State.stationOf (s : State) (c : Car) (k : Nat) : Nat :=
  match c with
  | .a => k
  | .b => s.stations - 1 - k

/-- Whether a car's position lies within `tol` of its station of stop k. -/
def State.carNear (s : State) (c : Car) (k tol : Nat) : Bool :=
  match s.stationPos? (s.stationOf c k) with
  | some x => decide ((s.carPos c - x).natAbs ≤ tol)
  | none => false

/-- The window test for stop k on the positions as they stand; failed while UNKNOWN (01 R5). -/
def State.inStop (s : State) (k : Nat) : Bool :=
  decide (s.lgp.position ≠ .unknown) && s.carNear .a k s.stopWindow && s.carNear .b k s.stopWindow

/-- The stop that the window test gives by the positions, or off-stop (01 R5). -/
def State.windowStop (s : State) : Option Nat := (List.range s.stations).find? s.inStop

/-- A car is in overtravel (01 R17). -/
def State.overtravelled (s : State) : Bool :=
  s.lgp.overtravel.fst.isSome || s.lgp.overtravel.snd.isSome

/-- The stop of the haul, or off-stop: that of the window test, and none while a car is in overtravel (01 R5,
03 R44, 04 R81). The rules that name the window test itself read `windowStop` (log 42). -/
def State.stop (s : State) : Option Nat := if s.overtravelled then none else s.windowStop

/-- The presence pair for stop k is complete (01 section 1.2). -/
def State.pairComplete (s : State) (k : Nat) : Bool :=
  decide (s.lgp.presence.fst = some k) && decide (s.lgp.presence.snd = some (s.stations - 1 - k))

/-- The stop whose presence pair is complete, if any. -/
def State.completePair (s : State) : Option Nat := (List.range s.stations).find? s.pairComplete

/-- The presence field of a car formed from the presence inputs: the one station whose input reports
it, none when no input or several do (01 R4). -/
def State.formPresence (s : State) (c : Car) : Option Nat :=
  let sees : PresenceReport := match c with
    | .a => .carA
    | .b => .carB
  match s.lgp.line with
  | none => none
  | some r =>
    match (List.range r.table.length).filter (fun i =>
        match r.table[i]? with
        | some st => decide (s.lgp.presenceIn[st.sensor]? = some sees)
        | none => false) with
    | [i] => some i
    | _ => none

/-- Marker j's record. -/
def State.marker? (s : State) (j : Nat) : Option MarkerRec := s.lgp.markers[j]?

/-- The visible marker of a car whose window holds position x, if any (01 R16). -/
def State.markerAt (s : State) (c : Car) (x : Int) : Option Nat :=
  (List.range s.lgp.markers.length).find? (fun j =>
    match s.lgp.markers[j]? with
    | some m => m.visible c && m.holds x
    | none => false)

/-- The side on which a position lies outside [−margin, L + margin], if it does (01 R17). -/
def State.overtravelSide (s : State) (x : Int) : Option Side :=
  match s.lgp.line with
  | none => none
  | some r =>
    if x < -(r.margin : Int) then some .below
    else if x > (r.length : Int) + r.margin then some .above
    else none

/-! ### Speed (chapter 2) -/

/-- Counts per metre of an encoder, none before a line record is loaded (02 section 2.1). -/
def State.cpm? (s : State) (e : Encoder) : Option Nat :=
  match s.lgp.line, e with
  | some r, .drive => some r.driveCpm
  | some r, .sheave => some r.sheaveCpm
  | none, _ => none

/-- The magnitude of an estimate in 0.1 mm/s: with h periods over `span` microseconds the mean period is
T = span / h; while the time since the newest edge is at most 4 T it is d / T, after that d / τ. Values
are kept to 0.1 mm/s, rounded to nearest (02 R21, log 10). -/
def estimateMagnitude (cpm h span tau : Nat) : Nat :=
  if h = 0 then 0
  else if span = 0 ∧ tau = 0 then Config.zeroPeriodSpeed cpm h
  else if tau * h ≤ 4 * span then (roundDiv (10000000000 * h) (cpm * span)).toNat
  else (roundDiv 10000000000 (cpm * tau)).toNat

/-- The signed estimate of a channel at time `now`, in 0.1 mm/s; 0 for a quiet channel and before a line
record is loaded (02 R20 to R22). -/
def SpeedChannel.estimate (ch : SpeedChannel) (cpm? : Option Nat) (now : Nat) : Int :=
  match cpm?, ch.sense, ch.history.head?, ch.history.getLast? with
  | some cpm, some d, some oldest, some newest =>
    if ch.quiet then 0
    else d.sign * estimateMagnitude cpm (ch.history.length - 1) (newest - oldest) (now - newest)
  | _, _, _, _ => 0

/-- The estimate of an encoder's channel as it stands (02 R21). -/
def State.estimate (s : State) (e : Encoder) : Int :=
  (s.stu.speed.encoder e).estimate (s.cpm? e) s.now

/-- The next moment after `now` at which the magnitude of a channel's estimate may change while no edge comes:
the first beyond 4 T, then the first at which d / τ has fallen by 0.1 mm/s (02 R21). None when it stays. -/
def SpeedChannel.nextChange (ch : SpeedChannel) (cpm? : Option Nat) (now : Nat) : Option Nat :=
  match cpm?, ch.history.head?, ch.history.getLast? with
  | some cpm, some oldest, some newest =>
    let h := ch.history.length - 1
    let v := estimateMagnitude cpm h (newest - oldest) (now - newest)
    if ch.quiet || decide (h = 0) then none
    else if (now - newest) * h ≤ 4 * (newest - oldest) then some (newest + 4 * (newest - oldest) / h + 1)
    else if v = 0 then none else some (newest + 20000000000 / (cpm * (2 * v - 1)) + 1)
  | _, _, _ => none

/-- The next moment at which either estimate may change while no edge comes (02 R21). -/
def State.nextChange (s : State) : Option Nat :=
  match s.stu.speed.fst.nextChange (s.cpm? .drive) s.now, s.stu.speed.snd.nextChange (s.cpm? .sheave) s.now with
  | some x, some y => some (min x y)
  | some x, none => some x
  | none, y => y

/-- Standstill holds while both channels are quiet (02 R23). -/
def State.standstill (s : State) : Bool := s.stu.speed.fst.quiet && s.stu.speed.snd.quiet

/-- The line speed in 0.1 mm/s: the larger magnitude of the two estimates (02 R24). -/
def State.lineSpeed (s : State) : Nat :=
  max (s.estimate .drive).natAbs (s.estimate .sheave).natAbs

/-- The direction of a signed speed. -/
def dirOf (v : Int) : Option Dir := if 0 < v then some .up else if v < 0 then some .down else none

/-- The line direction: the sign of the estimate with the larger magnitude; none at line speed 0 and
for equal magnitudes of opposite signs (02 R24). -/
def State.lineDir (s : State) : Option Dir :=
  let d := s.estimate .drive
  let h := s.estimate .sheave
  if h.natAbs < d.natAbs then dirOf d
  else if d.natAbs < h.natAbs then dirOf h
  else if d = h then dirOf d else none

/-- The magnitude test of the cross-check: the magnitudes differ by more than the larger of 100 mm/s and
5 % of the greater (02 R25). Made only while a line record is loaded. -/
def State.magnitudeTest (s : State) : Bool :=
  let d := (s.estimate .drive).natAbs
  let h := (s.estimate .sheave).natAbs
  let diff := max d h - min d h
  s.lgp.line.isSome && decide (1000 < diff) && decide (max d h < diff * 20)

/-- The direction test of the cross-check: opposite signs and both magnitudes above 100 mm/s
(02 R26). -/
def State.directionTest (s : State) : Bool :=
  let d := s.estimate .drive
  let h := s.estimate .sheave
  s.lgp.line.isSome && decide (1000 < d.natAbs) && decide (1000 < h.natAbs)
    && (decide (0 < d ∧ h < 0) || decide (d < 0 ∧ 0 < h))

/-! ### Tension (chapter 2) -/

/-- The conversion rate in force: 5 readings/s in OFF, else the configured rate (02 R35). -/
def rateInForce (mode : LineMode) (ch : TensionChannel) : Nat :=
  if mode = .off then 5 else ch.rate

/-- The missing-conversion interval in microseconds: 4 reading periods (02 R31). -/
def missingInterval (rate : Nat) : Nat := 4000000 / rate

/-- The reading of a raw value in 0.001 kg (02 R29). -/
def TensionChannel.reading (ch : TensionChannel) (raw : Nat) : Int :=
  (raw : Int) * ch.gain + ch.offset * 1000

/-- The measured imbalance in 0.001 kg, valid while both averages are (02 R34). -/
def State.imbalance (s : State) : Option Int :=
  match s.stu.tension.fst.average, s.stu.tension.snd.average with
  | some x, some y => some (x - y)
  | _, _ => none

/-- Whether a value in 0.001 kg lies within [lo, hi] kilograms (02 R33, R35). -/
def withinKg (lo hi x : Int) : Bool := decide (lo * 1000 ≤ x) && decide (x ≤ hi * 1000)

/-! ### Doors (chapter 6) -/

/-- The inputs of a door set. -/
def State.doorIn (s : State) (i : Nat) : DoorInputs :=
  s.dc.inputs.getD i { closed := false, opened := false, obstructed := false }

/-- Every door set of the table is LOCKED. -/
def State.allLocked (s : State) : Bool := s.dc.sets.all (fun d => decide (d.state = .locked))

/-- The state of door set i, if the table has it. -/
def State.doorState? (s : State) (i : Nat) : Option DoorState := (s.dc.sets[i]?).map (fun d => d.state)

/-- The door sets of a car's pair at stop k: the car door set and the platform door set it faces
(06 section 6.2). -/
def State.pairSets (s : State) (c : Car) (k : Nat) : List Nat := [c.index, s.stationOf c k + 2]

/-- The pair, at the stop of its release, to which door set i belongs (06 R95, R108). -/
def State.pairOf (s : State) (i : Nat) : Option Car :=
  [Car.a, Car.b].find? (fun c =>
    match (s.dc.pairs.car c).released with
    | some r => decide (i ∈ s.pairSets c r.stop)
    | none => false)

/-- The pair whose record a door set's report carries: that of its release, else that of a pending automatic
release (06 R108). -/
def State.pairShown (s : State) (i : Nat) : Option Car :=
  match s.pairOf i with
  | some c => some c
  | none => [Car.a, Car.b].find? (fun c =>
      match (s.dc.pairs.car c).pendingStop with
      | some k => decide (i ∈ s.pairSets c k)
      | none => false)

/-- Whether an automatic release is pending for some pair (06 R97). -/
def State.releasePending (s : State) : Bool :=
  s.dc.pairs.fst.pendingStop.isSome || s.dc.pairs.snd.pendingStop.isSome

/-- The conditions under which a pair may be released at stop k (06 R96). -/
def State.mayRelease (s : State) (c : Car) (k : Nat) : Bool :=
  decide (s.hc.haul = .parked) && decide (s.stop = some k) && s.standstill
    && decide (s.bl.brakes.fst.state = .applied)
    && decide (s.lgp.presence.car c = some (s.stationOf c k))

/-! ### Queues and lanes (chapter 8) -/

/-- The number of the queue of a station and direction: 0 for station 0 UP, then UP before DOWN station
by station (08 R137). -/
def queueIndex (stations station : Nat) (d : Dir) : Option Nat :=
  if stations ≤ station then none
  else match d with
    | .up => if station + 1 = stations then none else if station = 0 then some 0 else some (2 * station - 1)
    | .down => if station = 0 then none
               else if station + 1 = stations then some (2 * station - 1) else some (2 * station)

/-- The station and direction of queue q (08 R137). -/
def queuePlace (stations q : Nat) : Nat × Dir :=
  if q = 0 then (0, .up)
  else if q + 1 = 2 * stations - 2 then (stations - 1, .down)
  else if q % 2 = 1 then ((q + 1) / 2, .up) else (q / 2, .down)

/-- The direction in which a lane's passengers go; none for an exit lane (08 section 8.1). -/
def LaneRole.dir : LaneRole → Option Dir
  | .entryUp => some .up
  | .entryDown => some .down
  | .exit => none

/-- The number of the queue of a lane; none for an exit lane (08 section 8.1). -/
def State.laneQueue (s : State) (l : Lane) : Option Nat :=
  match l.role.dir with
  | some d => queueIndex s.stations l.station d
  | none => none

/-- Queue q's offsets m and n (08 R140). -/
def State.offsets (s : State) (q : Nat) : Nat × Nat := s.gqu.offsets.getD q (20, 0)

/-- The number of ADMITTED entries of a queue (08 R140). -/
def Queue.admittedCount (q : Queue) : Nat :=
  (q.entries.filter (fun e => e.admitted.isSome)).length

/-- The admitted count of queue q, 0 when the line has no such queue. -/
def State.admittedOf (s : State) (q : Nat) : Nat :=
  match s.gqu.queues[q]? with
  | some x => x.admittedCount
  | none => 0

/-- The state of a queue with last-call offset m in a line mode (08 R138). -/
def queueStateOf (mode : LineMode) (m : Nat) (q : Queue) : QueueState :=
  if (mode ≠ .automatic ∧ mode ≠ .attended) ∨ q.hostClosed then .closed
  else if 160 ≤ q.entries.length then .full
  else if 160 - q.entries.length ≤ m then .lastCall
  else .open

/-- The state of queue q, if the line has it. -/
def State.queueState? (s : State) (q : Nat) : Option QueueState :=
  (s.gqu.queues[q]?).map (queueStateOf s.mau.mode (s.offsets q).1)

/-- The state of a lane (08 R128). -/
def State.laneState (s : State) (l : Lane) : LaneState :=
  if l.passage.isSome then .passage
  else if l.jammed then .blocked
  else match l.role.dir with
    | some _ =>
      if (s.mau.mode = .automatic ∨ s.mau.mode = .attended) ∧ l.hostClosed = false ∧
          ((s.laneQueue l).bind s.queueState?).getD .closed ≠ .closed then .open else .closed
    | none => if s.mau.mode ≠ .off ∧ l.hostClosed = false then .open else .closed

/-- The lane of an id, if the lane table holds it. -/
def State.lane? (s : State) (id : Nat) : Option Lane := s.gqu.lanes.find? (fun l => decide (l.id = id))

/-- The size of a car's fixed boarding batch, 0 when none is fixed (08 R143). -/
def State.batchSize (s : State) (c : Car) : Nat :=
  match s.gqu.batches.car c with
  | some b =>
    match s.gqu.queues[b.queue]? with
    | some q => (q.entries.filter (fun e => decide (e.batch = some c))).length
    | none => 0
  | none => 0

/-! ### Stops and demand (chapter 3) -/

/-- The stop of a PARKED haul; none while off-stop or not PARKED (03 R44). -/
def State.parkedStop (s : State) : Option Nat := if s.hc.haul = .parked then s.stop else none

/-- Whether the queue of a station and direction demands a stop (03 R47, 08 R140). -/
def State.queueDemands (s : State) (station : Nat) (d : Dir) : Bool :=
  match queueIndex s.stations station d with
  | some q => decide ((s.offsets q).2 < s.admittedOf q)
  | none => false

/-- Whether intermediate stop j is in the stop-demand set (03 R47). -/
def State.demanded (s : State) (j : Nat) : Bool :=
  s.queueDemands j s.hc.heading
    || s.queueDemands (s.stations - 1 - j) s.hc.heading.opposite
    || decide (j ∈ s.hc.carLine.fst.requests)
    || decide (s.stations - 1 - j ∈ s.hc.carLine.snd.requests)
    || decide (j ∈ s.hc.forced)

/-- The stop-demand set, ascending: both terminals and the demanded intermediate stops (03 R47). -/
def State.demandSet (s : State) : List Nat :=
  (List.range s.stations).filter (fun j =>
    decide (j = 0) || decide (j + 1 = s.stations) || s.demanded j)

/-- The automatic target from stop k: the first stop of the set beyond k in the heading (03 R49). -/
def State.autoTarget (s : State) (k : Nat) : Option Nat :=
  match s.hc.heading with
  | .up => s.demandSet.find? (fun j => decide (k < j))
  | .down => s.demandSet.reverse.find? (fun j => decide (j < k))

/-- The first stop beyond x by more than the stop window in a direction (03 R50, NEAREST). -/
def State.nearestStop (s : State) (d : Dir) : Option Nat :=
  let x := s.carPos .a
  let beyond : Nat → Bool := fun k =>
    match s.stationPos? k with
    | some xk => decide ((s.stopWindow : Int) < d.sign * (xk - x))
    | none => false
  match d with
  | .up => (List.range s.stations).find? beyond
  | .down => (List.range s.stations).reverse.find? beyond

/-! ### Profiles, ceiling and demand (chapter 3) -/

/-- A segment's effective ceiling in 0.000001 mm/s (03 R40). -/
def Segment.effective (g : Segment) : Nat :=
  match g.falling with
  | some v => max v (g.ceiling * 1000000)
  | none => g.ceiling * 1000000

/-- The segments of class n, if it is loaded. -/
def State.class? (s : State) (n : Nat) : Option (List Segment) := (s.hc.classes[n - 1]?).getD none

/-- The index of the active segment at x: the last whose start is at or below x, else the first
(03 section 3.1). -/
def activeIndex (segs : List Segment) (x : Int) : Nat :=
  (segs.filter (fun g => decide ((g.start : Int) ≤ x))).length - 1

/-- The active segment of class n at car A's position. -/
def State.activeSegment (s : State) (n : Nat) : Option Segment :=
  match s.class? n with
  | some segs => segs[activeIndex segs (s.carPos .a)]?
  | none => none

/-- The class whose limits a kind of motion takes: its own, or class 4 (03 R38). -/
def TripKind.classNumber : TripKind → Nat
  | .cls n => n
  | .inspection => 4
  | .recovery => 4

/-- The class deceleration of a kind of motion in mm/s² (03 section 3.1; 0 if its class is not loaded,
log 26). -/
def State.classDecel (s : State) (k : TripKind) : Nat :=
  match s.activeSegment k.classNumber with
  | some g => g.decel
  | none => 0

/-- The class acceleration of a kind of motion in mm/s² (03 section 3.1). -/
def State.classAccel (s : State) (k : TripKind) : Nat :=
  match s.activeSegment k.classNumber with
  | some g => g.accel
  | none => 0

/-- The inspection speed in mm/s (300 before a class is loaded, log 26). -/
def State.inspectionSpeed (s : State) : Nat := s.hc.inspection.getD 300

/-- The creep speed of a trip in 0.000001 mm/s (03 R38). -/
def State.creep (s : State) (k : TripKind) : Nat :=
  match k with
  | .inspection => min 300 s.inspectionSpeed * 1000000
  | _ => 300 * 1000000

/-- d_target: the distance from car A to the target, positive while it lies ahead (03 R42). The model's choice: it
is taken from the position of car A in whole millimetres, as are the distances to segments (log 47). -/
def State.targetDistance (s : State) (t : TripRec) : Option Int :=
  match t.target with
  | none => none
  | some k =>
    match s.stationPos? k with
    | some x => some (t.dir.sign * ((x : Int) - s.carPos .a))
    | none => none

/-- The square root of v² + 2·a·d in 0.000001 mm/s, v in the same unit (03 R42, log 10). -/
def rootTerm (v a : Nat) (d : Int) : Nat := isqrt (v * v + 2 * a * d.toNat * 1000000000000)

/-- The later segments in the trip direction: for each the effective ceiling and the distance to the
boundary at which car A enters it (03 R42), from a position in whole millimetres (log 47). -/
def laterSegments (segs : List Segment) (x : Int) (d : Dir) : List (Nat × Int) :=
  let i := activeIndex segs x
  match d with
  | .up => (segs.drop (i + 1)).map (fun g => (g.effective, (g.start : Int) - x))
  | .down =>
    (List.range i).filterMap (fun j =>
      match segs[j]?, segs[j + 1]? with
      | some g, some above => some (g.effective, x - above.start)
      | _, _ => none)

/-- The ceiling that a trip has at car A's position, in 0.000001 mm/s (03 R42). The model's choice: in APPROACH
too it is the ceiling of R42 at the position of the moment, so a capture that moves car A back beyond 3,000 mm
from the target raises it above the creep speed that R55 names (log 40). -/
def State.tripCeiling (s : State) (t : TripRec) : Nat :=
  let a := s.classDecel t.kind
  let c := s.creep t.kind
  let segments : List Nat := match t.kind with
    | .cls n =>
      match s.class? n with
      | some segs =>
        ((segs[activeIndex segs (s.carPos .a)]?).map Segment.effective).toList
          ++ (laterSegments segs (s.carPos .a) t.dir).map (fun g => rootTerm g.1 a g.2)
      | none => [c]
    | .inspection => [s.inspectionSpeed * 1000000]
    | .recovery => [300 * 1000000]
  let approach : List Nat := match s.targetDistance t with
    | some d => [if 3000 < d then rootTerm c a (d - 3000) else c]
    | none => []
  let unreferenced : List Nat :=
    if s.lgp.position ≠ .referenced ∨ s.hc.unreferencedTrip then [c] else []
  ((segments ++ approach ++ unreferenced).min?).getD c

/-- The ceiling of the trip in progress; the creep speed when no trip was opened (03 R42). -/
def State.ceiling (s : State) : Nat :=
  match s.hc.trip.rec? with
  | some t => s.tripCeiling t
  | none => 300 * 1000000

/-- The most that the final part of an approach allows the demand (03 R43): none while the target is not
that near or the trip was made without a reference. -/
def State.finalLimit (s : State) (t : TripRec) : Option Nat :=
  if s.hc.unreferencedTrip then none
  else match s.targetDistance t with
  | none => none
  | some d =>
    let c := s.creep t.kind
    let v2 := 2 * s.classDecel t.kind * d.toNat * 1000000000000
    if v2 ≤ c * c then some (isqrt v2) else none

/-- The ramp of a trip, held down by its ceiling (03 R43). -/
def State.heldRamp (s : State) (t : TripRec) : Nat := min s.hc.ramp (s.tripCeiling t)

/-- The speed demand of a trip in RUNNING or APPROACH: the smaller of the ceiling and the ramp, and in the
final part of an approach what stops at the target (03 R43). -/
def State.tripDemand (s : State) (t : TripRec) : Nat :=
  match s.finalLimit t with
  | some l => min (s.heldRamp t) l
  | none => s.heldRamp t

/-- The speed demand of this moment, 0 outside RUNNING and APPROACH (03 R43). -/
def State.demand (s : State) : Nat :=
  match s.hc.haul, s.hc.trip.rec? with
  | .running, some t => s.tripDemand t
  | .approach, some t => s.tripDemand t
  | _, _ => 0

/-- The supervised ceiling in 0.000001 mm/s, by haul state (04 R69). -/
def State.supervisedCeiling (s : State) : Nat :=
  match s.hc.haul with
  | .running => s.ceiling
  | .approach => s.ceiling
  | .stopping =>
    match s.bl.stop with
    | some r => r.ceiling
    | none => 300 * 1000000
  | .tripped => s.bl.trippedCeiling
  | .parked => 300 * 1000000
  | .warning => 300 * 1000000
  | .releasing => 300 * 1000000
  | .brakeTest => 300 * 1000000

/-- A speed in 0.1 mm/s as one in 0.000001 mm/s. -/
def fineSpeed (v : Nat) : Nat := v * 100000

/-- Whether a speed exceeds level 1 of a supervised ceiling: the larger of 1.06 c and c + 150 mm/s
(04 R70). -/
def exceedsLevel1 (v c : Nat) : Bool := decide (c * 106 < v * 100) && decide (c + 150000000 < v)

/-- Whether a speed exceeds level 2 of a supervised ceiling: the larger of 1.12 c and c + 300 mm/s
(04 R70). -/
def exceedsLevel2 (v c : Nat) : Bool := decide (c * 112 < v * 100) && decide (c + 300000000 < v)

/-- The service test of envelope supervision (04 R70). -/
def State.serviceTestNow (s : State) : Bool :=
  !s.standstill && exceedsLevel1 (fineSpeed s.lineSpeed) s.supervisedCeiling

/-- The absolute limit test: above line max speed × 1.12, not judged before any class is loaded
(04 R70). -/
def State.aboveAbsolute (s : State) : Bool :=
  match s.hc.lineMax with
  | some v => decide (v * 1000000 * 112 < fineSpeed s.lineSpeed * 100)
  | none => false

/-- The emergency test of envelope supervision (04 R70). -/
def State.emergencyTestNow (s : State) : Bool :=
  !s.standstill && (exceedsLevel2 (fineSpeed s.lineSpeed) s.supervisedCeiling || s.aboveAbsolute)

/-- Whether class n is in use by a moving trip (03 R39). -/
def State.classInUse (s : State) (n : Nat) : Bool :=
  (decide (s.hc.haul = .running) || decide (s.hc.haul = .approach) || decide (s.hc.haul = .stopping))
    && decide (s.hc.trip.state = .active)
    && match s.hc.trip.rec? with
       | some t => decide (t.kind.classNumber = n)
       | none => false

/-! ### Dispatch readings (chapters 3 and 5) -/

/-- A test record is valid for the current service day: PASS on that day (05 R91). -/
def State.recordValid (s : State) (b : Brake) : Bool :=
  match s.bpu.records.brake b with
  | some r => r.pass && decide (r.day = s.tt.day)
  | none => false

/-- AUTOMATIC or ATTENDED. -/
def LineMode.inService : LineMode → Bool
  | .off => false
  | .automatic => true
  | .attended => true
  | .inspection => false
  | .recovery => false

/-- Every item of the configuration record is accepted (09 R158). -/
def ConfigRecord.complete (c : ConfigRecord) : Bool :=
  c.line && c.profiles.all id && c.tension && c.lanes && c.params

/-! ### Outputs of the part -/

/-- A brake's output holds the brake off (04 R64). -/
def BrakeState.outputRelease : BrakeState → Bool
  | .applied => false
  | .releasing => true
  | .released => true
  | .applying => false

/-- A lane's leaf is released (08 R128). -/
def State.leafReleased (s : State) (l : Lane) : Bool :=
  match l.role.dir with
  | some _ => decide (s.laneState l = .passage)
  | none => decide (s.laneState l = .open)

/-- What a lane's lamp shows (08 R128). -/
inductive Lamp where
  | closed
  | open
  | lastCall
  | go
  | blocked
  deriving DecidableEq, Repr

/-- The lamp of a lane: last call in place of OPEN while its queue is LAST_CALL, go in PASSAGE
(08 R128). -/
def State.laneLamp (s : State) (l : Lane) : Lamp :=
  match s.laneState l with
  | .closed => .closed
  | .blocked => .blocked
  | .passage => .go
  | .open => if (s.laneQueue l).bind s.queueState? = some .lastCall then .lastCall else .open

/-- The departure warning is signalled to stations and cars (03 R51). -/
def State.departureWarning (s : State) : Bool := decide (s.hc.haul = .warning)

end Sys2Proof.Machine
end

