-- ==== Sys2Proof/Machine/Update.lean ====
section
/-!
DEFINITION. The updates of the state, block by block. Every other definition changes the state through
these, so that what it leaves alone can be read off (Laws/State.lean).
-/

namespace Sys2Proof.Machine

/-- s with its Lgp changed by f. -/
def State.modLgp (f : Lgp → Lgp) (s : State) : State := { s with lgp := f s.lgp }

/-- s with its Stu changed by f. -/
def State.modStu (f : Stu → Stu) (s : State) : State := { s with stu := f s.stu }

/-- s with its Hc changed by f. -/
def State.modHc (f : Hc → Hc) (s : State) : State := { s with hc := f s.hc }

/-- s with its Bl changed by f. -/
def State.modBl (f : Bl → Bl) (s : State) : State := { s with bl := f s.bl }

/-- s with its Bpu changed by f. -/
def State.modBpu (f : Bpu → Bpu) (s : State) : State := { s with bpu := f s.bpu }

/-- s with its Dc changed by f. -/
def State.modDc (f : Dc → Dc) (s : State) : State := { s with dc := f s.dc }

/-- s with its Tt changed by f. -/
def State.modTt (f : Tt → Tt) (s : State) : State := { s with tt := f s.tt }

/-- s with its Gqu changed by f. -/
def State.modGqu (f : Gqu → Gqu) (s : State) : State := { s with gqu := f s.gqu }

/-- s with its Mau changed by f. -/
def State.modMau (f : Mau → Mau) (s : State) : State := { s with mau := f s.mau }

/-- s with its FaultTable changed by f. -/
def State.modFt (f : FaultTable → FaultTable) (s : State) : State := { s with ft := f s.ft }

/-- s with its Ll changed by f. -/
def State.modLl (f : Ll → Ll) (s : State) : State := { s with ll := f s.ll }

/-- s at time t. -/
def State.setNow (t : Nat) (s : State) : State := { s with now := t }

/-- s with the command queue q. -/
def State.setPending (q : List Instr) (s : State) : State := { s with pending := q }

end Sys2Proof.Machine
end

