-- ==== Sys2Proof/Machine/Flags.lean ====
section
/-!
DEFINITION. The fault table (chapter 10): the code table, the keys in the order of ranking, what a raise
and an end of condition write into a slot, and what the table reports. What a raise does to the rest of
the part is in Ops.lean.
-/

namespace Sys2Proof.Machine

/-! ### The code table (10 section 10.1) -/

/-- The number of a code (10 section 10.1). -/
def FaultCode.number : FaultCode → Nat
  | .carBrakeTripped => 1
  | .overtravel => 2
  | .overspeedEmergency => 3
  | .encoderDisagree => 4
  | .positionDisagree => 5
  | .ropeTensionLimit => 6
  | .brakeFeedback => 7
  | .operatorEmergency => 8
  | .overspeedService => 9
  | .brakeEscalated => 10
  | .doorUnproven => 11
  | .carEmergencyRequest => 12
  | .carLinkLost => 13
  | .supervisionLost => 14
  | .tensionChannelFault => 15
  | .stopOverrun => 16
  | .markerMissed => 17
  | .brakeTestFailed => 18
  | .doorTimeout => 19
  | .doorObstructed => 20
  | .loadDisagree => 21
  | .gateLaneFault => 22

/-- The class of a code: 1 to 8 EMERGENCY, 9 to 13 SERVICE, 14 to 20 BLOCK, 21 and 22 REPORT
(10 section 10.1). -/
def FaultCode.cls (c : FaultCode) : FaultClass :=
  if c.number ≤ 8 then .emergency
  else if c.number ≤ 13 then .service
  else if c.number ≤ 20 then .block
  else .report

/-- How the condition of a code ends (10 section 10.1). -/
def FaultCode.kind : FaultCode → FaultKind
  | .carBrakeTripped => .latched
  | .overtravel => .latched
  | .overspeedEmergency => .event
  | .encoderDisagree => .latched
  | .positionDisagree => .event
  | .ropeTensionLimit => .latched
  | .brakeFeedback => .latched
  | .operatorEmergency => .event
  | .overspeedService => .event
  | .brakeEscalated => .event
  | .doorUnproven => .latched
  | .carEmergencyRequest => .latched
  | .carLinkLost => .selfClearing
  | .supervisionLost => .selfClearing
  | .tensionChannelFault => .selfClearing
  | .stopOverrun => .event
  | .markerMissed => .event
  | .brakeTestFailed => .event
  | .doorTimeout => .event
  | .doorObstructed => .selfClearing
  | .loadDisagree => .selfClearing
  | .gateLaneFault => .selfClearing

/-- The codes in the order of ranking (10 R172). -/
def allCodes : List FaultCode :=
  [.carBrakeTripped, .overtravel, .overspeedEmergency, .encoderDisagree, .positionDisagree,
   .ropeTensionLimit, .brakeFeedback, .operatorEmergency, .overspeedService, .brakeEscalated,
   .doorUnproven, .carEmergencyRequest, .carLinkLost, .supervisionLost, .tensionChannelFault,
   .stopOverrun, .markerMissed, .brakeTestFailed, .doorTimeout, .doorObstructed, .loadDisagree,
   .gateLaneFault]

/-- The number of subjects of a code (10 R167). -/
def FaultCode.subjects : FaultCode → Nat
  | .carBrakeTripped => 2
  | .overtravel => 2
  | .overspeedEmergency => 1
  | .encoderDisagree => 1
  | .positionDisagree => 2
  | .ropeTensionLimit => 2
  | .brakeFeedback => 2
  | .operatorEmergency => 1
  | .overspeedService => 1
  | .brakeEscalated => 1
  | .doorUnproven => 8
  | .carEmergencyRequest => 2
  | .carLinkLost => 2
  | .supervisionLost => 1
  | .tensionChannelFault => 2
  | .stopOverrun => 2
  | .markerMissed => 2
  | .brakeTestFailed => 2
  | .doorTimeout => 8
  | .doorObstructed => 8
  | .loadDisagree => 1
  | .gateLaneFault => 16

/-- The 69 keys in the order of ranking: by code, then by subject (10 R167, R172). -/
def allKeys : List FaultKey :=
  allCodes.flatMap (fun c => (List.range c.subjects).map (fun i => ⟨c, i⟩))

/-- The place of a key's slot in the table (10 R167). -/
def FaultKey.rank (k : FaultKey) : Nat := allKeys.findIdx (fun x => decide (x = k))

/-! ### Raises, ends and removals of slots (10 R168 to R174) -/

/-- The record of a slot after a raise at a line clock value (10 R168, R169). -/
def raisedRecord (kind : FaultKind) (clock : Nat) (old : Option FaultRec) : FaultRec :=
  let state : SlotState := match kind with
    | .event => .ended
    | .latched => .active
    | .selfClearing => .active
  match old with
  | none => { state := state, first := clock, last := clock, count := 1 }
  | some r => { state := state, first := r.first, last := clock, count := min 255 (r.count + 1) }

/-- A slot after a report of the end of its condition (10 R170). -/
def endedSlot (kind : FaultKind) (old : Option FaultRec) : Option FaultRec :=
  match old with
  | none => none
  | some r => match r.state with
    | .ended => some r
    | .active => match kind with
      | .selfClearing => none
      | .latched => some { r with state := .ended }
      | .event => some { r with state := .ended }

/-- The table after a raise of key k (10 R168, R169). -/
def FaultTable.raised (k : FaultKey) (clock : Nat) (t : FaultTable) : FaultTable :=
  { slots := updateAt k.rank (fun r => some (raisedRecord k.code.kind clock r)) t.slots }

/-- The table after the end of the condition of key k (10 R170). -/
def FaultTable.ended (k : FaultKey) (t : FaultTable) : FaultTable :=
  { slots := updateAt k.rank (endedSlot k.code.kind) t.slots }

/-- The table with every present slot that p selects made ABSENT (10 R173, R174). -/
def FaultTable.removed (p : FaultKey → FaultRec → Bool) (t : FaultTable) : FaultTable :=
  { slots := List.zipWith (fun k r => match r with
      | some x => if p k x then none else some x
      | none => none) allKeys t.slots }

/-- The slot of a key, none while ABSENT (10 R167). -/
def FaultTable.slot (t : FaultTable) (k : FaultKey) : Option FaultRec := (t.slots[k.rank]?).join

/-- A slot of the key is present (10 R168). -/
def FaultTable.present (t : FaultTable) (k : FaultKey) : Bool := (t.slot k).isSome

/-- The present slots in rank order (10 R172). -/
def FaultTable.entries (t : FaultTable) : List FaultEntry :=
  (List.zip allKeys t.slots).filterMap (fun x => match x.2 with
    | some r => some { key := x.1, cls := x.1.code.cls, record := r }
    | none => none)

/-- A slot of a class is present (10 R171). -/
def FaultTable.presentClass (t : FaultTable) (c : FaultClass) : Bool :=
  t.entries.any (fun e => decide (e.cls = c))

/-- The number of present slots of a class (10 R175). -/
def FaultTable.countClass (t : FaultTable) (c : FaultClass) : Nat :=
  (t.entries.filter (fun e => decide (e.cls = c))).length

/-- The most urgent fault (10 R172). -/
def FaultTable.mostUrgent (t : FaultTable) : Option FaultEntry := t.entries.head?

/-- What a FAULT notice carries (10 R175). -/
def FaultTable.report (t : FaultTable) : FaultReport :=
  { mostUrgent := t.mostUrgent, present := t.entries }

/-- A present fault blocks dispatch in a line mode (10 R171). -/
def FaultTable.blocksDispatch (t : FaultTable) (mode : LineMode) : Bool :=
  t.presentClass .emergency || t.presentClass .service || (mode.inService && t.presentClass .block)

/-- The end of the condition of a fault, as its owner reports it (10 R170). -/
def endCondition (k : FaultKey) (s : State) : State := s.modFt (FaultTable.ended k)

/-- The number of a refusal code in the level/status byte (11 R180). -/
def RefusalCode.number : RefusalCode → Nat
  | .format => 1
  | .unknownKind => 2
  | .authority => 3
  | .mode => 4
  | .notConfigured => 5
  | .state => 6
  | .bounds => 7
  | .symmetry => 8
  | .direction => 9
  | .offStop => 10
  | .brakeTestDue => 11
  | .blockedByFault => 12
  | .notEmpty => 13
  | .overlap => 14
  | .inUse => 15
  | .notFound => 16
  | .full => 17

end Sys2Proof.Machine
end

