-- ==== Sys2Proof/Machine/Ops.lean ====
section
/-!
DEFINITION. The operations that several blocks share: marks and wake events, brake requests, the end of
a trip, brake demands, the raise of a fault, and how a service stop moves to its stages.
-/

namespace Sys2Proof

/-- The release proof interval in microseconds (04 section 4.1). -/
def Brake.releaseProof : Brake → Nat
  | .holding => 1500000
  | .emergency => 2000000

/-- The apply proof interval in microseconds (04 section 4.1). -/
def Brake.applyProof : Brake → Nat
  | .holding => 1000000
  | .emergency => 800000

end Sys2Proof

namespace Sys2Proof.Machine

/-! ### Time -/

/-- The time at which an interval of `us` microseconds that starts now ends. -/
def State.after (s : State) (us : Nat) : Option Nat := some (s.now + us)

/-! ### Answers of owners (11 R179) -/

/-- What the owner of a request gives: a refusal code, or the state after it with the body of its DONE
reply (11 R179). -/
abbrev Answer := Except RefusalCode (State × Content)

/-- DONE with an empty body. -/
def done (s : State) : Answer := .ok (s, .empty)

/-! ### Notice marks (11 R183) -/

/-- A notice list after a mark: a new key at the tail, a key already there in its place (11 R183). -/
def markIn (k : NoticeKey) (l : List NoticeKey) : List NoticeKey := if k ∈ l then l else l ++ [k]

/-- A block marks a key (11 R183). -/
def mark (k : NoticeKey) (s : State) : State :=
  s.modLl fun l => { l with notices := markIn k l.notices }

/-- A block marks keys in order (11 R183). -/
def markAll : List NoticeKey → State → State
  | [], s => s
  | k :: ks, s => markAll ks (mark k s)

/-- Slots emptied in an event that may raise the same faults again: the FAULT key is marked here, since the
table may end as it was before the event (10 R175, R176). -/
def emptySlots (f : FaultTable → FaultTable) (s : State) : State :=
  if f s.ft = s.ft then s else mark .fault (s.modFt f)

/-! ### Wake events (09 R162) -/

/-- The wake cause set with a cause added, in the order of 09 R162. -/
def addCause (c : WakeCause) (l : List WakeCause) : List WakeCause :=
  [WakeCause.link, .tension, .movement, .carLine, .power].filter (fun x =>
    decide (x = c) || decide (x ∈ l))

/-- A wake event, which reaches the set in OFF alone (09 R162). -/
def wake (c : WakeCause) (s : State) : State :=
  if s.mau.mode = .off then
    mark .wake (s.modMau fun m => { m with
      wakeSet := addCause c m.wakeSet, wakeCount := min 65535 (m.wakeCount + 1),
      latestWake := some (c, s.tt.clock) })
  else s

/-! ### Boarding batches (08 R142) -/

/-- A queue whose entries lose the batch mark of car c. -/
def Queue.unmarked (c : Car) (q : Queue) : Queue :=
  { q with entries := q.entries.map (fun e => if e.batch = some c then { e with batch := none } else e) }

/-- Car c's fixed batch is dissolved and its keys marked; nothing changes when it is absent (08 R142). -/
def dissolveBatch (c : Car) (s : State) : State :=
  match s.gqu.batches.car c with
  | none => s
  | some b => mark (.queue b.queue) (mark (.car c) (s.modGqu fun g => { g with
      queues := updateAt b.queue (Queue.unmarked c) g.queues, batches := g.batches.setCar c none }))

/-- Both batches are dissolved (08 R142). -/
def dissolveBoth (s : State) : State := dissolveBatch .b (dissolveBatch .a s)

/-! ### Brakes (04 section 4.1) -/

/-- The feedback of a brake agrees with its state, where it is judged (04 R64). -/
def BrakeRec.agrees (r : BrakeRec) : Bool :=
  match r.state with
  | .applied => r.appliedIn && !r.releasedIn
  | .released => r.releasedIn && !r.appliedIn
  | .releasing => false
  | .applying => false

/-- The feedback shows the brake closed. -/
def BrakeRec.showsApplied (r : BrakeRec) : Bool := r.appliedIn && !r.releasedIn

/-- The feedback shows the brake lifted. -/
def BrakeRec.showsReleased (r : BrakeRec) : Bool := r.releasedIn && !r.appliedIn

/-- Brake b's record changed by f. -/
def modBrake (b : Brake) (f : BrakeRec → BrakeRec) (s : State) : State :=
  s.modBl fun l => { l with brakes := l.brakes.setBrake b (f (l.brakes.brake b)) }

/-- An apply request by the state of the brake (04 R66). -/
def BrakeRec.applied (b : Brake) (now : Nat) (r : BrakeRec) : BrakeRec :=
  match r.state with
  | .released => { r with state := .applying, proofDue := some (now + b.applyProof) }
  | .releasing => { r with state := .applying, proofDue := some (now + b.applyProof) }
  | .applying => r
  | .applied => r

/-- An apply request for brake b (04 R66). -/
def applyBrake (b : Brake) (s : State) : State := modBrake b (BrakeRec.applied b s.now) s

/-- A release request by the state of the brake (04 R65). -/
def BrakeRec.lifted (b : Brake) (now : Nat) (r : BrakeRec) : BrakeRec :=
  match r.state with
  | .applied => { r with state := .releasing, proofDue := some (now + b.releaseProof) }
  | .applying => { r with state := .releasing, proofDue := some (now + b.releaseProof) }
  | .releasing => r
  | .released => r

/-- A release request for brake b; not carried out for the emergency brake while a slot of class
EMERGENCY is present (04 R65). -/
def releaseBrake (b : Brake) (s : State) : State :=
  if b = .emergency ∧ s.ft.presentClass .emergency = true then s
  else modBrake b (BrakeRec.lifted b s.now) s

/-! ### Trips -/

/-- The drive is commanded d. -/
def command (d : DriveCommand) (s : State) : State := s.modHc fun h => { h with drive := d }

/-- The haul takes state h. -/
def setHaul (x : HaulState) (s : State) : State := s.modHc fun h => { h with haul := x }

/-- Whether the trip record is committed. -/
def Trip.committed (t : Trip) : Bool :=
  match t.rec? with
  | some r => r.committed
  | none => false

/-- The trip becomes ABANDONED, which dissolves both batches when it was not committed (03 R45). -/
def abandonTrip (cause : EndCause) (s : State) : State :=
  let t := s.modHc fun h => { h with trip := { h.trip with state := .abandoned, cause := some cause } }
  if s.hc.trip.committed then t else dissolveBoth t

/-- The automatic cycle at an entry to PARKED in AUTOMATIC other than by arrival (03 R61). -/
def parkedCycle (held : Bool) (s : State) : State :=
  if s.mau.mode = .automatic then
    s.modHc fun h => { h with
      cycle := if held then .held else if s.allLocked then .ready else .boarding }
  else s

/-- A departure in WARNING or RELEASING is abandoned (03 R51, R53): from RELEASING the holding brake is
applied again, and the emergency brake unless it is proven RELEASED, and the drive keeps its holding
torque. -/
def abandonDeparture (cause : EndCause) (s : State) : State :=
  let held := decide (cause = .hold)
  match s.hc.haul with
  | .warning =>
    parkedCycle held (abandonTrip cause
      (s.modHc fun h => { h with haul := .parked, warnDue := none }))
  | .releasing =>
    let s1 := applyBrake .holding (setHaul .parked s)
    let s2 := if s.bl.brakes.snd.state = .released then s1 else applyBrake .emergency s1
    parkedCycle held (abandonTrip cause s2)
  | _ => s

/-! ### Brake demands (04 section 4.4) -/

/-- A class EMERGENCY demand made by a fault of the given code; none for the demand of a line restart,
which has no trip to end (04 R72, R83). -/
def emergencyDemand (code : Option FaultCode) (s : State) : State :=
  let s1 := s.modBpu fun b => { b with test := none, pulseDue := none }
  let s2 := command .noTorque (if s.hc.haul = .brakeTest then s1 else s)
  let s3 := applyBrake .holding (applyBrake .emergency s2)
  if s.hc.haul = .tripped then s3
  else
    let s4 := s3.modBl fun l => { l with
      stop := none, trippedCeiling := max (fineSpeed s.lineSpeed) 300000000 }
    let s5 := s4.modHc fun h => { h with haul := .tripped, warnDue := none, arrivalDue := false }
    match code with
    | some c => if s.hc.trip.state = .active then abandonTrip (.fault c) s5 else s5
    | none => s5

/-- The haul enters STOPPING at a stage (04 R73): the ceiling and the demand of the moment are kept. -/
def enterStopping (stage : Nat) (cause : StopCause) (s : State) : State :=
  (s.modBl fun l => { l with
      stop := some { stage := stage, start := s.now, ceiling := s.ceiling, cause := cause, sample := none,
                     nextDue := s.now + 500000 } }).modHc
    fun h => { h with haul := .stopping, ramp := s.demand }

/-- The stop in progress takes the code of a fault as its cause when its cause is HOLD (04 R73). -/
def stopCauseFault (c : FaultCode) (s : State) : State :=
  s.modBl fun l => { l with
    stop := l.stop.map (fun r => if r.cause = .hold then { r with cause := .fault c } else r) }

/-- A class SERVICE demand (04 R71). -/
def serviceDemand (c : FaultCode) (s : State) : State :=
  match s.hc.haul with
  | .running => enterStopping 1 (.fault c) s
  | .approach => enterStopping 1 (.fault c) s
  | .stopping => stopCauseFault c s
  | _ => s

/-- What FT hands on at a raise: first to the brake ladder, then to the haul controller (10 R171). -/
def handOn (c : FaultCode) (s : State) : State :=
  match c.cls with
  | .emergency => emergencyDemand (some c) s
  | .service => abandonDeparture (.fault c) (serviceDemand c s)
  | .block => if s.mau.mode.inService then abandonDeparture (.fault c) s else s
  | .report => s

/-- A raise: the slot is written and the fault handed on, in one event (10 R168, R169, R171). -/
def raise (k : FaultKey) (s : State) : State :=
  handOn k.code (s.modFt (FaultTable.raised k s.tt.clock))

/-! ### The stages of a service stop (04 R75, R76) -/

/-- The move to stage 2 (04 R75). -/
def moveStage2 (s : State) : State :=
  let s1 := s.modBl fun l => { l with stop := l.stop.map (fun r => { r with stage := 2 }) }
  raise ⟨.brakeEscalated, 0⟩ (applyBrake .holding (command .noTorque s1))

/-- The move to stage 3 (04 R76). The stop record goes with the event; its cause is kept for the BRAKES
notice of the event (log 31). -/
def moveStage3 (s : State) : State :=
  let s1 := applyBrake .emergency (command .noTorque s)
  let s2 := s1.modBl fun l => { l with
    stage3 := l.stop.map (fun r => r.cause), stop := none,
    trippedCeiling := max (fineSpeed s.lineSpeed) 300000000 }
  abandonTrip (.fault .brakeEscalated) (s2.modHc fun h => { h with haul := .tripped, arrivalDue := false })

/-! ### Line clock and time (07 R124) -/

/-- The line clock after dt microseconds: it counts whole milliseconds and stops at 4,294,967,295
(07 R124). -/
def Tt.pass (dt : Nat) (t : Tt) : Tt :=
  if t.clock + (t.clockUs + dt) / 1000 < 4294967295 then
    { t with clock := t.clock + (t.clockUs + dt) / 1000, clockUs := (t.clockUs + dt) % 1000 }
  else if t.clock < 4294967295 then { t with clock := 4294967295, clockUs := 0 }
  else t

/-- A segment whose ceiling falls at `decel` mm/s² for dt microseconds (03 R40, log 14). -/
def Segment.fall (decel dt : Nat) (g : Segment) : Segment :=
  match g.falling with
  | none => g
  | some v => if v - decel * dt ≤ g.ceiling * 1000000 then { g with falling := none }
              else { g with falling := some (v - decel * dt) }

/-- The loaded classes after dt microseconds: each falling ceiling falls at the deceleration of its
class's active segment at car A's position (03 R40). -/
def State.fallenClasses (s : State) (dt : Nat) : List (Option (List Segment)) :=
  s.hc.classes.map (fun c => c.map (fun segs =>
    let d := match segs[activeIndex segs (s.carPos .a)]? with
      | some g => g.decel
      | none => 0
    segs.map (Segment.fall d dt)))

/-- The kind of motion of the trip record; class 4 before any trip (log 26). -/
def State.kind (s : State) : TripKind :=
  match s.hc.trip.rec? with
  | some t => t.kind
  | none => .cls 4

/-- The ramp of the demand after dt microseconds in which no ceiling holds it down: it rises at the class
acceleration in RUNNING and APPROACH, falls at the class deceleration in a stop at stage 1 and in the approach of
a trip made without a reference (03 R43, R58; 04 R73). -/
def State.rampFree (s : State) (dt : Nat) : Nat :=
  match s.hc.haul with
  | .running => s.hc.ramp + s.classAccel s.kind * dt
  | .approach =>
    if s.hc.unreferencedTrip then s.hc.ramp - s.classDecel s.kind * dt
    else s.hc.ramp + s.classAccel s.kind * dt
  | .stopping => s.hc.ramp - s.classDecel s.kind * dt
  | _ => s.hc.ramp

/-- The ceiling of a trip after dt microseconds at the position of car A as it is (03 R40, R42). -/
def State.ceilingAfter (s : State) (dt : Nat) (t : TripRec) : Nat :=
  (s.modHc fun h => { h with classes := s.fallenClasses dt }).tripCeiling t

/-- The ramp rises while time passes: in RUNNING, and in APPROACH of a trip made with a reference (03 R43, R58). -/
def State.rampRises (s : State) : Bool :=
  decide (s.hc.haul = .running) || decide (s.hc.haul = .approach) && !s.hc.unreferencedTrip

/-- The ramp of the demand after dt microseconds (03 R43). A ramp that rises is held down by the ceiling at every
moment: while only time passes the ceiling does not rise, so it is enough to hold it down at the end. -/
def State.rampAfter (s : State) (dt : Nat) : Nat :=
  match s.hc.trip.rec? with
  | some t => if s.rampRises then min (s.rampFree dt) (s.ceilingAfter dt t) else s.rampFree dt
  | none => s.rampFree dt

/-- dt microseconds pass and nothing is judged: the time, the line clock, falling ceilings and the ramp
(07 R124; 03 R40, R43). -/
def elapse (dt : Nat) (s : State) : State :=
  ((s.setNow (s.now + dt)).modTt (Tt.pass dt)).modHc fun h => { h with
    classes := s.fallenClasses dt, ramp := s.rampAfter dt }

/-! ### What is judged at every moment (02 R25, R26; 04 R70) -/

/-- The end of the disagreement interval as the magnitude test leaves it at time `now`: it starts as the test
begins to hold and is stopped as it ceases. An interval that has ended waits for its expiry command
(02 R25, log 3). -/
def disagreeDueAt (now : Nat) (mag : Bool) (u : Stu) : Option Nat :=
  if u.disagreeDue.any (fun t => decide (t ≤ now)) then u.disagreeDue
  else if mag = false then none
  else if u.magnitudeHolds then u.disagreeDue
  else some (now + 300000)

/-- The two encoder tests as they stand at this moment: which of them hold, the disagreement interval, and
the end of the condition when neither holds (02 R25, R26). -/
def noteEncoders (s : State) : State :=
  let mag := s.magnitudeTest
  let dir := s.directionTest
  let s1 := s.modStu fun u => { u with
    magnitudeHolds := mag, directionHolds := dir, disagreeDue := disagreeDueAt s.now mag u }
  if mag || dir then s1 else endCondition ⟨.encoderDisagree, 0⟩ s1

/-- The two tests of envelope supervision, each raising as it begins to hold, the service test first
(04 R70). -/
def judgeEnvelope (s : State) : State :=
  let service := s.serviceTestNow
  let emergency := s.emergencyTestNow
  let s1 := if service && !s.bl.serviceTest then raise ⟨.overspeedService, 0⟩ s else s
  let s2 := if emergency && !s.bl.emergencyTest then raise ⟨.overspeedEmergency, 0⟩ s1 else s1
  s2.modBl fun l => { l with
    serviceTest := s2.serviceTestNow, emergencyTest := s2.emergencyTestNow }

/-- The haul moves under the ceiling of its trip: RUNNING or APPROACH (04 R69). -/
def State.underTripCeiling (s : State) : Bool :=
  decide (s.hc.haul = .running) || decide (s.hc.haul = .approach)

/-- Envelope supervision at a moment between two events. No estimate grows while time passes, and the
supervised ceiling falls under the ceiling of a trip alone (04 R69, 03 R40), so elsewhere a test can only
cease (04 R70). -/
def noteEnvelope (s : State) : State :=
  if s.underTripCeiling then judgeEnvelope s
  else s.modBl fun l => { l with
    serviceTest := l.serviceTest && s.serviceTestNow, emergencyTest := l.emergencyTest && s.emergencyTestNow }

/-- What is judged at a moment between two events: the encoder tests and the envelope (02 R25, R26;
04 R70). -/
def judgeMoment (s : State) : State := noteEnvelope (noteEncoders s)

/-- The first d above lo at which p holds, for a p that goes on holding and holds at hi; n halvings of the
span. -/
def bisect (p : Nat → Bool) : Nat → Nat → Nat → Nat
  | 0, _, hi => hi
  | n + 1, lo, hi =>
    if hi ≤ lo + 1 then hi
    else if p ((lo + hi) / 2) then bisect p n lo ((lo + hi) / 2) else bisect p n ((lo + hi) / 2) hi

/-- Some effective ceiling falls after an amendment (03 R40). -/
def State.ceilingFalls (s : State) : Bool :=
  s.hc.classes.any (fun c => match c with
    | some segs => segs.any (fun g => g.falling.isSome)
    | none => false)

/-- After how many of the next d microseconds a test begins to hold by the fall of a ceiling alone, if it
does. -/
def State.risesWithin (s : State) (test : State → Bool) (d : Nat) : Option Nat :=
  if decide (d = 0) || test s || !test (elapse d s) then none
  else some (bisect (fun m => test (elapse m s)) (d.log2 + 1) 0 d)

/-- After how many of the next d microseconds, in which no estimate changes, an overspeed test begins to hold
(04 R70). -/
def State.overspeedWithin (s : State) (d : Nat) : Option Nat :=
  if s.underTripCeiling && s.ceilingFalls then
    match s.risesWithin State.serviceTestNow d, s.risesWithin State.emergencyTestNow d with
    | some x, some y => some (min x y)
    | some x, none => some x
    | none, y => y
  else none

/-- The next moment up to time t at which an estimate changes. -/
def State.estimateChange (s : State) (t : Nat) : Option Nat :=
  s.nextChange.filter (fun u => decide (s.now < u) && decide (u ≤ t))

/-- The last moment up to time t that comes before a change of an estimate. -/
def State.steadyUntil (s : State) (t : Nat) : Nat :=
  match s.estimateChange t with
  | some u => u - 1
  | none => t

/-- The next moment up to time t that is judged: an overspeed test begins to hold, or an estimate changes
(02 R21; 04 R70). -/
def State.nextMoment (s : State) (t : Nat) : Option Nat :=
  match s.overspeedWithin (s.steadyUntil t - s.now) with
  | some d => some (s.now + d)
  | none => s.estimateChange t

/-- Time moves on to t, and every moment on the way is judged, at most n of them. Time moves on at each, so a
number of rounds equal to the microseconds that pass suffices. -/
def followMoments : Nat → Nat → State → State
  | 0, t, s => elapse (t - s.now) s
  | n + 1, t, s =>
    match s.nextMoment t with
    | none => elapse (t - s.now) s
    | some u => followMoments n t (judgeMoment (elapse (u - s.now) s))

/-- dt microseconds pass, and what the rules state for every moment is judged on the way (02 R25, R26; 03 R40,
R43; 04 R70; 07 R124). -/
def passTime (dt : Nat) (s : State) : State := followMoments dt (s.now + dt) s

/-- Time moves on to t if t is still to come (log 3). -/
def passUntil (t : Nat) (s : State) : State := passTime (t - s.now) s

end Sys2Proof.Machine
end

