-- ==== Sys2Proof/Machine/Tickets.lean ====
section
/-!
DEFINITION. The ticket table (chapter 7): the block table and its requests, the validation of a
presentation and its undoing, the passback list, the service day and the line clock.
-/

namespace Sys2Proof.Machine

/-! ### Blocks -/

/-- The class of a number of the catalogue (07 section 7.1). -/
def ticketClass? : Nat → Option TicketClass
  | 0 => some .single
  | 1 => some .return
  | 2 => some .day
  | 3 => some .staff
  | _ => none

/-- How many use marks a block of a class has (07 section 7.1). -/
def markCount (c : TicketClass) (count : Nat) : Nat :=
  match c with
  | .single => count
  | .return => 2 * count
  | .day => 0
  | .staff => 0

/-- The bitmap length of a block in bytes (07 section 7.1). -/
def bitmapLength (c : TicketClass) (count : Nat) : Nat := (markCount c count + 7) / 8

/-- The bits of a bitmap as one number: bit position b is bit b mod 8 of byte b / 8 (07 section 7.1). -/
def bitmapValue : List Byte → Nat
  | [] => 0
  | b :: bs => b.toNat + 256 * bitmapValue bs

/-- A block covers a serial (07 R113). -/
def TicketBlock.covers (b : TicketBlock) (serial : Nat) : Bool :=
  decide (b.first ≤ serial) && decide (serial < b.first + b.count)

/-- The block of a serial (07 R113). -/
def Tt.find (t : Tt) (serial : Nat) : Option TicketBlock := t.blocks.find? (fun b => b.covers serial)

/-- A service day lies within a block's valid days (07 R115, R125). -/
def TicketBlock.validOn (b : TicketBlock) (day : Nat) : Bool :=
  decide (b.firstDay ≤ day) && decide (day ≤ b.lastDay)

/-- A use mark is set. -/
def TicketBlock.marked (b : TicketBlock) (bit : Nat) : Bool := b.marks.testBit bit

/-- The block with a mark set. -/
def TicketBlock.setMark (bit : Nat) (b : TicketBlock) : TicketBlock :=
  if b.marked bit then b else { b with marks := b.marks + 2 ^ bit }

/-- The block with a mark clear. -/
def TicketBlock.clearMark (bit : Nat) (b : TicketBlock) : TicketBlock :=
  if b.marked bit then { b with marks := b.marks - 2 ^ bit } else b

/-- The block of a serial changed by f. -/
def Tt.modBlock (serial : Nat) (f : TicketBlock → TicketBlock) (t : Tt) : Tt :=
  { t with blocks := t.blocks.map (fun b => if b.covers serial then f b else b) }

/-- Two ranges of serials have a serial in common (07 R110). -/
def rangesMeet (first1 count1 first2 count2 : Nat) : Bool :=
  decide (first1 < first2 + count2) && decide (first2 < first1 + count1)

/-- TICKETS_LOAD at its owner (07 R110, R111). -/
def loadTickets (t : TicketBody) (s : State) : Answer :=
  match ticketClass? t.cls with
  | none => .error .format
  | some c =>
    if t.count < 1 ∨ 4096 < t.count ∨ t.lastDay < t.firstDay ∨ 4294967296 < t.first + t.count then
      .error .bounds
    else if s.tt.blocks.any (fun b =>
        decide (b.id = t.block) || rangesMeet b.first b.count t.first t.count) then .error .overlap
    else if 32 ≤ s.tt.blocks.length then .error .full
    else done (s.modTt fun x => { x with blocks := x.blocks ++
      [{ id := t.block, first := t.first, count := t.count, cls := c, firstDay := t.firstDay,
         lastDay := t.lastDay, marks := bitmapValue t.bitmap % 2 ^ markCount c t.count }] })

/-- A serial of the block is queued or held by a lane in PASSAGE (07 R112). -/
def State.blockInUse (s : State) (b : TicketBlock) : Bool :=
  s.gqu.queues.any (fun q => q.entries.any (fun e => b.covers e.serial))
    || s.gqu.lanes.any (fun l => match l.passage with
      | some p => b.covers p.serial
      | none => false)

/-- TICKETS_DROP at its owner (07 R112). -/
def dropTickets (block : Nat) (s : State) : Answer :=
  match s.tt.blocks.find? (fun b => decide (b.id = block)) with
  | none => .error .notFound
  | some b =>
    if s.blockInUse b then .error .inUse
    else done (s.modTt fun x => { x with blocks := x.blocks.filter (fun y => decide (y.id ≠ block)) })

/-! ### The passback list (07 section 7.4) -/

/-- The list after the removal of every entry whose age exceeds the passback interval (07 R121). -/
def Tt.swept (t : Tt) : Tt :=
  { t with passback := t.passback.filter (fun e => decide (t.clock - e.time ≤ t.passbackS * 1000)) }

/-- The entry of a serial in the list. -/
def Tt.passbackOf (t : Tt) (serial : Nat) : Option PassbackEntry :=
  t.passback.find? (fun e => decide (e.serial = serial))

/-- The list without the entry of a serial. -/
def withoutSerial (serial : Nat) (l : List PassbackEntry) : List PassbackEntry :=
  l.filter (fun e => decide (e.serial ≠ serial))

/-- The list after the write of an entry: an entry of the serial is replaced, and a full list loses its
oldest (07 R120). -/
def writePassback (e : PassbackEntry) (l : List PassbackEntry) : List PassbackEntry :=
  let rest := withoutSerial e.serial l
  (if 64 ≤ rest.length then rest.drop 1 else rest) ++ [e]

/-- TICKET_QUERY at its owner (07 R114). -/
def queryTicket (serial : Nat) (s : State) : Answer :=
  match s.tt.find serial with
  | none => .error .notFound
  | some b =>
    let t := s.tt.swept
    let n := serial - b.first
    .ok (s.modTt Tt.swept, .ticket
      { block := b.id, cls := b.cls, firstDay := b.firstDay, lastDay := b.lastDay,
        inDays := b.validOn s.tt.day,
        marks := match b.cls with
          | .single => [b.marked n]
          | .return => [b.marked (2 * n), b.marked (2 * n + 1)]
          | .day => []
          | .staff => [],
        passback := t.passbackOf serial })

/-! ### Validation (07 section 7.3) -/

/-- The bit position of the use mark that an entry in direction d spends (07 section 7.1, R116). -/
def TicketBlock.bitOf (b : TicketBlock) (serial : Nat) (d : Dir) : Nat :=
  let n := serial - b.first
  match b.cls, d with
  | .return, .up => 2 * n
  | .return, .down => 2 * n + 1
  | _, _ => n

/-- What the ticket table gives a presentation: its own state after it, the outcome, and for ADMIT the
ticket's class and the undo record (07 R115, R118). -/
structure Verdict where
  tt : Tt
  outcome : LaneOutcome
  cls : TicketClass
  undo : Undo
  deriving DecidableEq, Repr

/-- The class check of a ticket of block b at a lane of a station and direction; `queued` says whether
the lane's queue holds an entry for the serial (07 R116, R117). -/
def classCheck (b : TicketBlock) (serial station : Nat) (d : Dir) (queued : Bool) (t : Tt) : Verdict :=
  let bit := b.bitOf serial d
  let refuse : Tt → LaneOutcome → Verdict := fun t o => { tt := t, outcome := o, cls := b.cls, undo := .nothing }
  let grant : Tt → Undo → Verdict := fun t u => { tt := t, outcome := .admits, cls := b.cls, undo := u }
  let byMark : Verdict :=
    if b.marked bit then refuse t .used
    else grant (t.modBlock serial (TicketBlock.setMark bit)) (.mark bit)
  match b.cls with
  | .single => byMark
  | .return => byMark
  | .staff => if queued then refuse t .passback else grant t .nothing
  | .day =>
    if queued then refuse t .passback
    else if t.passbackS = 0 then grant t .nothing
    else
      let w := t.swept
      let entry : PassbackEntry := { serial := serial, station := station, time := w.clock }
      let list := writePassback entry w.passback
      let written := grant { w with passback := list } (.passback station w.clock)
      match w.passbackOf serial with
      | some e => if e.station = station then refuse w .passback else written
      | none => written

/-- Steps 3 to 5 of a presentation (07 R115). -/
def validate (serial station : Nat) (d : Dir) (queued : Bool) (t : Tt) : Verdict :=
  match t.find serial with
  | none => { tt := t, outcome := .unknown, cls := .single, undo := .nothing }
  | some b =>
    if b.validOn t.day then classCheck b serial station d queued t
    else { tt := t, outcome := .notValid, cls := b.cls, undo := .nothing }

/-- The undoing of a validation whose passage timed out (07 R119). -/
def undoValidation (serial : Nat) (u : Undo) (t : Tt) : Tt :=
  match u with
  | .mark bit => t.modBlock serial (TicketBlock.clearMark bit)
  | .passback station time =>
    { t with passback := t.passback.filter (fun e =>
        decide (¬(e.serial = serial ∧ e.station = station ∧ e.time = time))) }
  | .nothing => t

/-! ### Service day and line clock (07 section 7.5) -/

/-- The ticket table after an accepted DAY_SET (07 R123). -/
def Tt.setDay (day time : Nat) (t : Tt) : Tt :=
  { t with
    passback := if day = t.day then t.passback.filter (fun e => decide (e.time ≤ time)) else [],
    day := day, clock := time, clockUs := 0 }

/-- DAY_SET at its owner (07 R123). -/
def setDay (day time : Nat) (s : State) : Answer :=
  if 86399999 < time then .error .bounds
  else
    let t := s.modTt (Tt.setDay day time)
    done (if day = s.tt.day then t else mark .brakes t)

end Sys2Proof.Machine
end

