-- ==== Sys2Proof/Machine/Gates.lean ====
section
/-!
DEFINITION. The gate and queue unit (chapter 8): the lane table and its requests, presentations, passages
and jams, the admission queues, boarding batches, car loads and the load cross-check.
-/

namespace Sys2Proof.Machine

/-! ### The lane table -/

/-- The lane of an id changed by f. -/
def modLane (id : Nat) (f : Lane → Lane) (s : State) : State :=
  s.modGqu fun g => { g with lanes := g.lanes.map (fun l => if l.id = id then f l else l) }

/-- Queue q changed by f. -/
def modQueue (q : Nat) (f : Queue → Queue) (s : State) : State :=
  s.modGqu fun g => { g with queues := updateAt q f g.queues }

/-- The role of a number of the catalogue (08 R127). -/
def laneRole? : Nat → Option LaneRole
  | 0 => some .entryUp
  | 1 => some .entryDown
  | 2 => some .exit
  | _ => none

/-- A new lane record (08 R127). -/
def newLane (day : Nat) (jam : List Bool) (d : LaneDesc) : Lane :=
  { id := d.lane, station := d.station, role := (laneRole? d.role).getD .exit, hostClosed := false,
    jammed := jam.getD d.lane false, passage := none, lastSerial := none, lastOutcome := none,
    countDay := day, admissions := 0, refusals := 0, passages := 0, unpaid := 0 }

/-- No number stands twice in the list. -/
def distinct : List Nat → Bool
  | [] => true
  | x :: xs => !(decide (x ∈ xs)) && distinct xs

/-- A lane description passes the checks of its own values (08 R127). -/
def laneOk (r : LineRec) (d : LaneDesc) : Bool :=
  decide (d.lane ≤ 15) && decide (d.station < r.stations) && (laneRole? d.role).isSome
    && (match r.table[d.station]? with
        | some st => decide (d.lane ∈ st.lanes)
        | none => false)
    && !(decide (d.role = 1) && decide (d.station = 0))
    && !(decide (d.role = 0) && decide (d.station + 1 = r.stations))

/-- The slot of a GATE_LANE_FAULT. -/
def isLaneFault (k : FaultKey) (_ : FaultRec) : Bool := decide (k.code = .gateLaneFault)

/-- Every GATE_LANE_FAULT slot is removed (08 R127, 10 R174). -/
def removeLaneFaults (s : State) : State := emptySlots (FaultTable.removed isLaneFault) s

/-- GATE_LANE_FAULT is raised for each lane of a list whose jammed flag is set (08 R127, R149). -/
def raiseJams : List Lane → State → State
  | [], s => s
  | l :: ls, s => raiseJams ls (if l.jammed then raise ⟨.gateLaneFault, l.id⟩ s else s)

/-- The LANE keys of a list of lanes. -/
def laneKeys (l : List Lane) : List NoticeKey := l.map (fun x => NoticeKey.lane x.id)

/-- LANES_SET at its owner (08 R127). -/
def setLanes (lanes : List LaneDesc) (s : State) : Answer :=
  match s.lgp.line with
  | none => .error .notConfigured
  | some r =>
    if 16 < lanes.length ∨ lanes.all (laneOk r) = false ∨ distinct (lanes.map LaneDesc.lane) = false then
      .error .bounds
    else
      let old := s.gqu.lanes
      let new := lanes.map (newLane s.tt.day s.gqu.jamIn)
      let s1 := (removeLaneFaults s).modGqu fun g => { g with lanes := new }
      let s2 := raiseJams new s1
      done (markAll (laneKeys old ++ laneKeys new)
        (s2.modMau fun m => { m with config := { m.config with lanes := true } }))

/-- LANE OPEN and LANE CLOSE at their owner (08 R129). -/
def setLaneClosed (id : Nat) (closed : Bool) (s : State) : Answer :=
  match s.lane? id with
  | none => .error .notFound
  | some _ => done (modLane id (fun l => { l with hostClosed := closed }) s)

/-- LANE CLEAR at its owner (08 R129). -/
def clearLane (id : Nat) (s : State) : Answer :=
  match s.lane? id with
  | none => .error .notFound
  | some _ =>
    if s.gqu.jamIn.getD id false then .error .state
    else done ((modLane id (fun l => { l with jammed := false }) s).modFt
      (FaultTable.removed (fun k _ => decide (k = ⟨.gateLaneFault, id⟩))))

/-- A leaf jam input is asserted (08 R130). -/
def jamLane (id : Nat) (s : State) : State :=
  let s1 := s.modGqu fun g => { g with jamIn := updateAt id (fun _ => true) g.jamIn }
  match s.lane? id with
  | none => s1
  | some _ => raise ⟨.gateLaneFault, id⟩ (modLane id (fun l => { l with jammed := true }) s1)

/-- A leaf jam input is withdrawn (08 R130). -/
def unjamLane (id : Nat) (s : State) : State :=
  s.modGqu fun g => { g with jamIn := updateAt id (fun _ => false) g.jamIn }

/-- QUEUE OPEN and QUEUE CLOSE at their owner (08 R139). -/
def setQueueClosed (q : Nat) (closed : Bool) (s : State) : Answer :=
  if s.gqu.queues.length ≤ q then .error .notFound
  else done (modQueue q (fun x => { x with hostClosed := closed }) s)

/-! ### Presentations and passages (08 section 8.2) -/

/-- A count one higher, holding at 65,535 (08 R131). -/
def countUp (n : Nat) : Nat := min 65535 (n + 1)

/-- The lane's counts as they belong to the service day (08 R131). -/
def Lane.onDay (day : Nat) (l : Lane) : Lane :=
  if l.countDay = day then l
  else { l with countDay := day, admissions := 0, refusals := 0, passages := 0, unpaid := 0 }

/-- A lane after a refused presentation (07 R115, 08 R131). -/
def Lane.refuse (day serial : Nat) (o : LaneOutcome) (l : Lane) : Lane :=
  let x := l.onDay day
  { x with refusals := countUp x.refusals, lastSerial := some serial, lastOutcome := some o }

/-- A lane after an ADMIT, with its passage in progress (08 R132). -/
def Lane.letIn (day serial : Nat) (p : Passage) (l : Lane) : Lane :=
  let x := l.onDay day
  { x with admissions := countUp x.admissions, lastSerial := some serial, lastOutcome := some .admits,
           passage := some p }

/-- The queue with a PENDING entry appended (08 R132). -/
def Queue.append (e : Entry) (q : Queue) : Queue := { q with entries := q.entries ++ [e] }

/-- A presentation at lane l, an entry lane of direction d whose queue is number q (07 R115, 08 R132). -/
def presentAt (l : Lane) (d : Dir) (q serial : Nat) (s : State) : State :=
  let entries := match s.gqu.queues[q]? with
    | some x => x.entries
    | none => []
  let refuse : LaneOutcome → State → State := fun o t => modLane l.id (Lane.refuse s.tt.day serial o) t
  if s.laneState l ≠ .open then refuse .laneClosed s
  else if 160 ≤ entries.length then refuse .queueFull s
  else
    let v := validate serial l.station d (entries.any (fun e => decide (e.serial = serial))) s.tt
    let s1 := s.modTt fun _ => v.tt
    if v.outcome = .admits then
      let p : Passage :=
        { serial := serial, undo := v.undo, start := s.tt.clock, due := s.now + s.gqu.passageMs * 1000 }
      let e : Entry := { serial := serial, cls := v.cls, lane := l.id, admitted := none, batch := none }
      modLane l.id (Lane.letIn s.tt.day serial p) (modQueue q (Queue.append e) s1)
    else refuse v.outcome s1

/-- A presentation at a lane: ignored at an exit lane and at an id without a lane (08 R132, log 17). -/
def present (id serial : Nat) (s : State) : State :=
  match s.lane? id with
  | none => s
  | some l =>
    match l.role.dir with
    | none => s
    | some d =>
      match queueIndex s.stations l.station d with
      | none => s
      | some q => presentAt l d q serial s

/-- The PENDING entry of a serial becomes ADMITTED and stands behind the last ADMITTED one (08 R133). -/
def Queue.admitEntry (serial clock : Nat) (q : Queue) : Queue :=
  match q.entries.find? (fun e => decide (e.serial = serial) && e.admitted.isNone) with
  | none => q
  | some e =>
    let front := q.entries.filter (fun x => x.admitted.isSome)
    let back := q.entries.filter (fun x => x.admitted.isNone && decide (x.serial ≠ serial))
    { q with entries := front ++ [{ e with admitted := some clock }] ++ back }

/-- The PENDING entry of a serial is withdrawn (08 R134). -/
def Queue.withdraw (serial : Nat) (q : Queue) : Queue :=
  { q with entries := q.entries.filter (fun x => !(x.admitted.isNone && decide (x.serial = serial))) }

/-- The queue of a lane changed by f, if it has one. -/
def modLaneQueue (l : Lane) (f : Queue → Queue) (s : State) : State :=
  match s.laneQueue l with
  | some q => modQueue q f s
  | none => s

/-- The car that may be alighting at a station (08 R136). -/
def State.alighting (s : State) (station : Nat) : Option Car :=
  [Car.a, Car.b].find? (fun c =>
    match (s.dc.pairs.car c).released with
    | some r => decide (s.stationOf c r.stop = station) && decide (s.doorState? c.index ≠ some .locked)
    | none => false)

/-- A car's load changed by f. -/
def modLoad (c : Car) (f : Option Nat → Option Nat) (s : State) : State :=
  s.modGqu fun g => { g with loads := g.loads.setCar c (f (g.loads.car c)) }

/-- A lane after a passage that it counts (08 R131, R133, R136). -/
def Lane.passed (day : Nat) (l : Lane) : Lane :=
  let x := l.onDay day
  { x with passages := countUp x.passages, passage := none }

/-- A lane after an unpaid passage (08 R135). -/
def Lane.unpaidPassage (day : Nat) (l : Lane) : Lane :=
  let x := l.onDay day
  { x with unpaid := countUp x.unpaid }

/-- The passage sensor of a lane reports a passage (08 R133, R135, R136). -/
def passLane (id : Nat) (s : State) : State :=
  match s.lane? id with
  | none => s
  | some l =>
    match l.role.dir with
    | none =>
      let s1 := modLane id (Lane.passed s.tt.day) s
      match s.alighting l.station with
      | some c => modLoad c (fun n => n.map (fun x => x - 1)) s1
      | none => s1
    | some _ =>
      match l.passage with
      | some p => modLane id (Lane.passed s.tt.day)
          (modLaneQueue l (Queue.admitEntry p.serial s.tt.clock) s)
      | none => modLane id (Lane.unpaidPassage s.tt.day) s

/-- The passage interval of a lane expires (08 R134, 07 R119). -/
def timeoutLane (id : Nat) (s : State) : State :=
  match s.lane? id with
  | none => s
  | some l =>
    match l.passage with
    | none => s
    | some p =>
      let s1 := (modLaneQueue l (Queue.withdraw p.serial) s).modTt (undoValidation p.serial p.undo)
      modLane id (fun x => { x with lastOutcome := some .timeout, passage := none }) s1

/-! ### Boarding batches (08 section 8.4) -/

/-- The first n ADMITTED entries without a batch mark take the mark of car c (08 R141). -/
def markEntries (c : Car) : Nat → List Entry → List Entry
  | _, [] => []
  | 0, l => l
  | n + 1, e :: es =>
    if e.admitted.isSome ∧ e.batch = none then { e with batch := some c } :: markEntries c n es
    else e :: markEntries c (n + 1) es

/-- The heading of a car: that of the line for car A, the opposite for car B (08 R141). -/
def State.headingOf (s : State) (c : Car) : Dir :=
  match c with
  | .a => s.hc.heading
  | .b => s.hc.heading.opposite

/-- The free capacity of a car; 0 before a capacity is configured (08 R141, log 26). -/
def State.freeCapacity (s : State) (c : Car) : Nat := s.gqu.capacity.getD 0 - (s.gqu.loads.car c).getD 0

/-- Boarding closed for car c at stop k: its batch is fixed, after any it has is dissolved (08 R141). -/
def boardingClosed (c : Car) (k : Nat) (s : State) : State :=
  let s0 := dissolveBatch c s
  match queueIndex s.stations (s.stationOf c k) (s.headingOf c) with
  | none => s0
  | some q =>
    let s1 := modQueue q (fun x => { x with entries := markEntries c (s.freeCapacity c) x.entries }) s0
    let s2 := s1.modGqu fun g => { g with batches := g.batches.setCar c (some { stop := k, queue := q }) }
    mark (.queue q) (mark (.car c) s2)

/-- Car c's batch is committed: its entries leave the queue and its known load rises by their number
(08 R143). -/
def commitBatch (c : Car) (s : State) : State :=
  match s.gqu.batches.car c with
  | none => mark (.car c) s
  | some b =>
    let n := s.batchSize c
    let s1 := modQueue b.queue
      (fun x => { x with entries := x.entries.filter (fun e => decide (e.batch ≠ some c)) }) s
    let s2 := modLoad c (fun x => x.map (fun y => y + n)) s1
    mark (.queue b.queue) (mark (.car c)
      (s2.modGqu fun g => { g with batches := g.batches.setCar c none }))

/-! ### The load cross-check (08 section 8.6) -/

/-- The deviation in 0.001 kg while the cross-check runs, none while it does not (08 R146). -/
def State.deviation (s : State) : Option Nat :=
  if s.hc.haul = .parked ∧ s.allLocked = true then
    match s.gqu.loads.fst, s.gqu.loads.snd, s.imbalance with
    | some a, some b, some i => some (i - ((a : Int) - b) * s.gqu.mass * 1000).natAbs
    | _, _, _ => none
  else none

/-- The deviation is on the far side of the tolerance from the condition (08 R146). The model's choice: while no
tolerance is configured no deviation is beyond it (log 26). -/
def State.farSide (s : State) : Bool :=
  match s.deviation, s.gqu.tolerance with
  | some d, some t => if s.gqu.disagree then decide (d ≤ t * 1000) else decide (t * 1000 < d)
  | _, _ => false

/-- The settle interval is started or stopped as the deviation stands (08 R146, R147). -/
def judgeLoads (s : State) : State :=
  let due := match s.gqu.settleDue with
    | some d => some d
    | none => some (s.now + 3000000)
  s.modGqu fun g => { g with settleDue := if s.farSide then due else none }

/-- The settle interval expires (08 R146). -/
def settleExpires (s : State) : State :=
  let s1 := s.modGqu fun g => { g with disagree := !g.disagree, settleDue := none }
  if s.gqu.disagree then endCondition ⟨.loadDisagree, 0⟩ s1 else raise ⟨.loadDisagree, 0⟩ s1

/-! ### Line restart and LINE_SET -/

/-- The queues of a line of S stations, formed empty (08 R137). -/
def newQueues (stations : Nat) : List Queue :=
  List.replicate (2 * stations - 2) { hostClosed := false, entries := [] }

/-- The part of GQU in a line restart (08 R149). -/
def restartGates (s : State) : State :=
  let s1 := s.modGqu fun g => { g with
    lanes := g.lanes.map (fun l => { l with passage := none }),
    queues := g.queues.map (fun q => { q with entries := [] }),
    batches := ⟨none, none⟩, loads := ⟨none, none⟩, disagree := false, settleDue := none }
  raiseJams s1.gqu.lanes s1

end Sys2Proof.Machine
end

