-- ==== Sys2Proof/Machine/Doors.lean ====
section
/-!
DEFINITION. The door controller (chapter 6): the states of door sets and pairs, release, opening, the
dwell, closing, obstruction, proof timeouts, unproven doors, and what it hands to the gate and queue unit.
-/

namespace Sys2Proof.Machine

/-! ### Records -/

/-- The car of a number: 0 car A, 1 car B. -/
def carOf? : Nat → Option Car
  | 0 => some .a
  | 1 => some .b
  | _ => none

/-- Door set i's record changed by f. -/
def modDoor (i : Nat) (f : DoorSet → DoorSet) (s : State) : State :=
  s.modDc fun d => { d with sets := updateAt i f d.sets }

/-- Car c's pair record changed by f. -/
def modPair (c : Car) (f : PairRec → PairRec) (s : State) : State :=
  s.modDc fun d => { d with pairs := d.pairs.setCar c (f (d.pairs.car c)) }

/-- The DOOR keys of door sets. -/
def doorKeys (l : List Nat) : List NoticeKey := l.map NoticeKey.door

/-- The released record of car c's pair changed by f, if it is released. A change marks the keys of both sets
here, since it may be undone before the event ends (06 R108, 11 R183, log 6). -/
def modReleased (c : Car) (f : Released → Released) (s : State) : State :=
  match (s.dc.pairs.car c).released with
  | none => s
  | some r =>
    if f r = r then s
    else markAll (doorKeys (s.pairSets c r.stop)) (modPair c (fun p => { p with released := some (f r) }) s)

/-- The dwell becomes d. A change marks the keys of door sets 0 and 1 here, since it may be undone before the
event ends (06 R100, R108, 11 R183, log 6). -/
def setDwell (d : Dwell) (s : State) : State :=
  if s.dc.dwell = d then s else markAll (doorKeys [0, 1]) (s.modDc fun x => { x with dwell := d })

/-- One more door message to car c (06 R94, log 29). -/
def sendDoor (c : Car) (s : State) : State :=
  s.modDc fun d => { d with doorMessages := d.doorMessages.setCar c (d.doorMessages.car c + 1) }

/-- The command of door set i, NONE if the table has no such set. -/
def State.doorCommand (s : State) (i : Nat) : DoorCommand :=
  match s.dc.sets[i]? with
  | some d => d.command
  | none => .none

/-- Door set i takes a command; a change for a car door set is sent to the car (06 R94). -/
def commandDoor (i : Nat) (x : DoorCommand) (s : State) : State :=
  let s1 := modDoor i (fun d => { d with command := x }) s
  if s.doorCommand i = x then s1
  else match carOf? i with
    | some c => sendDoor c s1
    | none => s1

/-- The sets of a list in one of the states that p accepts. -/
def State.setsIn (s : State) (p : DoorState → Bool) (l : List Nat) : List Nat :=
  l.filter (fun i => match s.doorState? i with
    | some x => p x
    | none => false)

/-- f done for each number of a list, in order. -/
def forEach (f : Nat → State → State) : List Nat → State → State
  | [], s => s
  | i :: is, s => forEach f is (f i s)

/-! ### Opening (06 section 6.3) -/

/-- Boarding reopened, when a car door set leaves LOCKED while the window test gives a stop and no committed trip
is ACTIVE: the car's batch is dissolved (06 R107, 08 R142). -/
def boardingReopened (i : Nat) (s : State) : State :=
  match carOf? i with
  | none => s
  | some c =>
    if s.windowStop.isSome ∧ ¬(s.hc.trip.state = .active ∧ s.hc.trip.committed = true) then dissolveBatch c s
    else s

/-- A car door set that enters OPEN at a terminal stop empties its car (08 R144). -/
def terminalOpening (i : Nat) (s : State) : State :=
  match carOf? i with
  | none => s
  | some c =>
    match (s.dc.pairs.car c).released with
    | none => s
    | some r => if r.stop = 0 ∨ r.stop + 1 = s.stations then modLoad c (fun _ => some 0) s else s

/-- Door set i enters OPEN, proven or not; the command stays OPEN (06 R99). -/
def enterOpen (i : Nat) (proven : Bool) (s : State) : State :=
  terminalOpening i (modDoor i (fun d => { d with
    state := .open, proof := none,
    lastProof := if proven then some s.tt.clock else d.lastProof }) s)

/-- Door set i enters OPENING, and OPEN at once when its fully-open input is asserted (06 R99). -/
def enterOpening (i : Nat) (s : State) : State :=
  let s0 := if s.doorState? i = some .locked then boardingReopened i s else s
  let s1 := commandDoor i .open (modDoor i (fun d => { d with
    state := .opening, proof := some { start := s.tt.clock, due := s.now + 4000000 } }) s0)
  if (s.doorIn i).opened then enterOpen i true s1 else s1

/-- A release, or a reopening of a released pair, sends every set that is LOCKED, UNPROVEN or CLOSING to
OPENING (06 R96, R98). -/
def openSets (l : List Nat) (s : State) : State :=
  forEach enterOpening (s.setsIn (fun x => match x with
    | .locked => true
    | .unproven => true
    | .closing => true
    | .opening => false
    | .open => false) l) s

/-- Car c's pair is released at stop k (06 R96). -/
def releasePair (c : Car) (k : Nat) (s : State) : State :=
  openSets (s.pairSets c k) (modPair c (fun _ =>
    { released := some { stop := k, closeDemand := false, closureStopped := false },
      pendingStop := none }) s)

/-- Automatic release of car c's pair is asked at stop k: released at once or left pending (06 R97). -/
def askRelease (c : Car) (k : Nat) (s : State) : State :=
  if s.mayRelease c k then releasePair c k s
  else modPair c (fun p => { p with pendingStop := some k }) s

/-- The stop at which automatic release is asked: that of the window test, and after an arrival that the window
test does not confirm the target of the trip that arrived (06 R97, log 38). -/
def State.releaseStop (s : State) : Option Nat :=
  match s.windowStop with
  | some k => some k
  | none => s.hc.trip.rec?.bind (fun t => t.target)

/-- Automatic release of both pairs is asked (06 R97). -/
def askReleases (s : State) : State :=
  match s.releaseStop with
  | some k => askRelease .b k (askRelease .a k s)
  | none => s

/-- A pending automatic release of car c lapses or is carried out (06 R97). -/
def judgePending (c : Car) (s : State) : State :=
  match (s.dc.pairs.car c).pendingStop with
  | none => s
  | some k =>
    let elsewhere := match s.windowStop with
      | some j => decide (j ≠ k)
      | none => false
    if s.mau.mode ≠ .automatic ∨ s.hc.haul ≠ .parked ∨ elsewhere = true then
      modPair c (fun p => { p with pendingStop := none }) s
    else if s.mayRelease c k then releasePair c k s
    else s

/-! ### The dwell (06 R100) -/

/-- Every set of every released pair is OPEN, and at least one pair is released (06 R100). -/
def State.releasedOpen (s : State) : Bool :=
  let openAt : Car → Bool := fun c => match (s.dc.pairs.car c).released with
    | none => true
    | some r => (s.pairSets c r.stop).all (fun i => decide (s.doorState? i = some .open))
  (s.dc.pairs.fst.released.isSome || s.dc.pairs.snd.released.isSome) && openAt .a && openAt .b

/-- The dwell starts when its conditions hold and returns to IDLE when both pair records are empty
(06 R100). -/
def judgeDwell (s : State) : State :=
  match s.dc.dwell with
  | .idle =>
    if s.mau.mode = .automatic ∧ s.releasePending = false ∧ s.releasedOpen = true then
      setDwell (.running s.tt.clock (s.now + s.dc.dwellS * 1000000)) s
    else s
  | _ =>
    if s.dc.pairs.fst.released.isNone && s.dc.pairs.snd.released.isNone then setDwell .idle s else s

/-! ### Closing (06 section 6.5) -/

/-- Boarding closed, when a car door set enters LOCKED from CLOSING: the car's batch is fixed
(06 R107, 08 R141). -/
def boardingShut (i : Nat) (s : State) : State :=
  match carOf? i with
  | none => s
  | some c =>
    match (s.dc.pairs.car c).released with
    | some r => boardingClosed c r.stop s
    | none => s

/-- The hold flags of both sets of car c's pair at stop k become v (06 R101). -/
def setHold (c : Car) (k : Nat) (v : Bool) (s : State) : State :=
  forEach (fun i => modDoor i (fun d => { d with hold := v })) (s.pairSets c k) s

/-- A pair record is emptied when both of its sets are LOCKED (06 R95). Their hold flags are clear then, also
that of a set that was held while LOCKED (06 R101, R109, log 39). -/
def emptyPair (c : Car) (s : State) : State :=
  match (s.dc.pairs.car c).released with
  | none => s
  | some r =>
    if (s.pairSets c r.stop).all (fun i => decide (s.doorState? i = some .locked)) then
      setHold c r.stop false (modPair c (fun p => { p with released := none }) s)
    else s

/-- Both pair records are judged by R95. -/
def emptyPairs (s : State) : State := emptyPair .b (emptyPair .a s)

/-- Door set i enters LOCKED, from CLOSING or UNPROVEN (06 R103, R106). -/
def enterLocked (i : Nat) (s : State) : State :=
  let s1 := commandDoor i .none (modDoor i (fun d => { d with
    state := .locked, proof := none, lastProof := some s.tt.clock, reopen := 0, hold := false }) s)
  let s2 := endCondition ⟨.doorObstructed, i⟩ (endCondition ⟨.doorUnproven, i⟩ s1)
  emptyPairs (if s.doorState? i = some .closing then boardingShut i s2 else s2)

/-- DOOR_OBSTRUCTED is raised for each set of a list whose reopen count has reached 3 (06 R105). -/
def raiseObstructed (i : Nat) (s : State) : State :=
  match s.dc.sets[i]? with
  | some d => if 3 ≤ d.reopen then raise ⟨.doorObstructed, i⟩ s else s
  | none => s

/-- The reopen count of set i rises by 1, to 3 at most (06 R105). -/
def countObstruction (i : Nat) (s : State) : State :=
  modDoor i (fun d => { d with reopen := min 3 (d.reopen + 1) }) s

/-- Obstructions of the sets `is` of car c's pair, all CLOSING (06 R105): each count rises by 1, at 3 the
close demand is cleared and closure stopped, and every CLOSING set of the pair reopens. -/
def obstruct (c : Car) (is : List Nat) (s : State) : State :=
  match (s.dc.pairs.car c).released with
  | none => s
  | some r =>
    let s1 := forEach countObstruction is s
    let limit := is.any (fun i => match s1.dc.sets[i]? with
      | some d => decide (3 ≤ d.reopen)
      | none => false)
    let s2 := if limit then modReleased c (fun x =>
        { x with closeDemand := false, closureStopped := true }) (forEach raiseObstructed is s1)
      else s1
    forEach enterOpening (s2.setsIn (fun x => decide (x = .closing)) (s.pairSets c r.stop)) s2

/-- An obstruction of a CLOSING set that belongs to no released pair, as the platform set of a stop that its pair
has been released away from: its count rises by 1, at 3 DOOR_OBSTRUCTED is raised, and it reopens (06 R105). -/
def obstructAlone (i : Nat) (s : State) : State :=
  enterOpening i (raiseObstructed i (countObstruction i s))

/-- Door set i takes the state CLOSING with its command and its close proof (06 R103). Its key is marked here,
since the set may be back where it was before the event ends (06 R108, 11 R183, log 6). -/
def startClosing (i : Nat) (s : State) : State :=
  mark (.door i) (commandDoor i .close (modDoor i (fun d => { d with
    state := .closing, proof := some { start := s.tt.clock, due := s.now + 6000000 } }) s))

/-- The sets `is` of car c's pair enter CLOSING together, and then their inputs are looked at: sets found
closed lock, and obstructed ones are obstructions (06 R103, log 18). -/
def sendClosing (c : Car) (is : List Nat) (s : State) : State :=
  let s1 := forEach startClosing is s
  let s2 := forEach enterLocked (is.filter (fun i => (s1.doorIn i).closed)) s1
  match is.filter (fun i => (s1.doorIn i).obstructed && !(s1.doorIn i).closed) with
  | [] => s2
  | os => obstruct c os s2

/-- The sets of a released pair that are neither LOCKED nor UNPROVEN (06 R103). -/
def State.moving (s : State) (c : Car) (k : Nat) : List Nat :=
  s.setsIn (fun x => decide (x ≠ .locked) && decide (x ≠ .unproven)) (s.pairSets c k)

/-- The UNPROVEN sets of a released pair. -/
def State.unprovenSets (s : State) (c : Car) (k : Nat) : List Nat :=
  s.setsIn (fun x => decide (x = .unproven)) (s.pairSets c k)

/-- The close demand of car c's pair acts while it is set and every set that is neither LOCKED nor
UNPROVEN is OPEN; a set that reopens at once is looked at again (06 R103). The sets that entered OPEN are
handed to the dwell first (06 R99). Each round but the last counts an obstruction, and counts end at 3, so
the rounds given suffice. -/
def closeWhileDue (c : Car) : Nat → State → State
  | 0, s => s
  | n + 1, s =>
    match (s.dc.pairs.car c).released with
    | none => s
    | some r =>
      let sets := s.moving c r.stop
      if r.closeDemand = true ∧ sets ≠ [] ∧
          sets.all (fun i => decide (s.doorState? i = some .open)) = true then
        closeWhileDue c n (sendClosing c ((s.pairSets c r.stop).filter (fun i =>
          decide (i ∈ sets) || decide (i ∈ s.unprovenSets c r.stop))) (judgeDwell s))
      else s

/-- The close demand of car c's pair acts (06 R103). -/
def closeIfDue (c : Car) (s : State) : State := closeWhileDue c 8 s

/-- The close demand of car c's pair, just set, acts. In a pair all of whose sets are LOCKED or UNPROVEN every
set that is neither is OPEN, so the UNPROVEN set is sent (06 R103, log 18). -/
def closeOnDemand (c : Car) (s : State) : State :=
  match (s.dc.pairs.car c).released with
  | none => s
  | some r =>
    closeIfDue c (if s.moving c r.stop = [] then sendClosing c (s.unprovenSets c r.stop) s else s)

/-- The close demands of both pairs act. -/
def closeBoth (s : State) : State := closeIfDue .b (closeIfDue .a s)

/-- The sets that DOORS CLOSE sends to CLOSING (06 R102). -/
def State.closable (s : State) (c : Car) (k : Nat) : List Nat :=
  s.setsIn (fun x => decide (x ≠ .closing) && decide (x ≠ .locked)) (s.pairSets c k)

/-- The dwell expiry may send car c's sets to CLOSING: each that is neither LOCKED nor UNPROVEN is OPEN or
OPENING (06 R103). -/
def State.readyToClose (s : State) (c : Car) (k : Nat) : Bool :=
  (s.moving c k).all (fun i => decide (s.doorState? i ≠ some .closing))

/-- The close demand of car c's pair is set by the dwell expiry (06 R100, R103). It sends every set but those
that are LOCKED, the UNPROVEN set of a pair that has no other too (log 18). -/
def closeAtDwell (c : Car) (s : State) : State :=
  match (s.dc.pairs.car c).released with
  | none => s
  | some r =>
    let s1 := modReleased c (fun x => { x with closeDemand := true }) s
    if s.readyToClose c r.stop then closeIfDue c (sendClosing c (s.closable c r.stop) s1) else s1

/-! ### Inputs (06 R94) -/

/-- The inputs of door set i changed by f. -/
def modDoorIn (i : Nat) (f : DoorInputs → DoorInputs) (s : State) : State :=
  s.modDc fun d => { d with inputs := updateAt i f d.inputs }

/-- A LOCKED set loses its closed-and-locked input (06 R106). -/
def enterUnproven (i : Nat) (s : State) : State :=
  raise ⟨.doorUnproven, i⟩ (commandDoor i .none (modDoor i (fun d => { d with
    state := .unproven, proof := none }) (boardingReopened i s)))

/-- The closed-and-locked input of set i takes a new value (06 R103, R106). -/
def closedChanged (i : Nat) (v : Bool) (s : State) : State :=
  let s1 := modDoorIn i (fun x => { x with closed := v }) s
  match s.doorState? i, v with
  | some .locked, false => enterUnproven i s1
  | some .closing, true => enterLocked i s1
  | some .unproven, true => enterLocked i s1
  | _, _ => s1

/-- The fully-open input of set i takes a new value (06 R99). -/
def openedChanged (i : Nat) (v : Bool) (s : State) : State :=
  let s1 := modDoorIn i (fun x => { x with opened := v }) s
  match s.doorState? i, v with
  | some .opening, true => closeBoth (enterOpen i true s1)
  | _, _ => s1

/-- The obstruction input of set i takes a new value (06 R105). -/
def obstructionChanged (i : Nat) (v : Bool) (s : State) : State :=
  let s1 := modDoorIn i (fun x => { x with obstructed := v }) s
  match s.doorState? i, v, s.pairOf i with
  | some .closing, true, some c => closeIfDue c (obstruct c [i] s1)
  | some .closing, true, none => obstructAlone i s1
  | _, _, _ => s1

/-- An input of set i takes a value, which is a change when it differs from the value held (06 R94). -/
def doorInput (i : Nat) (x : DoorInput) (v : Bool) (s : State) : State :=
  match x with
  | .closedAndLocked => if (s.doorIn i).closed = v then s else closedChanged i v s
  | .fullyOpen => if (s.doorIn i).opened = v then s else openedChanged i v s
  | .obstruction => if (s.doorIn i).obstructed = v then s else obstructionChanged i v s

/-- A door report of a car (06 R94). -/
def doorReport (c : Car) (closed opened obstructed : Bool) (s : State) : State :=
  doorInput c.index .obstruction obstructed
    (doorInput c.index .fullyOpen opened (doorInput c.index .closedAndLocked closed s))

/-! ### Expiries -/

/-- The open proof interval of set i expires (06 R99). -/
def openProofExpires (i : Nat) (s : State) : State :=
  closeBoth (enterOpen i false (raise ⟨.doorTimeout, i⟩ s))

/-- The close proof interval of set i expires (06 R104); the set enters OPEN for its car's load too (08 R144,
log 34). -/
def closeProofExpires (i : Nat) (s : State) : State :=
  let s1 := commandDoor i .none (terminalOpening i (modDoor i (fun d => { d with
    state := .open, proof := none }) (raise ⟨.doorTimeout, i⟩ s)))
  match s.pairOf i with
  | some c => modReleased c (fun x => { x with closeDemand := false, closureStopped := true }) s1
  | none => s1

/-- A pair whose sets both have the hold flag clear and whose closure is not stopped (06 R100). -/
def State.unheld (s : State) (c : Car) : Bool :=
  match (s.dc.pairs.car c).released with
  | none => false
  | some r => !r.closureStopped && (s.pairSets c r.stop).all (fun i =>
      match s.dc.sets[i]? with
      | some d => !d.hold
      | none => true)

/-- The dwell interval expires (06 R100). -/
def dwellExpires (s : State) : State :=
  let s1 := setDwell .expired s
  let s2 := if s.unheld .a then closeAtDwell .a s1 else s1
  if s.unheld .b then closeAtDwell .b s2 else s2

/-! ### Requests (06 sections 6.2 and 6.4) -/

/-- DOORS OPEN at its owner (06 R98). -/
def openDoors (pair : Nat) (s : State) : Answer :=
  match carOf? pair with
  | none => .error .bounds
  | some c =>
    match s.stop with
    | none => .error .state
    | some k =>
      if s.mayRelease c k then
        let s1 := match (s.dc.pairs.car c).released with
          | some r =>
            if r.stop = k then
              openSets (s.pairSets c k) (modReleased c (fun x => { x with closeDemand := false }) s)
            else releasePair c k s
          | none => releasePair c k s
        done (if s.mau.mode = .automatic ∧ s.dc.dwell = .expired then setDwell .idle s1 else s1)
      else .error .state

/-- DOORS CLOSE at its owner (06 R102). -/
def closeDoors (pair : Nat) (s : State) : Answer :=
  match carOf? pair with
  | none => .error .bounds
  | some c =>
    match (s.dc.pairs.car c).released with
    | none => done s
    | some r =>
      let s1 := forEach (fun i => modDoor i (fun d => { d with reopen := 0, hold := false }))
        (s.pairSets c r.stop) s
      let s2 := modReleased c (fun x => { x with closeDemand := true, closureStopped := false }) s1
      done (closeIfDue c (sendClosing c (s.closable c r.stop) s2))

/-- DOORS HOLD SET at its owner (06 R101). -/
def holdDoors (pair : Nat) (s : State) : Answer :=
  match carOf? pair with
  | none => .error .bounds
  | some c =>
    match (s.dc.pairs.car c).released with
    | none => .error .state
    | some r => done (setHold c r.stop true s)

/-- DOORS HOLD CLEAR at its owner (06 R101). -/
def unholdDoors (pair : Nat) (s : State) : Answer :=
  match carOf? pair with
  | none => .error .bounds
  | some c =>
    match (s.dc.pairs.car c).released with
    | none => done s
    | some r =>
      let s1 := setHold c r.stop false s
      if s.mau.mode = .automatic ∧ s.dc.dwell = .expired ∧ r.closureStopped = false ∧
          r.closeDemand = false then
        done (closeOnDemand c (modReleased c (fun x => { x with closeDemand := true }) s1))
      else done s1

/-! ### LINE_SET and line restart -/

/-- A new record of door set i from its inputs (06 R93). -/
def newDoor (x : DoorInputs) : DoorSet :=
  { state := if x.closed then .locked else .unproven, command := .none, proof := none, reopen := 0,
    hold := false, lastProof := none }

/-- DOOR_UNPROVEN is raised for each UNPROVEN set of a list (06 R93, R109). -/
def raiseUnproven (i : Nat) (s : State) : State :=
  if s.doorState? i = some .unproven then raise ⟨.doorUnproven, i⟩ s else s

/-- The door table is built anew for a line of S stations (06 R93, 10 R174). -/
def newDoors (stations : Nat) (s : State) : State :=
  let s0 := forEach (fun i t => if t.doorCommand i = .none then t else
    match carOf? i with
    | some c => sendDoor c t
    | none => t) [0, 1] s
  let s1 := emptySlots (FaultTable.removed (fun k _ =>
    decide (k.code = .doorUnproven) || decide (k.code = .doorTimeout) || decide (k.code = .doorObstructed))) s0
  let s2 := s1.modDc fun d => { d with
    sets := (List.range (stations + 2)).map (fun i =>
      newDoor (d.inputs.getD i { closed := false, opened := false, obstructed := false })),
    pairs := ⟨{ released := none, pendingStop := none }, { released := none, pendingStop := none }⟩,
    dwell := .idle }
  forEach raiseUnproven (List.range (stations + 2)) s2

/-- The part of DC in a line restart (06 R109): pending releases are cleared, the dwell is IDLE, and the
faults of present conditions are raised again. -/
def restartDoors (s : State) : State :=
  let s1 := s.modDc fun d => { d with
    pairs := ⟨{ d.pairs.fst with pendingStop := none }, { d.pairs.snd with pendingStop := none }⟩,
    dwell := .idle }
  let obstructed : Nat → State → State := fun i t =>
    match t.dc.sets[i]? with
    | some d => if 3 ≤ d.reopen ∧ d.state ≠ .locked then raise ⟨.doorObstructed, i⟩ t else t
    | none => t
  let sets := List.range s.dc.sets.length
  forEach obstructed sets (forEach raiseUnproven sets s1)

/-- What leaving AUTOMATIC does to the doors (06 R97, R100): pending releases lapse and the dwell is
IDLE. -/
def leaveAutomaticDoors (s : State) : State :=
  s.modDc fun d => { d with
    pairs := ⟨{ d.pairs.fst with pendingStop := none }, { d.pairs.snd with pendingStop := none }⟩,
    dwell := .idle }

end Sys2Proof.Machine
end

