-- ==== Sys2Proof/Machine/Position.lean ====
section
/-!
DEFINITION. Line geometry and position (chapter 1): the checks of the line record and of the marker table,
marker watches, overtravel, referencing, marker capture.
-/

namespace Sys2Proof.Machine

/-! ### The line record (01 section 1.1) -/

/-- n lies within lo to hi. -/
def within (lo hi n : Nat) : Bool := decide (lo ≤ n) && decide (n ≤ hi)

/-- The record with the defaults of its 0 fields (01 section 1.1). -/
def lineDefaults (r : LineRec) : LineRec :=
  { r with window := if r.window = 0 then 150 else r.window,
           margin := if r.margin = 0 then 1000 else r.margin }

/-- No number stands twice in a list. -/
def noneTwice : List Nat → Bool
  | [] => true
  | x :: xs => !(decide (x ∈ xs)) && noneTwice xs

/-- Consecutive positions are strictly ascending and more than twice the stop window apart (01 R1). -/
def spaced (window : Nat) : List Nat → Bool
  | [] => true
  | [_] => true
  | x :: y :: ys => decide (x + 2 * window < y) && spaced window (y :: ys)

/-- A station record passes the checks of its own values at place s of the table (01 R1). -/
def stationOk (length s : Nat) (st : StationRec) : Bool :=
  within 0 65535 st.id && within 0 length st.position && decide (st.doorSet = s + 2)
    && decide (st.sensor ≤ 5) && decide (st.lanes.length ≤ 4) && st.lanes.all (fun l => decide (l ≤ 15))

/-- Every station record passes its own checks, from place s on (01 R1). -/
def stationsOk (length : Nat) : Nat → List StationRec → Bool
  | _, [] => true
  | s, st :: rest => stationOk length s st && stationsOk length (s + 1) rest

/-- The BOUNDS checks of LINE_SET, on a record with its defaults (01 R1). -/
def lineInBounds (r : LineRec) : Bool :=
  within 200000 6000000 r.length
    && (decide (r.stations = 2) || decide (r.stations = 4) || decide (r.stations = 6))
    && decide (r.table.length = r.stations)
    && stationsOk r.length 0 r.table
    && within 1 (r.length - 1) r.loopStart && within (r.loopStart + 1) (r.length - 1) r.loopEnd
    && within 50 300 r.window && within 200 3000 r.margin
    && within 100 20000 r.driveCpm && within 100 20000 r.sheaveCpm
    && noneTwice (r.table.map StationRec.sensor)
    && noneTwice (r.table.flatMap StationRec.lanes)
    && spaced r.window (r.table.map StationRec.position)

/-- The SYMMETRY checks of LINE_SET (01 R2). -/
def lineSymmetric (r : LineRec) : Bool :=
  let xs := r.table.map StationRec.position
  (List.zip xs xs.reverse).all (fun p => decide (((p.1 : Int) + p.2 - r.length).natAbs ≤ 500))
    && decide (((r.loopStart : Int) + r.loopEnd - r.length).natAbs ≤ 2000)
    && xs.all (fun x => !(decide (r.loopStart ≤ x) && decide (x ≤ r.loopEnd)))

/-! ### Marker watches (01 R16) -/

/-- Car c's watch becomes w. -/
def setWatch (c : Car) (w : Option Watch) (s : State) : State :=
  s.modLgp fun g => { g with watch := g.watch.setCar c w }

/-- Car c's watch is set afresh (01 R16). -/
def freshWatch (c : Car) (s : State) : State :=
  setWatch c ((s.markerAt c (s.carPos c)).map (fun j =>
    { marker := j, fromBelow := decide (c = .a), captured := true })) s

/-- Both watches are set afresh (01 R16). -/
def freshWatches (s : State) : State := freshWatch .b (freshWatch .a s)

/-- Car c's watch after a change of its position from xOld, as far as leaving the named window goes: the
watch is emptied, and MARKER_MISSED raised when the window was crossed without a pulse (01 R16). -/
def leaveWindow (c : Car) (s : State) : State :=
  match s.lgp.watch.car c with
  | none => s
  | some w =>
    match s.marker? w.marker with
    | none => setWatch c none s
    | some m =>
      if m.holds (s.carPos c) then s
      else
        let above := decide ((m.position : Int) < s.carPos c)
        let s1 := setWatch c none s
        if above = w.fromBelow ∧ w.captured = false then raise ⟨.markerMissed, c.index⟩ s1 else s1

/-- Car c's watch after a change of its position from xOld, as far as coming into a window goes
(01 R16, log 13). -/
def enterWindow (c : Car) (xOld : Int) (s : State) : State :=
  if s.lgp.position = .referenced then
    match s.markerAt c (s.carPos c) with
    | none => s
    | some j =>
      if (s.lgp.watch.car c).map Watch.marker = some j then s
      else setWatch c (some { marker := j, fromBelow := decide (xOld < s.carPos c), captured := false }) s
  else s

/-- Car c's watch follows its position (01 R16). -/
def followWatch (c : Car) (xOld : Int) (s : State) : State := enterWindow c xOld (leaveWindow c s)

/-! ### Overtravel (01 R17) -/

/-- Car c's overtravel field becomes o. -/
def setOvertravel (c : Car) (o : Option Side) (s : State) : State :=
  s.modLgp fun g => { g with overtravel := g.overtravel.setCar c o }

/-- Car c is judged for overtravel (01 R17). -/
def judgeOvertravel (c : Car) (s : State) : State :=
  if s.lgp.position = .unknown then s
  else
    match s.lgp.overtravel.car c, s.overtravelSide (s.carPos c) with
    | none, none => s
    | none, some d => raise ⟨.overtravel, c.index⟩ (setOvertravel c (some d) s)
    | some _, none => endCondition ⟨.overtravel, c.index⟩ (setOvertravel c none s)
    | some _, some d => setOvertravel c (some d) s

/-- Both cars are judged for overtravel. -/
def judgeOvertravels (s : State) : State := judgeOvertravel .b (judgeOvertravel .a s)

/-- The position state becomes UNKNOWN: overtravel is no longer judged, and both conditions end
(01 R17). -/
def stopOvertravel (s : State) : State :=
  endCondition ⟨.overtravel, 1⟩ (endCondition ⟨.overtravel, 0⟩
    (s.modLgp fun g => { g with overtravel := ⟨none, none⟩ }))

/-! ### Referencing (01 section 1.4) -/

/-- POSITION_DISAGREE is raised for a list of cars, and the position state becomes DOUBTFUL (01 R11). -/
def doubt (cars : List Car) (s : State) : State :=
  let fresh := s.completePair.isSome && s.standstill
  (cars.foldl (fun t c => raise ⟨.positionDisagree, c.index⟩ t) s).modLgp fun g => { g with
    position := .doubtful, watch := ⟨none, none⟩, freshNeeded := fresh }

/-- The position of a station, 0 if the line has none there. -/
def State.stationPos (s : State) (i : Nat) : Nat := (s.stationPos? i).getD 0

/-- The line is referenced at stop k (01 R9): p and the corrections are set, a window that a car leaves by that
is judged (01 R16), the watches are set afresh and overtravel is judged. -/
def referenceAt (k : Nat) (s : State) : State :=
  let xk := s.stationPos k
  let xo := s.stationPos (s.stations - 1 - k)
  let corr : Two Int := ⟨0, (xo : Int) - ((s.length : Int) - xk)⟩
  let s0 := if corr = s.lgp.corr then s else mark (.car .b) (mark (.car .a) s)
  let s1 := s0.modLgp fun g => { g with
    p := (xk : Int) * s.driveCpm, corr := corr, position := .referenced, freshNeeded := false }
  judgeOvertravels (freshWatches (leaveWindow .b (leaveWindow .a s1)))

/-- The cars whose position lies beyond the correction limit of their stations of stop k (01 R10). -/
def State.disagreeing (s : State) (k : Nat) : List Car :=
  [Car.a, Car.b].filter (fun c => !(s.carNear c (k) s.lgp.corrLimit))

/-- Referencing is evaluated (01 R9, R10). -/
def evaluateReferencing (s : State) : State :=
  if s.standstill then
    match s.completePair with
    | none => s
    | some k =>
      match s.lgp.position with
      | .unknown => referenceAt k s
      | .referenced =>
        match s.disagreeing k with
        | [] => referenceAt k s
        | cs => doubt cs s
      | .doubtful => if s.lgp.freshNeeded then s else referenceAt k s
  else s

/-- Both presence fields are formed again from the inputs (01 R4). A new complete pair is the event that a
DOUBTFUL line needs (01 R9, log 12). -/
def formPresences (s : State) : State :=
  let a := s.formPresence .a
  let b := s.formPresence .b
  s.modLgp fun g => { g with
    presence := ⟨a, b⟩
    freshNeeded := g.freshNeeded && decide (g.presence = ⟨a, b⟩) }

/-! ### Markers (01 section 1.5) -/

/-- A marker record passes the checks of its own values (01 R12). -/
def markerOk (r : LineRec) (m : MarkerRec) : Bool :=
  within 0 r.length m.position && within 100 5000 m.window &&
    (if m.track = 0 then decide (m.position < r.loopStart)
     else if m.track = 1 ∨ m.track = 2 then within r.loopStart r.loopEnd m.position
     else decide (m.track = 3) && decide (r.loopEnd < m.position))

/-- Positions are strictly ascending. -/
def ascending : List Nat → Bool
  | [] => true
  | [_] => true
  | x :: y :: ys => decide (x < y) && ascending (y :: ys)

/-- No two consecutive windows of a list of markers meet (01 R12). -/
def windowsApart : List MarkerRec → Bool
  | [] => true
  | [_] => true
  | m :: n :: ms => decide (m.position + m.window + n.window < n.position) && windowsApart (n :: ms)

/-- MARKERS_SET at its owner (01 R12). -/
def setMarkers (limit : Nat) (markers : List MarkerRec) (s : State) : Answer :=
  match s.lgp.line with
  | none => .error .notConfigured
  | some r =>
    let lim := if limit = 0 then 500 else limit
    if markers.length ≤ 24 ∧ within 100 2000 lim = true ∧ markers.all (markerOk r) = true ∧
        ascending (markers.map MarkerRec.position) = true ∧
        windowsApart (markers.filter (fun m => m.visible .a)) = true ∧
        windowsApart (markers.filter (fun m => m.visible .b)) = true then
      done (freshWatches (s.modLgp fun g => { g with
        markers := markers, corrLimit := lim, lastMarker := ⟨none, none⟩ }))
    else .error .bounds

/-- The car to which a pulse on a marker belongs, none when it cannot be attributed (01 R14). -/
def State.attributed (s : State) (m : MarkerRec) : Option Car :=
  if m.track = 1 then some .a
  else if m.track = 2 then some .b
  else match m.holds (s.carPos .a), m.holds (s.carPos .b) with
    | true, false => some .a
    | false, true => some .b
    | true, true => none
    | false, false => none

/-- The car that stands nearer to a marker, car A when both are equally near (01 R14). -/
def State.nearer (s : State) (m : MarkerRec) : Car :=
  if (s.carPos .a - m.position).natAbs ≤ (s.carPos .b - m.position).natAbs then .a else .b

/-- The entry side of a watch that a capture of marker j sets: that of a watch that names j already, else
the side on which the car stood (01 R15, log 13). -/
def State.captureSide (s : State) (c : Car) (j : Nat) (m : MarkerRec) : Bool :=
  match s.lgp.watch.car c with
  | some w => if w.marker = j then w.fromBelow else decide (s.carPos c < m.position)
  | none => if s.carPos c = m.position then decide (c = .a) else decide (s.carPos c < m.position)

/-- A correction increased by an error (01 R15); a free value where the sum leaves the range of a correction
(01 R7, log 21). -/
def corrected (c e : Int) : Int :=
  if -6000000 ≤ c + e ∧ c + e ≤ 6000000 then c + e
  else ((Config.correctionBeyond c e).val : Int) - 6000000

/-- A pulse on marker j applied to car c (01 R15). The move of the position is a change of it, so a window
of another marker that it leaves is judged (01 R16) before the watch is set to j. The model's choice: the error
is taken from the position in whole millimetres, as 01 R6 compares it, so the rest below a millimetre stays in
the position (log 36). -/
def capture (j : Nat) (m : MarkerRec) (c : Car) (s : State) : State :=
  let e : Int := (m.position : Int) - s.carPos c
  if e.natAbs ≤ s.lgp.corrLimit then
    let w : Watch := { marker := j, fromBelow := s.captureSide c j m, captured := true }
    let s1 := mark (.car c) (s.modLgp fun g => { g with
      corr := g.corr.setCar c (corrected (g.corr.car c) e), lastMarker := g.lastMarker.setCar c (some j) })
    judgeOvertravel c (setWatch c (some w) (leaveWindow c s1))
  else doubt [c] s

/-- A pulse on marker input j (01 R13 to R15). -/
def pulse (j : Nat) (s : State) : State :=
  match s.marker? j with
  | none => s
  | some m =>
    if s.lgp.position = .referenced then
      match s.attributed m with
      | some c => capture j m c s
      | none => doubt [s.nearer m] s
    else s

/-! ### Edges (01 R6) -/

/-- The rope position moved by one count, if a line record is loaded (01 R6). -/
def countEdge (d : Dir) (s : State) : State :=
  match s.lgp.line with
  | some _ => s.modLgp fun g => { g with p := g.p + d.sign * 1000 }
  | none => s

/-- What LGP judges when the positions of the cars have changed from xA and xB (01 R16, R17). The model's
choice: both watches are judged before overtravel, so of an edge that meets both MARKER_MISSED is raised first
(log 45). -/
def followCars (xA xB : Int) (s : State) : State :=
  judgeOvertravels (followWatch .b xB (followWatch .a xA s))

/-! ### Line restart (01 section 1.7) -/

/-- The part of LGP in a line restart before referencing (01 R18): the presence fields and watches are
formed afresh, and overtravel is judged at once, so that a car still in overtravel is raised again. -/
def restartPosition (s : State) : State :=
  judgeOvertravels ((freshWatches (formPresences s)).modLgp fun g => { g with overtravel := ⟨none, none⟩ })

end Sys2Proof.Machine
end

