-- ==== Sys2Proof/Machine/Speed.lean ====
section
/-!
DEFINITION. The speed and tension unit (chapter 2): edges and quiet events of the speed channels, the
encoder cross-check, conversions and faults of the tension channels, TENSION_SET and standby sampling.
-/

namespace Sys2Proof.Machine

/-! ### Speed channels -/

/-- The newest nine of a list of edge times, oldest first (02 R20). -/
def newestNine (l : List Nat) : List Nat := l.drop (l.length - 9)

/-- A channel after an edge of a sense at a time; before a line record is loaded no history is kept
(02 R20). -/
def SpeedChannel.edge (loaded : Bool) (d : Dir) (now : Nat) (c : SpeedChannel) : SpeedChannel :=
  let base : SpeedChannel := { c with lastEdge := some now, quiet := false, quietDue := some (now + 500000) }
  if loaded then
    if c.sense = some d then { base with history := newestNine (c.history ++ [now]) }
    else { base with history := [now], sense := some d }
  else base

/-- A channel after its quiet event (02 R22). -/
def SpeedChannel.silence (c : SpeedChannel) : SpeedChannel :=
  { c with history := [], sense := none, quiet := true, quietDue := none }

/-- The speed channel of an encoder changed by f. -/
def modSpeed (e : Encoder) (f : SpeedChannel → SpeedChannel) (s : State) : State :=
  s.modStu fun u => { u with speed := u.speed.setEncoder e (f (u.speed.encoder e)) }

/-- An edge is taken by STU (02 R20). -/
def speedEdge (e : Encoder) (d : Dir) (s : State) : State :=
  modSpeed e (SpeedChannel.edge s.lgp.line.isSome d s.now) s

/-- The cross-check of the encoders on the estimates as they stand: both tests are noted, and the direction
test raises as it begins to hold (02 R25, R26). -/
def judgeEncoders (s : State) : State :=
  if s.directionTest && !s.stu.directionHolds then raise ⟨.encoderDisagree, 0⟩ (noteEncoders s)
  else noteEncoders s

/-- The disagreement interval expires, unless the test ceased to hold before (02 R25). -/
def disagreementExpires (s : State) : State :=
  if s.stu.disagreeDue.any (fun t => decide (t ≤ s.now)) then
    raise ⟨.encoderDisagree, 0⟩ (s.modStu fun u => { u with disagreeDue := none })
  else s

/-- The part of the speed channels in a line restart: both tests are made again at once (02 R27). -/
def restartSpeed (s : State) : State :=
  judgeEncoders (s.modStu fun u => { u with
    magnitudeHolds := false, directionHolds := false, disagreeDue := none })

/-- The speed channels after an accepted LINE_SET (02 R27). -/
def emptyHistories (s : State) : State :=
  s.modStu fun u => { u with
    speed := ⟨{ u.speed.fst with history := [], sense := none },
              { u.speed.snd with history := [], sense := none }⟩,
    magnitudeHolds := false, disagreeDue := none }

/-! ### Tension channels -/

/-- The tension channel c changed by f. -/
def modTension (c : Chan) (f : TensionChannel → TensionChannel) (s : State) : State :=
  s.modStu fun u => { u with tension := u.tension.setChan c (f (u.tension.chan c)) }

/-- A channel restarted by a settings change or an entry to or exit from OFF (02 R28, R30, R31, R35). -/
def TensionChannel.restarted (mode : LineMode) (now : Nat) (ch : TensionChannel) : TensionChannel :=
  { ch with
    window := [], average := none, outside := 0,
    state := match ch.state with
      | .silent => .silent
      | .recovering => .recovering
      | .filling => .filling
      | .valid => .filling,
    missingDue := if ch.state = .silent then none else some (now + missingInterval (rateInForce mode ch)) }

/-- Both channels restarted. -/
def restartTension (s : State) : State :=
  s.modStu fun u => { u with tension :=
    ⟨u.tension.fst.restarted s.mau.mode s.now, u.tension.snd.restarted s.mau.mode s.now⟩ }

/-- The standby flags are cleared, at the entry to OFF (02 R35). -/
def clearStandby (s : State) : State :=
  s.modStu fun u => { u with
    tension := ⟨{ u.tension.fst with standbyFlag := false }, { u.tension.snd with standbyFlag := false }⟩ }

/-- A channel after a good reading: the window and the average (02 R29, R30). -/
def TensionChannel.good (raw : Nat) (due : Nat) (ch : TensionChannel) : TensionChannel :=
  let r := ch.reading raw
  let w := (ch.window ++ [r]).drop (ch.window.length + 1 - ch.size)
  let full := decide (ch.size ≤ w.length)
  { ch with
    window := w, latest := some (raw, r), missingDue := some due,
    average := if full then some (roundDiv w.sum ch.size) else none,
    state := if full then .valid
      else match ch.state with
        | .filling => .filling
        | .valid => .valid
        | .silent => .recovering
        | .recovering => .recovering }

/-- A channel after a channel fault event that leaves it in state x (02 R32). -/
def TensionChannel.faulted (x : TensionState) (ch : TensionChannel) : TensionChannel :=
  { ch with window := [], average := none, outside := 0, state := x }

/-- A valid average outside OFF is judged against the limits (02 R33). -/
def judgeLimits (c : Chan) (avg : Int) (s : State) : State :=
  let ch := s.stu.tension.chan c
  match ch.limits with
  | none => s
  | some l =>
    if withinKg l.min l.max avg then
      let s1 := modTension c (fun x => { x with outside := 0, limitCondition := false }) s
      if ch.limitCondition then endCondition ⟨.ropeTensionLimit, c.index⟩ s1 else s1
    else
      let n := min 2 (ch.outside + 1)
      let begins := decide (n = 2) && !ch.limitCondition
      let s1 := modTension c
        (fun x => { x with outside := n, limitCondition := x.limitCondition || begins }) s
      if begins then raise ⟨.ropeTensionLimit, c.index⟩ s1 else s1

/-- A valid average in OFF is judged against the standby limits (02 R35). -/
def judgeStandby (c : Chan) (avg : Int) (s : State) : State :=
  let ch := s.stu.tension.chan c
  match ch.limits with
  | none => s
  | some l =>
    let beyond := !(withinKg l.standbyMin l.standbyMax avg)
    let s1 := modTension c (fun x => { x with standbyFlag := beyond }) s
    if beyond && !ch.standbyFlag then wake .tension s1 else s1

/-- A tension channel completes a conversion (02 R29 to R32). -/
def convert (c : Chan) (raw : Nat) (s : State) : State :=
  let ch := s.stu.tension.chan c
  let due := s.now + missingInterval (rateInForce s.mau.mode ch)
  if raw = 0 ∨ raw = 65535 then
    raise ⟨.tensionChannelFault, c.index⟩ (modTension c (fun x =>
      TensionChannel.faulted .recovering
        { x with latest := some (raw, x.reading raw), missingDue := some due }) s)
  else
    let s1 := modTension c (TensionChannel.good raw due) s
    match (s1.stu.tension.chan c).average with
    | none => s1
    | some avg =>
      let s2 := endCondition ⟨.tensionChannelFault, c.index⟩ s1
      if s.mau.mode = .off then judgeStandby c avg s2 else judgeLimits c avg s2

/-- The missing-conversion interval of a channel expires (02 R31, R32). -/
def conversionMissing (c : Chan) (s : State) : State :=
  raise ⟨.tensionChannelFault, c.index⟩ (modTension c (fun x =>
    TensionChannel.faulted .silent { x with missingDue := none }) s)

/-- The settings of one channel pass the BOUNDS checks (02 R28). -/
def tensionOk (t : TensionSettings) : Bool :=
  let kg : Int → Bool := fun x => decide (-1000000 ≤ x) && decide (x ≤ 1000000)
  decide (t.range ≤ 1)
    && (decide (t.rate = 5) || decide (t.rate = 10) || decide (t.rate = 25) || decide (t.rate = 50))
    && within 1 16 t.window && within 1 1000000 t.gain && kg t.offset
    && kg t.min && kg t.max && decide (t.min < t.max)
    && kg t.standbyMin && kg t.standbyMax && decide (t.standbyMin < t.standbyMax)

/-- A channel with new settings (02 R28). -/
def TensionChannel.configured (t : TensionSettings) (ch : TensionChannel) : TensionChannel :=
  { ch with
    range := t.range, rate := t.rate, size := t.window, gain := t.gain, offset := t.offset,
    limits := some { min := t.min, max := t.max, standbyMin := t.standbyMin, standbyMax := t.standbyMax } }

/-- TENSION_SET at its owner (02 R28). -/
def setTension (one two : TensionSettings) (s : State) : Answer :=
  if tensionOk one && tensionOk two then
    done ((restartTension (modTension .two (TensionChannel.configured two)
      (modTension .one (TensionChannel.configured one) s))).modMau
      fun m => { m with config := { m.config with tension := true } })
  else .error .bounds

/-- The faults of present tension conditions are raised again at a line restart (02 R36). -/
def restartTensionFaults (s : State) : State :=
  let again : Chan → State → State := fun c t =>
    let ch := t.stu.tension.chan c
    let t1 := if ch.state = .silent ∨ ch.state = .recovering then
      raise ⟨.tensionChannelFault, c.index⟩ t else t
    if ch.limitCondition then raise ⟨.ropeTensionLimit, c.index⟩ t1 else t1
  again .two (again .one s)

end Sys2Proof.Machine
end

