-- ==== Sys2Proof/Machine/Haul.lean ====
section
/-!
DEFINITION. The haul controller (chapter 3): profile classes and amendments, class selection, dispatch,
hold and resume, commit, approach and arrival, the AUTOMATIC cycle, the drive command, car line events.
-/

namespace Sys2Proof.Machine

/-! ### Profile classes and amendments (03 sections 3.1, 3.2) -/

/-- A segment of a request passes the checks of its own values (03 R37). -/
def segmentOk (lineMax : Nat) (g : SegmentRec) : Bool :=
  within 300 lineMax g.ceiling && within 50 2000 g.accel && within 50 2000 g.decel

/-- A segment as a class holds it. -/
def SegmentRec.load (g : SegmentRec) : Segment :=
  { start := g.start, ceiling := g.ceiling, accel := g.accel, decel := g.decel, falling := none }

/-- Every ceiling of a loaded class is at most the line max speed (03 R37). -/
def classWithin (lineMax : Nat) (c : Option (List Segment)) : Bool :=
  match c with
  | none => true
  | some segs => segs.all (fun g => decide (g.ceiling ≤ lineMax))

/-- The BOUNDS checks of PROFILE_SET, with the inspection speed that 0 selects (03 R37). -/
def profileOk (length : Nat) (classes : List (Option (List Segment))) (insp : Nat) (p : ProfileBody) :
    Bool :=
  within 1 4 p.cls && within 1 8 p.segments.length && within 300 12000 p.lineMax
    && within 200 1500 insp && decide (insp ≤ p.lineMax)
    && decide ((p.segments.map SegmentRec.start).head? = some 0)
    && ascending (p.segments.map SegmentRec.start)
    && p.segments.all (fun g => decide (g.start < length))
    && p.segments.all (segmentOk p.lineMax)
    && (updateAt (p.cls - 1) (fun _ => none) classes).all (classWithin p.lineMax)

/-- PROFILE_SET at its owner (03 R37). -/
def setProfile (p : ProfileBody) (s : State) : Answer :=
  match s.lgp.line with
  | none => .error .notConfigured
  | some r =>
    let insp := if p.inspection = 0 then 1000 else p.inspection
    if profileOk r.length s.hc.classes insp p then
      let s1 := s.modHc fun h => { h with
        classes := updateAt (p.cls - 1) (fun _ => some (p.segments.map SegmentRec.load)) h.classes,
        amendments := updateAt (p.cls - 1) (fun _ => none) h.amendments,
        lineMax := some p.lineMax, inspection := some insp }
      done (s1.modMau fun m => { m with config := { m.config with
        profiles := updateAt (p.cls - 1) (fun _ => true) m.config.profiles } })
    else .error .bounds

/-- A segment with the values of an amendment. At a boundary crossing a lowered ceiling falls from the
effective ceiling of the moment (03 R40). -/
def Segment.amended (crossing : Bool) (a : Amendment) (g : Segment) : Segment :=
  { g with
    ceiling := a.ceiling, accel := a.accel, decel := a.decel,
    falling := if crossing && decide (a.ceiling * 1000000 < g.effective) then some g.effective else none }

/-- An amendment written into class n; the pending amendment of the class is removed (03 R40). -/
def writeAmendment (n : Nat) (crossing : Bool) (a : Amendment) (s : State) : State :=
  s.modHc fun h => { h with
    classes := updateAt (n - 1) (fun c => c.map (updateAt a.segment (Segment.amended crossing a))) h.classes,
    amendments := updateAt (n - 1) (fun _ => none) h.amendments }

/-- The pending amendment of class n is applied, if there is one (03 R40). -/
def applyPending (n : Nat) (crossing : Bool) (s : State) : State :=
  match (s.hc.amendments[n - 1]?).join with
  | some a => writeAmendment n crossing a s
  | none => s

/-- Class n has ceased to be in use since the state `before` by the end of its trip (03 R40). A line restart
makes the trip record NONE and keeps the pending amendments (03 R63, log 37). -/
def State.ceased (before s : State) (n : Nat) : Bool :=
  before.classInUse n && !s.classInUse n && decide (s.hc.trip.state ≠ .none)

/-- The pending amendment of a class that has ceased to be in use is applied (03 R40). -/
def applyIdle (before : State) (n : Nat) (s : State) : State :=
  if before.ceased s n then applyPending n false s else s

/-- The pending amendments of the classes that have ceased to be in use are applied (03 R40). -/
def applyIdleAll (before s : State) : State := forEach (applyIdle before) [1, 2, 3, 4] s

/-- Car A's position moved across the start of a segment of class n (03 R40). -/
def State.crossed (s : State) (n : Nat) (xOld : Int) : Bool :=
  match s.class? n with
  | some segs => segs.any (fun g => decide ((g.start : Int) ≤ xOld) != decide ((g.start : Int) ≤ s.carPos .a))
  | none => false

/-- A boundary crossing applies the pending amendment of the class in use (03 R40). -/
def judgeCrossing (xOld : Int) (s : State) : State :=
  let n := s.kind.classNumber
  if s.classInUse n && s.crossed n xOld then applyPending n true s else s

/-- AMEND at its owner (03 R39). -/
def amendClass (cls segment ceiling accel decel : Nat) (s : State) : Answer :=
  if cls = 0 then .error .notFound
  else match s.class? cls with
  | none => .error .notFound
  | some segs =>
    if segs.length ≤ segment then .error .notFound
    else if within 300 (s.hc.lineMax.getD 0) ceiling && within 50 2000 accel && within 50 2000 decel then
      let a : Amendment := { segment := segment, ceiling := ceiling, accel := accel, decel := decel }
      if s.classInUse cls then
        .ok (s.modHc fun h => { h with amendments := updateAt (cls - 1) (fun _ => some a) h.amendments },
          .amended true)
      else .ok (writeAmendment cls false a s, .amended false)
    else .error .bounds

/-! ### Weather and forced stops -/

/-- The weather state of a number (03 R41). -/
def weather? : Nat → Option Weather
  | 0 => some .dry
  | 1 => some .wet
  | 2 => some .ice
  | _ => none

/-- WEATHER_SET at its owner (03 R41, log 16). -/
def setWeather (w : Nat) (s : State) : Answer :=
  match weather? w with
  | some x => done (s.modHc fun h => { h with weather := x })
  | none => .error .bounds

/-- FORCE_STOP SET and CLEAR at their owner (03 R48). -/
def forceStop (stop : Nat) (set : Bool) (s : State) : Answer :=
  if stop < 1 ∨ s.stations < stop + 2 then .error .bounds
  else done (s.modHc fun h => { h with
    forced := if set then insertSet stop h.forced else without stop h.forced })

/-! ### Class selection (03 R41) -/

/-- The class that the weather gives (03 R41). -/
def Weather.number : Weather → Nat
  | .dry => 1
  | .wet => 2
  | .ice => 3

/-- The imbalance class of a load difference as a mass; 4 before thresholds are configured (03 R41,
log 26). -/
def imbalanceClass (t : Option (Nat × Nat × Nat)) (mass : Nat) : Nat :=
  match t with
  | none => 4
  | some (i1, i2, i3) => if mass ≤ i1 then 1 else if mass ≤ i2 then 2 else if mass ≤ i3 then 3 else 4

/-- The class of a trip opened or resumed now in AUTOMATIC or ATTENDED (03 R41). -/
def State.selectClass (s : State) : Nat :=
  match s.gqu.loads.fst, s.gqu.loads.snd with
  | some a, some b =>
    if s.ft.present ⟨.loadDisagree, 0⟩ then 4
    else
      let d := ((a + s.batchSize .a : Nat) : Int) - (b + s.batchSize .b : Nat)
      max s.hc.weather.number (imbalanceClass s.hc.thresholds (d.natAbs * s.gqu.mass))
  | _, _ => 4

/-- The class or kind of a trip opened now (03 R38, R41). -/
def State.tripKind (s : State) : TripKind :=
  match s.mau.mode with
  | .inspection => .inspection
  | .recovery => .recovery
  | _ => .cls s.selectClass

/-! ### Dispatch (03 section 3.7) -/

/-- The direction that brings a car in overtravel back (03 R50). -/
def backFrom (c : Car) (d : Side) : Dir :=
  match c, d with
  | .a, .below => .up
  | .a, .above => .down
  | .b, .above => .up
  | .b, .below => .down

/-- A trip direction brings back every car in overtravel (03 R50). -/
def State.bringsBack (s : State) (d : Dir) : Bool :=
  [Car.a, Car.b].all (fun c => match s.lgp.overtravel.car c with
    | some side => decide (backFrom c side = d)
    | none => true)

/-- The direction of a number, if it names one. -/
def dir? : Nat → Option Dir
  | 0 => some .up
  | 1 => some .down
  | _ => none

/-- The target check of a dispatch (03 R50). The target 255 is NEAREST, whose direction must be named
(log 16). -/
def State.targetOk (s : State) (target direction : Nat) : Bool :=
  if target = 255 then !s.mau.mode.inService && (dir? direction).isSome
  else decide (target < s.stations) && decide (s.mau.mode ≠ .recovery)
    && !(decide (s.mau.mode = .inspection) && decide (s.lgp.position ≠ .referenced))

/-- The target and trip direction of a dispatch whose target check passed, if the direction check passes
(03 R50). -/
def State.route (s : State) (target direction : Nat) : Option (Option Nat × Dir) :=
  let r : Option (Option Nat × Dir) :=
    if target = 255 then
      match dir? direction with
      | none => none
      | some d =>
        if s.lgp.position = .referenced then (s.nearestStop d).map (fun k => (some k, d))
        else some (none, d)
    else if s.mau.mode.inService then
      match s.stop, s.hc.heading with
      | some k, .up => if k < target then some (some target, .up) else none
      | some k, .down => if target < k then some (some target, .down) else none
      | none, _ => none
    else
      let gap : Int := (s.stationPos target : Int) - s.carPos .a
      if gap.natAbs ≤ s.stopWindow then none
      else some (some target, if 0 < gap then .up else .down)
  r.filter (fun x => s.bringsBack x.2)

/-- The door, fault, tension and brake test checks of a dispatch or resume (03 R50, R60). -/
def State.departureChecks (s : State) : Option RefusalCode :=
  if s.allLocked = false then some .state
  else if s.ft.blocksDispatch s.mau.mode then some .blockedByFault
  else if s.stu.tension.fst.average.isNone ∨ s.stu.tension.snd.average.isNone then some .state
  else if s.mau.mode.inService ∧ (s.recordValid .holding && s.recordValid .emergency) = false then
    some .brakeTestDue
  else none

/-- The checks of a dispatch in their order; when all pass, the target and the direction (03 R50). -/
def State.checkDispatch (s : State) (target direction : Nat) : Except RefusalCode (Option Nat × Dir) :=
  if ¬(s.hc.haul = .parked ∧ s.standstill = true ∧ s.bl.driveReady = true) then .error .state
  else if s.mau.mode.inService ∧ s.lgp.position ≠ .referenced then .error .state
  else if s.mau.mode.inService ∧ s.stop = none then .error .offStop
  else if s.targetOk target direction = false then .error .bounds
  else match s.route target direction with
  | none => .error .direction
  | some r =>
    match s.departureChecks with
    | some c => .error c
    | none => .ok r

/-- The trip number after n (03 R45). -/
def nextTrip (n : Nat) : Nat := (n + 1) % 65536

/-- WARNING is entered and the warning interval started; the automatic cycle becomes NONE (03 R51,
R61). -/
def enterWarning (s : State) : State :=
  s.modHc fun h => { h with
    haul := .warning, warnDue := some (s.now + h.warningMs * 1000), drive := .noTorque, cycle := .none,
    waiting := none, arrivalDue := false }

/-- A trip is opened (03 R45, R51): the class is selected, the record made, and WARNING entered. -/
def openTrip (target : Option Nat) (d : Dir) (s : State) : State :=
  let kind := s.tripKind
  let s1 := if s.hc.trip.state = .suspended ∧ s.hc.trip.committed = false then dissolveBoth s else s
  let n := nextTrip s.hc.tripCounter
  let r : TripRec :=
    { number := n, origin := s.stop, target := target, dir := d, kind := kind, committed := false,
      batches := none, reapproach := false, startTime := s.tt.clock, topSpeed := 0 }
  enterWarning (s1.modHc fun h => { h with
    tripCounter := n, trip := { state := .active, rec? := some r, cause := none },
    unreferencedTrip := decide (s.lgp.position ≠ .referenced) })

/-- DISPATCH at its owner (03 R50, R51). -/
def dispatchTrip (target direction : Nat) (s : State) : Answer :=
  match s.checkDispatch target direction with
  | .error c => .error c
  | .ok (t, d) => .ok (openTrip t d s, .tripNumber (nextTrip s.hc.tripCounter))

/-- The automatic target of a dispatch from the stop of the haul; 255 where there is none (03 R49). -/
def State.attemptTarget (s : State) : Nat :=
  match s.stop with
  | some k => (s.autoTarget k).getD 255
  | none => 255

/-- An automatic dispatch attempt (03 R61). None is made while the trip record is SUSPENDED. -/
def attempt (s : State) : State :=
  if s.hc.trip.state = .suspended then s
  else match s.checkDispatch s.attemptTarget 0 with
  | .error c => s.modHc fun h => { h with waiting := some c }
  | .ok (t, d) => openTrip t d s

/-! ### HOLD and RESUME (03 section 3.10) -/

/-- HOLD at its owner (03 R59). -/
def holdTrip (s : State) : Answer :=
  match s.hc.haul with
  | .warning => done (abandonDeparture .hold s)
  | .releasing => done (abandonDeparture .hold s)
  | .running => done (enterStopping 1 .hold s)
  | .approach => done (enterStopping 1 .hold s)
  | .stopping => done s
  | .parked => .error .state
  | .tripped => .error .state
  | .brakeTest => .error .state

/-- The checks of a RESUME that continues a SUSPENDED trip (03 R60). -/
def State.checkResume (s : State) : Option RefusalCode :=
  if ¬(s.hc.haul = .parked ∧ s.standstill = true ∧ s.bl.driveReady = true) then some .state
  else if s.hc.trip.state ≠ .suspended then some .state
  else if s.lgp.position ≠ .referenced then some .state
  else match s.hc.trip.rec? with
  | none => some .state
  | some t =>
    match s.targetDistance t with
    | none => some .direction
    | some d => if d ≤ (s.stopWindow : Int) then some .direction else s.departureChecks

/-- The trip record made ACTIVE again with the class selected anew (03 R60). -/
def Trip.resumed (kind : TripKind) (t : Trip) : Trip :=
  { state := .active, rec? := t.rec?.map (fun r => { r with kind := kind }), cause := none }

/-- The number of the trip record, if one was opened. -/
def Trip.number (t : Trip) : Option Nat := t.rec?.map (fun r => r.number)

/-- RESUME at its owner (03 R60). -/
def resumeTrip (s : State) : Answer :=
  if s.mau.mode = .automatic ∧ s.hc.cycle = .held ∧ s.parkedStop.isSome = true then
    let s1 := attempt (s.modHc fun h => { h with cycle := .ready })
    .ok (s1, .resumeNumber (if s1.hc.haul = .warning then s1.hc.trip.number else none))
  else match s.checkResume with
  | some c => .error c
  | none =>
    .ok (enterWarning (s.modHc fun h => { h with trip := h.trip.resumed s.tripKind }),
      .resumeNumber s.hc.trip.number)

/-! ### Departure (03 section 3.8) -/

/-- The departure warning interval expires: RELEASING is entered and the releases asked (03 R51, R53). -/
def warningExpires (s : State) : State :=
  releaseBrake .emergency (releaseBrake .holding (s.modHc fun h => { h with
    haul := .releasing, warnDue := none, drive := .holding }))

/-- The target of the trip record lies at most 3,000 mm ahead (03 R53, R55). -/
def State.nearTarget (s : State) : Bool :=
  match s.hc.trip.rec? with
  | some t => match s.targetDistance t with
    | some d => decide (d ≤ 3000)
    | none => false
  | none => false

/-- RUNNING is entered, or APPROACH where the target is that near (03 R53). -/
def enterRunning (s : State) : State :=
  s.modHc fun h => { h with
    haul := if s.nearTarget then .approach else .running, commitRef := s.lgp.p, ramp := 0 }

/-- A trip in RUNNING enters APPROACH when its target comes within 3,000 mm (03 R55). -/
def judgeApproach (s : State) : State :=
  if s.hc.haul = .running ∧ s.nearTarget = true then setHaul .approach s else s

/-- The haul moves with a trip: RUNNING, APPROACH or STOPPING (03 R54). -/
def HaulState.moving : HaulState → Bool
  | .running => true
  | .approach => true
  | .stopping => true
  | _ => false

/-- The departure commit (03 R54): the committed flag, the forced subset, both batches and their sizes. -/
def commitTrip (t : TripRec) (s : State) : State :=
  let sizes : Two Nat := ⟨s.batchSize .a, s.batchSize .b⟩
  let s1 := commitBatch .b (commitBatch .a s)
  s1.modHc fun h => { h with
    trip := { h.trip with rec? := some { t with committed := true, batches := some sizes } },
    forced := match t.target with
      | some k => without k h.forced
      | none => h.forced }

/-- The commit is judged (03 R54): |p − commit reference| reaches 500 mm in an uncommitted ACTIVE trip. -/
def judgeCommit (s : State) : State :=
  match s.hc.trip.rec? with
  | none => s
  | some t =>
    if s.hc.haul.moving = true ∧ s.hc.trip.state = .active ∧ t.committed = false ∧
        500 * s.driveCpm ≤ (s.lgp.p - s.hc.commitRef).natAbs then commitTrip t s
    else s

/-- An unreferenced trip in RUNNING sees a presence pair completed for stop k (03 R58); `before` is the
pair complete until now. -/
def judgePairSeen (before : Option Nat) (s : State) : State :=
  match s.hc.trip.rec?, s.completePair with
  | some t, some k =>
    if s.hc.haul = .running ∧ s.hc.unreferencedTrip = true ∧ t.target = none ∧ before ≠ some k then
      s.modHc fun h => { h with
        haul := .approach, trip := { h.trip with rec? := some { t with target := some k } } }
    else s
  | _, _ => s

/-! ### The heading (03 R46) -/

/-- The heading points away from stop k if it is a terminal stop (03 R46). -/
def headFrom (k : Nat) (s : State) : State :=
  if k = 0 then s.modHc fun h => { h with heading := .up }
  else if k + 1 = s.stations then s.modHc fun h => { h with heading := .down }
  else s

/-- The heading points away from a terminal stop at which the haul is PARKED (03 R46). -/
def followHeading (s : State) : State :=
  match s.parkedStop with
  | none => s
  | some k => headFrom k s

/-! ### Arrival (03 section 3.9) -/

/-- The haul enters PARKED with the holding brake asked for and the drive holding until its proof
(03 R56). -/
def park (s : State) : State :=
  applyBrake .holding (s.modHc fun h => { h with haul := .parked, drive := .holding })

/-- Arrival at stop k (03 R56). The heading is set here, before the referencing of the same standstill may trip
the haul. -/
def arrive (k : Nat) (s : State) : State :=
  let served : Car → CarLine → CarLine := fun c l =>
    { l with requests := without (s.stationOf c k) l.requests }
  headFrom k <| (park s).modHc fun h => { h with
    trip := { h.trip with state := .completed, cause := some .arrival },
    carLine := ⟨served .a h.carLine.fst, served .b h.carLine.snd⟩,
    arrivalDue := decide (s.mau.mode = .automatic) }

/-- Car c fails its window or its presence report for stop k (03 R57). -/
def State.failsAt (s : State) (c : Car) (k : Nat) : Bool :=
  !(s.carNear c k s.stopWindow) || decide (s.lgp.presence.car c ≠ some (s.stationOf c k))

/-- A miss that ends the trip with end cause OVERRUN, at whatever stop the window test gives (03 R46, R57,
R58). -/
def overrun (s : State) : State := parkedCycle false (abandonTrip .overrun (followHeading (park s)))

/-- A miss at target k (03 R57). -/
def missStop (t : TripRec) (k : Nat) (s : State) : State :=
  let d := (s.targetDistance t).getD 0
  if (s.stopWindow : Int) < d ∧ d ≤ (s.stopWindow : Int) + 1000 ∧ t.reapproach = false then
    s.modHc fun h => { h with
      ramp := 0, trip := { h.trip with rec? := some { t with reapproach := true } } }
  else raise ⟨.stopOverrun, if s.failsAt .a k then 0 else 1⟩ (overrun s)

/-- The judgement at the beginning of standstill in APPROACH (03 R56 to R58). -/
def judgeArrival (s : State) : State :=
  match s.hc.trip.rec? with
  | none => s
  | some t =>
    match t.target with
    | none => s
    | some k =>
      if s.hc.unreferencedTrip then (if s.pairComplete k then arrive k s else overrun s)
      else if s.windowStop = some k ∧ s.pairComplete k = true then arrive k s
      else missStop t k s

/-- The end of a service stop at the beginning of standstill (04 R77), which may set the heading (03 R46). -/
def endStop (s : State) : State :=
  match s.bl.stop with
  | none => s
  | some r =>
    let s1 := if r.stage = 1 then park s else setHaul .parked s
    let s2 := followHeading (s1.modBl fun l => { l with stop := none })
    parkedCycle false (match r.cause with
      | .hold => s2.modHc fun h => { h with trip := { h.trip with state := .suspended, cause := some .hold } }
      | .fault c => abandonTrip (.fault c) s2)

/-- What the haul controller and the brake ladder do at the beginning of standstill (03 R56, 04 R77). -/
def haulAtStandstill (s : State) : State :=
  match s.hc.haul with
  | .approach => judgeArrival s
  | .stopping => endStop s
  | _ => s

/-! ### The drive command (03 R43, 04 R73) -/

/-- The drive is commanded as the haul state says (03 R43, 04 R73); the ramp is held down by the
ceiling. -/
def commandDrive (s : State) : State :=
  match s.hc.haul, s.hc.trip.rec? with
  | .running, some t => s.modHc fun h => { h with ramp := s.heldRamp t, drive := .speed t.dir s.demand }
  | .approach, some t => s.modHc fun h => { h with ramp := s.heldRamp t, drive := .speed t.dir s.demand }
  | .stopping, some t =>
    match s.bl.stop with
    | some r => if r.stage = 1 then command (.speed t.dir s.hc.ramp) s else command .noTorque s
    | none => s
  | .tripped, _ => command .noTorque s
  | .warning, _ => command .noTorque s
  | .releasing, _ => command .holding s
  | .parked, _ => if s.bl.brakes.fst.state = .applied then command .noTorque s else s
  | _, _ => s

/-- The top line speed of an ACTIVE trip follows the line speed (03 R45). Between two edges no line speed grows,
so it is followed at each edge, before anything that the edge may end the trip by, and at the end of an event. -/
def followTopSpeed (s : State) : State :=
  if s.hc.trip.state = .active then
    s.modHc fun h => { h with trip := { h.trip with
      rec? := h.trip.rec?.map (fun r => { r with topSpeed := max r.topSpeed s.lineSpeed }) } }
  else s

/-! ### The AUTOMATIC cycle (03 R61) -/

/-- An arrival in AUTOMATIC whose holding brake is proven begins the cycle (03 R56, R61). -/
def beginCycle (s : State) : State :=
  if s.hc.arrivalDue = true ∧ s.hc.haul = .parked ∧ s.bl.brakes.fst.state = .applied then
    let s1 := s.modHc fun h => { h with arrivalDue := false }
    if s.mau.mode = .automatic then
      (askReleases s1).modHc fun h => { h with cycle := .boarding }
    else s1
  else s

/-- The automatic cycle at the entry to AUTOMATIC, made with the haul PARKED at a stop (03 R61). -/
def enterAutomatic (s : State) : State :=
  (if s.allLocked then askReleases s else s).modHc fun h => { h with cycle := .boarding }

/-- The stage follows the doors: BOARDING to READY when every door set is LOCKED with no release pending,
READY to BOARDING when one is not (03 R61, 06 R107). The model's choice: a RESUME from HELD with a door set not
LOCKED ends in BOARDING with no waiting reason, by the table of stages, and not in READY with STATE (log 41). -/
def followDoors (s : State) : State :=
  match s.hc.cycle with
  | .boarding =>
    if s.allLocked && !s.releasePending then s.modHc fun h => { h with cycle := .ready } else s
  | .ready => if s.allLocked then s else s.modHc fun h => { h with cycle := .boarding }
  | _ => s

/-- A slot of the fault table became ABSENT between two states (10 R171). -/
def slotCleared (before after : FaultTable) : Bool :=
  (List.zip before.slots after.slots).any (fun x => x.1.isSome && x.2.isNone)

/-- Something happened that makes an automatic attempt in READY (03 R61). -/
def attemptDue (before s : State) : Bool :=
  decide (before.hc.cycle ≠ .ready)
    || (decide (before.hc.haul ≠ .parked) && decide (s.hc.haul = .parked))
    || slotCleared before.ft s.ft
    || (before.stu.tension.fst.average.isNone && s.stu.tension.fst.average.isSome)
    || (before.stu.tension.snd.average.isNone && s.stu.tension.snd.average.isSome)
    || (decide (before.lgp.position ≠ .referenced) && decide (s.lgp.position = .referenced))
    || (!before.bl.driveReady && s.bl.driveReady)
    || (!before.standstill && s.standstill)

/-- The automatic attempts of an event, and the waiting reason outside READY (03 R61). -/
def runAttempts (before s : State) : State :=
  let s1 := if s.hc.cycle = .ready ∧ attemptDue before s = true then attempt s else s
  if s1.hc.cycle = .ready then s1 else s1.modHc fun h => { h with waiting := none }

/-- What leaving AUTOMATIC does to the cycle (03 R61). -/
def leaveAutomaticCycle (s : State) : State :=
  s.modHc fun h => { h with cycle := .none, waiting := none, arrivalDue := false }

/-! ### Car line events (03 R62) -/

/-- The car line part of car c changed by f. -/
def modCarLine (c : Car) (f : CarLine → CarLine) (s : State) : State :=
  s.modHc fun h => { h with carLine := h.carLine.setCar c (f (h.carLine.car c)) }

/-- A message arrives on car c's line (03 R62): the silence interval restarts, and a SILENT line becomes
ALIVE, whose door command is sent again (06 R94). -/
def carMessage (c : Car) (s : State) : State :=
  let l := s.hc.carLine.car c
  let s1 := modCarLine c (fun x => { x with alive := true, silenceDue := some (s.now + 2000000) }) s
  if l.alive then s1
  else
    let s2 := endCondition ⟨.carLinkLost, c.index⟩ s1
    if s.dc.sets.isEmpty then s2 else sendDoor c s2

/-- Car c reports its track brake (03 R62). -/
def trackBrakeReport (c : Car) (applied : Bool) (s : State) : State :=
  let s1 := modCarLine c (fun x => { x with brakeApplied := applied }) (carMessage c s)
  match (s.hc.carLine.car c).brakeApplied, applied with
  | false, true => raise ⟨.carBrakeTripped, c.index⟩ s1
  | true, false => endCondition ⟨.carBrakeTripped, c.index⟩ s1
  | _, _ => s1

/-- Car c reports its emergency button (03 R62). Each report PRESSED is a wake event of cause CAR_LINE, also
one that repeats the last (09 R162, log 33). -/
def buttonReport (c : Car) (pressed : Bool) (s : State) : State :=
  let s0 := modCarLine c (fun x => { x with buttonPressed := pressed }) (carMessage c s)
  let s1 := if pressed then wake .carLine s0 else s0
  match (s.hc.carLine.car c).buttonPressed, pressed with
  | false, true => raise ⟨.carEmergencyRequest, c.index⟩ s1
  | true, false => endCondition ⟨.carEmergencyRequest, c.index⟩ s1
  | _, _ => s1

/-- Car c asks to stop at a station: taken for an intermediate station, unless the haul is PARKED with the
car standing there (03 R62). -/
def stopRequest (c : Car) (station : Nat) (s : State) : State :=
  let s1 := carMessage c s
  let here := match s.parkedStop with
    | some k => decide (s.stationOf c k = station)
    | none => false
  if station < 1 ∨ s.stations < station + 2 ∨ here = true then s1
  else modCarLine c (fun x => { x with requests := insertSet station x.requests }) s1

/-- The silence interval of car c's line expires (03 R62). -/
def carSilent (c : Car) (s : State) : State :=
  raise ⟨.carLinkLost, c.index⟩
    (modCarLine c (fun x => { x with alive := false, silenceDue := none }) s)

/-! ### LINE_SET and line restart -/

/-- What an accepted LINE_SET does to HC (01 R3, 03 R37, R63). -/
def discardTrips (s : State) : State :=
  s.modHc fun h => { h with
    classes := List.replicate 4 none, amendments := List.replicate 4 none, lineMax := none,
    inspection := none, forced := [], trip := { state := .none, rec? := none, cause := none },
    carLine := ⟨{ h.carLine.fst with requests := [] }, { h.carLine.snd with requests := [] }⟩ }

/-- The trip record after a line restart (03 R63). -/
def Trip.restarted (t : Trip) : Trip :=
  { t with
    state := .none,
    cause := match t.state with
      | .active => some .restart
      | .suspended => some .restart
      | _ => t.cause }

/-- The part of HC and BL in a line restart that decides the haul state and the trip record (03 R63, 04
R83); the heading of a haul that becomes PARKED is set with it (03 R46). -/
def restartHaul (s : State) : State :=
  let line : CarLine → CarLine := fun l => { l with requests := [], silenceDue := some (s.now + 2000000) }
  let s1 := (s.modHc fun h => { h with
      trip := h.trip.restarted, forced := [], carLine := ⟨line h.carLine.fst, line h.carLine.snd⟩,
      cycle := .none, waiting := none, arrivalDue := false, warnDue := none }).modBl
    fun l => { l with stop := none, stage3 := none }
  if s.standstill = false then emergencyDemand none s1
  else if s.hc.haul = .tripped then s1
  else
    let s2 := match s.hc.drive with
      | .speed _ _ => command .holding s1
      | _ => s1
    followHeading (applyBrake .holding (setHaul .parked s2))

/-- The faults of present car line conditions are raised again at a line restart (03 R63). -/
def restartCarFaults (s : State) : State :=
  let again : Car → State → State := fun c t =>
    let l := t.hc.carLine.car c
    let t1 := if l.brakeApplied then raise ⟨.carBrakeTripped, c.index⟩ t else t
    if l.buttonPressed then raise ⟨.carEmergencyRequest, c.index⟩ t1 else t1
  again .b (again .a s)

end Sys2Proof.Machine
end

