-- ==== Sys2Proof/Machine/Proving.lean ====
section
/-!
DEFINITION. The brake proving unit (chapter 5): the start of a test, its pulse and slip, its end, aborts,
and its part in a line restart.
-/

namespace Sys2Proof.Machine

/-- The test in progress changed by f. -/
def modTest (f : Test → Test) (s : State) : State := s.modBpu fun b => { b with test := b.test.map f }

/-- The pulse of test t begins (05 R87). -/
def beginPulse (t : Test) (s : State) : State :=
  command (.test t.dir t.torque) (s.modBpu fun b => { b with
    test := some { t with phase := .pulse, start := some s.lgp.p, slip := some 0 },
    pulseDue := some (s.now + t.duration * 1000) })

/-- A length in units of the rope position as tenths of a millimetre, rounded to the nearest tenth, halves
away from zero (05 R84). -/
def State.tenths (s : State) (n : Nat) : Nat := (roundDiv (10 * (n : Int)) s.driveCpm).toNat

/-- The record that the end of a pulse writes (05 R88). -/
def State.testRecord (s : State) (t : Test) (pass : Bool) : TestRec :=
  { pass := pass, day := s.tt.day, slip := s.tenths (t.slip.getD 0), torque := t.torque, dir := t.dir }

/-- The end of the pulse of test t (05 R88). -/
def endPulse (t : Test) (pass : Bool) (s : State) : State :=
  let r := s.testRecord t pass
  let s1 := (command .noTorque s).modBpu fun b => { b with records := b.records.setBrake t.brake (some r) }
  let s2 := if pass then s1.modFt (FaultTable.removed (fun k _ =>
      decide (k = ⟨.brakeTestFailed, t.brake.index⟩)))
    else raise ⟨.brakeTestFailed, t.brake.index⟩ s1
  applyBrake t.brake.other (s2.modBpu fun b => { b with
    test := some { t with phase := .restoring }, pulseDue := none })

/-- The slip of a pulse is judged at a change of p (05 R87). -/
def judgeSlip (s : State) : State :=
  match s.bpu.test with
  | none => s
  | some t =>
    match t.phase, t.start with
    | .pulse, some p0 =>
      let n := max (t.slip.getD 0) (s.lgp.p - p0).natAbs
      let t1 := { t with slip := some n }
      let s1 := s.modBpu fun b => { b with test := some t1 }
      if 20 * s.driveCpm < n then endPulse t1 false s1 else s1
    | _, _ => s

/-- The pulse interval expires (05 R87, R88). -/
def pulseExpires (s : State) : State :=
  match s.bpu.test with
  | none => s
  | some t => if t.phase = .pulse then endPulse t true s else s

/-- A test is aborted without tripping the haul, by a supervision loss or a drive fault (05 R90). -/
def abortTest (s : State) : State :=
  match s.bpu.test with
  | none => s
  | some t =>
    if t.phase = .restoring then s
    else applyBrake t.brake.other ((command .noTorque s).modBpu fun b => { b with
      test := some { t with phase := .restoring }, pulseDue := none })

/-- The part of BPU in a line restart (05 R90). -/
def restartTest (s : State) : State :=
  match s.bpu.test with
  | none => s
  | some t => (applyBrake t.brake.other (command .noTorque s)).modBpu fun b => { b with
      test := none, pulseDue := none }

/-- The brake of a number of the catalogue. -/
def brake? : Nat → Option Brake
  | 0 => some .holding
  | 1 => some .emergency
  | _ => none

/-- The conditions of a test of brake b on the two brakes (05 R85). -/
def State.brakesReady (s : State) (b : Brake) : Bool :=
  let other := (s.bl.brakes.brake b.other).state
  decide ((s.bl.brakes.brake b).state = .applied) && (decide (other = .applied) || decide (other = .released))

/-- BRAKE_TEST accepted (05 R86). -/
def startTest (b : Brake) (d : Dir) (torque duration : Nat) (s : State) : State :=
  let t : Test := { brake := b, dir := d, torque := torque, duration := duration, phase := .lifting,
                    start := none, slip := none }
  let s1 := mark .brakes (mark .haul (command .noTorque (setHaul .brakeTest
    (s.modBpu fun x => { x with test := some t, pulseDue := none }))))
  if (s.bl.brakes.brake b.other).state = .released then beginPulse t s1 else releaseBrake b.other s1

/-- BRAKE_TEST at its owner (05 R85). -/
def testBrake (brake direction torque duration : Nat) (s : State) : Answer :=
  match brake? brake, dir? direction with
  | some b, some d =>
    if within 10 150 torque = false ∨ within 1000 10000 duration = false then .error .bounds
    else if ¬(s.hc.haul = .parked ∧ s.standstill = true ∧ s.bl.driveReady = true) then .error .state
    else if s.windowStop = none then .error .offStop
    else if s.allLocked = false then .error .state
    else if s.ft.presentClass .emergency || s.ft.presentClass .service then .error .blockedByFault
    else if s.brakesReady b = false then .error .state
    else done (startTest b d torque duration s)
  | _, _ => .error .bounds

/-- The test in progress ends when its restoring is proven: it is discarded and the haul PARKED at the stop that
the window test gives (05 R88, 03 R46). -/
def finishTest (s : State) : State :=
  parkedCycle false <| followHeading (setHaul .parked (s.modBpu fun b => { b with test := none, pulseDue := none }))

end Sys2Proof.Machine
end

