-- ==== Sys2Proof/Machine/Brakes.lean ====
section
/-!
DEFINITION. The brake ladder (chapter 4), less the demands and stages of Ops.lean: feedback and proofs,
drive reports, the escalation checks, STOP_NOW and TRIP_RESET.
-/

namespace Sys2Proof.Machine

/-! ### Feedback and proofs (04 section 4.1) -/

/-- A brake's record with a feedback input at a value. -/
def BrakeRec.withInput (x : FeedbackInput) (v : Bool) (r : BrakeRec) : BrakeRec :=
  match x with
  | .applied => { r with appliedIn := v }
  | .released => { r with releasedIn := v }

/-- A feedback input of brake b takes a value (04 R67). -/
def feedback (b : Brake) (x : FeedbackInput) (v : Bool) (s : State) : State :=
  let r := s.bl.brakes.brake b
  let s1 := modBrake b (BrakeRec.withInput x v) s
  if r.agrees && !(r.withInput x v).agrees then
    raise ⟨.brakeFeedback, b.index⟩ (if r.state = .released then applyBrake b s1 else s1)
  else s1

/-- The release proof interval of brake b expires (04 R65). -/
def releaseProofExpires (b : Brake) (s : State) : State :=
  raise ⟨.brakeFeedback, b.index⟩ (applyBrake b s)

/-- The apply proof interval of brake b expires (04 R66). -/
def applyProofExpires (b : Brake) (s : State) : State :=
  raise ⟨.brakeFeedback, b.index⟩ (modBrake b (fun r => { r with proofDue := none }) s)

/-- A brake whose feedback shows the end of its movement is proven (04 R65, R66, log 15). -/
def BrakeRec.proven (r : BrakeRec) : BrakeRec :=
  match r.state with
  | .releasing => if r.showsReleased then { r with state := .released, proofDue := none } else r
  | .applying => if r.showsApplied then { r with state := .applied, proofDue := none } else r
  | .applied => r
  | .released => r

/-- Brake b is proven where its feedback shows it, and the condition of its fault ends where its feedback
agrees with its state (04 R65 to R67). -/
def proveBrake (b : Brake) (s : State) : State :=
  let s1 := modBrake b BrakeRec.proven s
  if (s1.bl.brakes.brake b).agrees then endCondition ⟨.brakeFeedback, b.index⟩ s1 else s1

/-- What a proven brake is told to: the haul controller in RELEASING, the brake proving unit in a test
(03 R53, 05 R86, R88). -/
def tellProven (s : State) : State :=
  match s.hc.haul with
  | .releasing =>
    if s.bl.brakes.fst.state = .released ∧ s.bl.brakes.snd.state = .released then enterRunning s else s
  | .brakeTest =>
    match s.bpu.test with
    | none => s
    | some t =>
      match t.phase, (s.bl.brakes.brake t.brake.other).state with
      | .lifting, .released => beginPulse t s
      | .restoring, .applied => finishTest s
      | _, _ => s
  | _ => s

/-- Both brakes are proven where their feedback shows it, and the proofs are told. -/
def proveBrakes (s : State) : State := tellProven (proveBrake .emergency (proveBrake .holding s))

/-! ### The drive (04 R68) -/

/-- The drive reports FAULT (04 R68). -/
def driveFault (s : State) : State :=
  match s.hc.haul with
  | .warning => raise ⟨.brakeEscalated, 0⟩ s
  | .releasing => raise ⟨.brakeEscalated, 0⟩ s
  | .running => moveStage2 (enterStopping 2 (.fault .brakeEscalated) s)
  | .approach => moveStage2 (enterStopping 2 (.fault .brakeEscalated) s)
  | .stopping =>
    match s.bl.stop with
    | some r => if r.stage = 1 then moveStage2 s else s
    | none => s
  | .brakeTest => abortTest s
  | .tripped => s
  | .parked => s

/-- The drive's report takes a value (04 R68). -/
def driveReport (ready : Bool) (s : State) : State :=
  let s1 := s.modBl fun l => { l with driveReady := ready }
  if s.bl.driveReady = ready then s
  else if ready then s1 else driveFault s1

/-! ### Escalation (04 R74) -/

/-- The stop record changed by f. -/
def modStop (f : StopRec → StopRec) (s : State) : State :=
  s.modBl fun l => { l with stop := l.stop.map f }

/-- The 500 ms sample of a service stop (04 R74). -/
def escalationSample (s : State) : State :=
  modStop (fun r => { r with sample := some s.lineSpeed, nextDue := r.start + 1000000 }) s

/-- The check of a stop at a sampled speed is met (04 R74). Speeds are in 0.1 mm/s. -/
def State.slowsEnough (s : State) (sample : Nat) : Bool :=
  let fall : Int := ((sample : Int) - s.lineSpeed) * 100000
  let required : Nat := min (s.classDecel s.kind * 125000) (fineSpeed sample)
  decide ((required : Int) ≤ fall)

/-- An escalation check of a service stop whose last sample is v (04 R74). -/
def escalationCheck (v : Nat) (s : State) : State :=
  let s1 := modStop (fun r => { r with sample := some s.lineSpeed, nextDue := r.nextDue + 500000 }) s
  if s.slowsEnough v then s1
  else match s.bl.stop with
  | some r => if r.stage = 1 then moveStage2 s1 else moveStage3 s1
  | none => s1

/-! ### STOP_NOW and TRIP_RESET (04 section 4.6) -/

/-- STOP_NOW at its owner (04 R78). -/
def stopNow (s : State) : Answer := done (raise ⟨.operatorEmergency, 0⟩ s)

/-- A slot refuses TRIP_RESET: an ACTIVE one of class EMERGENCY, less OVERTRAVEL by the exception
(04 R79, R81). -/
def blocksReset (exception : Bool) (e : FaultEntry) : Bool :=
  decide (e.cls = .emergency) && decide (e.record.state = .active)
    && !(exception && decide (e.key.code = .overtravel))

/-- A slot that an accepted TRIP_RESET removes (04 R80, R81). -/
def removedByReset (exception : Bool) (k : FaultKey) (r : FaultRec) : Bool :=
  decide (k.code.cls = .emergency)
    && (decide (r.state = .ended) || (exception && decide (k.code = .overtravel)))

/-- TRIP_RESET at its owner, at an effective level (04 R79 to R81). -/
def resetTrip (level : Nat) (s : State) : Answer :=
  let exception := decide (level = 0) && decide (s.mau.mode = .inspection)
  if s.hc.haul ≠ .tripped then .error .state
  else if s.standstill = false then .error .state
  else if ¬(s.bl.brakes.fst.state = .applied ∧ s.bl.brakes.snd.state = .applied) then .error .state
  else if s.ft.entries.any (blocksReset exception) then .error .blockedByFault
  else
    let s1 := s.modFt (FaultTable.removed (removedByReset exception))
    let s2 := command .noTorque (setHaul .parked s1)
    let s3 := if s.mau.mode = .off then s2 else releaseBrake .emergency s2
    done (parkedCycle false (mark .brakes (mark .haul s3)))

/-! ### Line restart (04 R83) -/

/-- BRAKE_FEEDBACK is raised again for a brake whose feedback disagrees with APPLIED or RELEASED
(04 R83). -/
def restartBrake (b : Brake) (s : State) : State :=
  let r := s.bl.brakes.brake b
  if (r.state = .applied ∨ r.state = .released) ∧ r.agrees = false then raise ⟨.brakeFeedback, b.index⟩ s
  else s

/-- The part of BL in a line restart after the haul state is decided (04 R83): feedback and both overspeed
tests are judged at once. -/
def restartBrakes (s : State) : State :=
  judgeEnvelope ((restartBrake .emergency (restartBrake .holding s)).modBl
    fun l => { l with serviceTest := false, emergencyTest := false })

end Sys2Proof.Machine
end

