-- ==== Sys2Proof/Machine/Modes.lean ====
section
/-!
DEFINITION. The mode and authority unit (chapter 9): the rows of MODE_SET and what a change of mode hands
on, the post table, PARAM_SET, host supervision, standby travel, and the level and modes of each request.
-/

namespace Sys2Proof.Machine

/-! ### Line modes (09 section 9.1) -/

/-- The line mode of a number of the catalogue. -/
def mode? : Nat → Option LineMode
  | 0 => some .off
  | 1 => some .automatic
  | 2 => some .attended
  | 3 => some .inspection
  | 4 => some .recovery
  | _ => none

/-- A row of the table of MODE_SET (09 R150). -/
inductive ModeRow where
  | leaveOff (level : Nat)
  | autoToAttended
  | attendedToAuto
  | backToAttended
  | toInspection
  | toRecovery
  | toOff
  deriving DecidableEq, Repr

/-- The row of a change, if the table names it (09 R150). -/
def modeRow (m m' : LineMode) : Option ModeRow :=
  match m, m' with
  | .off, .automatic => some (.leaveOff 1)
  | .off, .attended => some (.leaveOff 1)
  | .off, .inspection => some (.leaveOff 0)
  | .automatic, .attended => some .autoToAttended
  | .attended, .automatic => some .attendedToAuto
  | .inspection, .attended => some .backToAttended
  | .recovery, .attended => some .backToAttended
  | .automatic, .inspection => some .toInspection
  | .attended, .inspection => some .toInspection
  | .recovery, .inspection => some .toInspection
  | .off, .recovery => some .toRecovery
  | .automatic, .recovery => some .toRecovery
  | .attended, .recovery => some .toRecovery
  | .inspection, .recovery => some .toRecovery
  | .automatic, .off => some .toOff
  | .attended, .off => some .toOff
  | .inspection, .off => some .toOff
  | .recovery, .off => some .toOff
  | _, _ => none

/-- The required level of a row (09 R150). -/
def ModeRow.level : ModeRow → Nat
  | .leaveOff n => n
  | .autoToAttended => 1
  | .attendedToAuto => 1
  | .backToAttended => 1
  | .toInspection => 0
  | .toRecovery => 0
  | .toOff => 1

/-- The first refusal of a list of checks in order. -/
def firstRefusal : List (Bool × RefusalCode) → Option RefusalCode
  | [] => none
  | (ok, c) :: rest => if ok then firstRefusal rest else some c

/-- The checks of a row, in order; the haul is at a stop when the window test gives one (09 R150). -/
def ModeRow.checks (r : ModeRow) (s : State) : List (Bool × RefusalCode) :=
  let complete : Bool × RefusalCode := (s.mau.config.complete, .notConfigured)
  let parked : Bool × RefusalCode := (decide (s.hc.haul = .parked), .state)
  let atStop : Bool × RefusalCode := (s.windowStop.isSome, .offStop)
  let referenced : Bool × RefusalCode := (decide (s.lgp.position = .referenced), .state)
  match r with
  | .leaveOff _ => [complete, parked, atStop, referenced]
  | .autoToAttended => []
  | .attendedToAuto => [parked, atStop]
  | .backToAttended => [parked, atStop, referenced]
  | .toInspection =>
    [(decide (s.hc.haul = .parked) || (decide (s.hc.haul = .tripped) && s.standstill), .state)]
  | .toRecovery => [complete, parked]
  | .toOff =>
    [parked,
     (match s.windowStop with
      | some k => decide (k = 0) || decide (k + 1 = s.stations)
      | none => false, .offStop),
     (s.allLocked, .state),
     (s.gqu.queues.all (fun q => q.entries.isEmpty), .notEmpty)]

/-- The required level of a MODE_SET that names mode number n (09 R150). -/
def State.modeLevel (s : State) (n : Nat) : Nat :=
  match mode? n with
  | none => 1
  | some m => match modeRow s.mau.mode m with
    | some r => r.level
    | none => 1

/-- The supervision interval starts from now and the state is RUNNING (09 R159). -/
def startSupervision (s : State) : State :=
  s.modMau fun m => { m with supervision := .running, supDue := some (s.now + m.supMs * 1000) }

/-- Standby begins (09 R161): supervision is suspended, a loss ends, and the wake fields and the standby
travel are cleared. -/
def beginStandby (s : State) : State :=
  let s1 := s.modMau fun m => { m with
    supervision := .suspended, supDue := none, wakeSet := [], wakeCount := 0, latestWake := none,
    standbyTravel := 0, standbyScale := 1 }
  if s.mau.supervision = .lost then endCondition ⟨.supervisionLost, 0⟩ s1 else s1

/-- What the entry to OFF does (09 R151, 02 R35, 04 R82, 08 R142). -/
def enterOff (s : State) : State :=
  beginStandby (dissolveBoth (applyBrake .emergency (clearStandby (restartTension s))))

/-- What the exit from OFF does (09 R151, 02 R35, 09 R159). -/
def exitOff (s : State) : State := startSupervision (restartTension s)

/-- AUTOMATIC or ATTENDED to the other of the two, or no change (09 R151). -/
def keepsSuspended (m m' : LineMode) : Bool :=
  match m, m' with
  | .automatic, .attended => true
  | .attended, .automatic => true
  | _, _ => false

/-- A change of mode is carried out: MODE is marked and then the change handed on (09 R151). -/
def changeMode (m' : LineMode) (s : State) : State :=
  let m := s.mau.mode
  let s0 := mark .mode (s.modMau fun x => { x with mode := m' })
  let s1 := if s.hc.trip.state = .suspended ∧ keepsSuspended m m' = false then abandonTrip .hold s0 else s0
  let s2 := if m' = .off then enterOff s1 else s1
  let s3 := if m = .off then exitOff s2 else s2
  let s4 := if m' = .automatic then enterAutomatic s3 else s3
  if m = .automatic then leaveAutomaticDoors (leaveAutomaticCycle s4) else s4

/-- MODE_SET at its owner (09 R150). -/
def setMode (n : Nat) (s : State) : Answer :=
  match mode? n with
  | none => .error .state
  | some m =>
    if m = s.mau.mode then done s
    else match modeRow s.mau.mode m with
    | none => .error .state
    | some r => match firstRefusal (r.checks s) with
      | some c => .error c
      | none => done (changeMode m s)

/-! ### The post table (09 R156) -/

/-- The level that a list of pairs gives a post: 3 when it does not name it (09 R156). -/
def postLevel (pairs : List (Nat × Nat)) (post : Nat) : Nat :=
  match pairs.find? (fun x => decide (x.1 = post)) with
  | some x => x.2
  | none => 3

/-- POSTS_SET at its owner (09 R156). -/
def setPosts (pairs : List (Nat × Nat)) (s : State) : Answer :=
  if pairs.any (fun x => decide (7 < x.1) || decide (3 < x.2)) || !(noneTwice (pairs.map Prod.fst))
      || !(pairs.any (fun x => decide (x.2 = 0))) then .error .bounds
  else done (mark .mode (s.modMau fun m => { m with posts := (List.range 8).map (postLevel pairs) }))

/-! ### PARAM_SET (09 R157) -/

/-- The fields with the defaults of those that 0 selects (09 R157). -/
def paramDefaults (p : ParamBody) : ParamBody :=
  let or0 : Nat → Nat → Nat := fun d n => if n = 0 then d else n
  { p with
    dwell := or0 30 p.dwell, warning := or0 5000 p.warning, passageTimeout := or0 8000 p.passageTimeout,
    supervision := or0 2000 p.supervision, mass := or0 80 p.mass }

/-- The fields of scope TIMING lie within their ranges (09 R157). -/
def timingOk (p : ParamBody) : Bool :=
  within 10 180 p.dwell && within 3000 15000 p.warning && within 3000 20000 p.passageTimeout
    && within 0 3600 p.passback && within 250 10000 p.supervision

/-- The fields that scope ALL takes besides lie within their ranges (09 R157). -/
def allOk (p : ParamBody) : Bool :=
  within 1 200 p.capacity && within 50 120 p.mass
    && within 1 100000 p.imb1 && within 1 100000 p.imb2 && within 1 100000 p.imb3
    && decide (p.imb1 < p.imb2) && decide (p.imb2 < p.imb3)
    && within 20 5000 p.tolerance
    && p.offsets.all (fun x => decide (x.1 ≤ 159) && decide (x.2 ≤ 159))

/-- The fields of scope TIMING are handed to their owners (09 R157, R159). -/
def takeTiming (p : ParamBody) (s : State) : State :=
  let s1 := ((((s.modDc fun d => { d with dwellS := p.dwell }).modHc
    fun h => { h with warningMs := p.warning }).modGqu
    fun g => { g with passageMs := p.passageTimeout }).modTt
    fun t => { t with passbackS := p.passback }).modMau
    fun m => { m with supMs := p.supervision }
  if s.mau.supervision = .running then startSupervision s1 else s1

/-- A known load above the capacity becomes UNKNOWN (08 R144). -/
def boundLoad (capacity : Nat) (load : Option Nat) : Option Nat :=
  match load with
  | some n => if capacity < n then none else some n
  | none => none

/-- The fields of scope ALL besides those of TIMING are handed to their owners (09 R157). -/
def takeAll (p : ParamBody) (s : State) : State :=
  ((s.modGqu fun g => { g with
      capacity := some p.capacity, mass := p.mass, tolerance := some p.tolerance, offsets := p.offsets,
      loads := ⟨boundLoad p.capacity g.loads.fst, boundLoad p.capacity g.loads.snd⟩ }).modHc
    fun h => { h with thresholds := some (p.imb1, p.imb2, p.imb3) }).modMau
    fun m => { m with config := { m.config with params := true } }

/-- PARAM_SET at its owner; scopes ALL 0, TIMING 1 (09 R157). A scope that is neither is out of range
(log 16). -/
def setParams (scope : Nat) (body : ParamBody) (s : State) : Answer :=
  let p := paramDefaults body
  if scope = 1 then (if timingOk p then done (takeTiming p s) else .error .bounds)
  else if scope = 0 then
    (if timingOk p && allOk p then done (takeAll p (takeTiming p s)) else .error .bounds)
  else .error .bounds

/-! ### Supervision (09 section 9.4) and standby travel (09 R163) -/

/-- A valid frame (09 R159, R162). -/
def validFrame (s : State) : State :=
  let s1 := s.modMau fun m => { m with lastFrame := some s.now }
  match s.mau.supervision with
  | .suspended => wake .link s1
  | .running => startSupervision s1
  | .lost => startSupervision (endCondition ⟨.supervisionLost, 0⟩ s1)

/-- The supervision interval expires in RUNNING (09 R159, R160). -/
def supervisionLoss (s : State) : State :=
  abortTest (raise ⟨.supervisionLost, 0⟩
    (s.modMau fun m => { m with supervision := .lost, supDue := none }))

/-- A travel of x.1 / x.2 mm after one count distance of 1000 / cpm mm more, exactly (01 R6, 09 R163).
A LINE_SET in OFF may change the counts per metre while the travel stands, hence the two cases (log 35). -/
def addCount (cpm : Nat) (d : Dir) (x : Int × Nat) : Int × Nat :=
  if x.2 = cpm then (x.1 + d.sign * 1000, cpm)
  else (x.1 * cpm + d.sign * 1000 * x.2, x.2 * cpm)

/-- A DRIVE edge counted in OFF is taken into the standby travel (09 R163). -/
def standbyEdge (d : Dir) (s : State) : State :=
  if s.mau.mode = .off ∧ s.lgp.line.isSome = true then
    let x := addCount s.driveCpm d (s.mau.standbyTravel, s.mau.standbyScale)
    if 50 * x.2 < x.1.natAbs then
      wake .movement (s.modMau fun m => { m with standbyTravel := 0, standbyScale := 1 })
    else s.modMau fun m => { m with standbyTravel := x.1, standbyScale := x.2 }
  else s

/-! ### Authority and modes of requests (09 R155) -/

/-- The required level of a request (09 R155). A PARAM_SET whose scope is neither value is judged as of
scope ALL (log 16). -/
def State.requiredLevel (s : State) : Request → Nat
  | .lineSet _ => 0
  | .markersSet _ _ => 0
  | .profileSet _ => 0
  | .tensionSet _ _ => 0
  | .lanesSet _ => 0
  | .postsSet _ => 0
  | .paramSet scope _ => if scope = 1 then 1 else 0
  | .ticketsLoad _ => 1
  | .ticketsDrop _ => 1
  | .ticketQuery _ => 3
  | .daySet _ _ => 1
  | .modeSet n => s.modeLevel n
  | .dispatch _ _ => 2
  | .hold => 2
  | .resume => 2
  | .stopNow => 3
  | .tripReset => 1
  | .doors _ _ _ => 2
  | .lane _ _ => 2
  | .queue _ _ => 2
  | .forceStop _ _ => 2
  | .weatherSet _ => 1
  | .amend _ _ _ _ _ => 1
  | .brakeTest _ _ _ _ => 1
  | .faultsAck => 1
  | .restart => 0
  | .statusRead => 3
  | .carRead _ => 3
  | .queueRead _ _ => 3
  | .laneRead _ => 3
  | .faultsRead => 3
  | .tripRead => 3
  | .brakesRead => 3
  | .tensionRead => 3

/-- A kind of request is taken in a line mode (09 R155). A RESUME during a brake test, which runs in INSPECTION
alone, is refused with MODE by this table and reaches no owner that could answer STATE (09 R153; 05 R90;
log 43). -/
def takenIn (m : LineMode) : Request → Bool
  | .lineSet _ => decide (m = .off)
  | .markersSet _ _ => decide (m = .off)
  | .profileSet _ => decide (m = .off)
  | .tensionSet _ _ => decide (m = .off)
  | .lanesSet _ => decide (m = .off)
  | .postsSet _ => decide (m = .off)
  | .paramSet scope _ => decide (scope = 1) || decide (m = .off)
  | .dispatch _ _ => decide (m ≠ .off)
  | .hold => decide (m ≠ .off)
  | .doors _ _ _ => decide (m ≠ .off)
  | .resume => m.inService
  | .forceStop _ _ => m.inService
  | .brakeTest _ _ _ _ => decide (m = .inspection)
  | _ => true

/-- The effective level of a request (09 R154). -/
def State.effectiveLevel (s : State) (h : Header) : Nat := max h.level (s.mau.posts.getD h.post 3)

/-- The three steps of MAU: form, authority, mode; none when the request passes them (09 R153). -/
def State.judge (s : State) (h : Header) (r : Request) : Option RefusalCode :=
  if 7 < h.post ∨ 3 < h.level then some .format
  else if s.requiredLevel r < s.effectiveLevel h then some .authority
  else if takenIn s.mau.mode r = false then some .mode
  else none

end Sys2Proof.Machine
end

