-- ==== Sys2Proof/Machine/Restart.lean ====
section
/-!
DEFINITION. What spans the blocks: the acceptance of LINE_SET (01 R3), line restart (09 R164) and full
reset.
-/

namespace Sys2Proof.Machine

/-! ### LINE_SET -/

/-- The HAUL key is marked if the stop of a PARKED haul has changed since `before` (03 R44). -/
def markStop (before s : State) : State :=
  if before.parkedStop = s.parkedStop then s else mark .haul s

/-- The part of LGP in the acceptance of a line record (01 R3). A PARKED haul loses its stop by it and may find it
again in the same event, so the loss is marked where it happens (03 R44, 11 R183). -/
def loadLine (r : LineRec) (s : State) : State :=
  let s1 := stopOvertravel (s.modLgp fun g => { g with
    line := some r, markers := [], corrLimit := 500, lastMarker := ⟨none, none⟩, watch := ⟨none, none⟩,
    position := .unknown, p := 0, corr := ⟨0, 0⟩, freshNeeded := false })
  evaluateReferencing (formPresences (markStop s s1))

/-- The DOOR, QUEUE and LANE keys that an accepted LINE_SET marks: those of the old line and of the new
one (06 R93, 08 R127, R137). -/
def State.lineKeys (s : State) (stations : Nat) : List NoticeKey :=
  [.car .a, .car .b]
    ++ (List.range (max s.dc.sets.length (stations + 2))).map NoticeKey.door
    ++ (List.range (max s.gqu.queues.length (2 * stations - 2))).map NoticeKey.queue
    ++ laneKeys s.gqu.lanes

/-- The configuration record after an accepted LINE_SET (09 R158). -/
def ConfigRecord.lineOnly : ConfigRecord :=
  { line := true, profiles := List.replicate 4 false, tension := false, lanes := false, params := false }

/-- LINE_SET accepted with a record that has its defaults (01 R3). -/
def acceptLine (r : LineRec) (s : State) : State :=
  let s1 := loadLine r (emptyHistories (dissolveBoth s))
  let s2 := (removeLaneFaults (discardTrips s1)).modGqu fun g => { g with
    lanes := [], queues := newQueues r.stations, batches := ⟨none, none⟩ }
  let s3 := newDoors r.stations s2
  markAll (s.lineKeys r.stations) (s3.modMau fun m => { m with config := ConfigRecord.lineOnly })

/-- LINE_SET at its owner (01 R1 to R3). -/
def setLine (record : LineRec) (s : State) : Answer :=
  let r := lineDefaults record
  if lineInBounds r = false then .error .bounds
  else if lineSymmetric r = false then .error .symmetry
  else done (acceptLine r s)

/-! ### Line restart (09 R164) -/

/-- MAU's change of mode at a line restart (09 R164). -/
def restartMode (s : State) : State :=
  if s.mau.mode = .automatic then
    leaveAutomaticDoors (leaveAutomaticCycle (s.modMau fun m => { m with mode := .attended }))
  else s

/-- The notice list at the start of a line restart (11 R186). -/
def restartNotices (s : State) : State := s.modLl fun l => { l with notices := [.haul, .mode] }

/-- The fault table emptied (10 R176). -/
def emptyFaults (s : State) : State := emptySlots (fun _ => FaultTable.reset) s

/-- Supervision after a line restart (09 R164). -/
def restartSupervision (s : State) : State := if s.mau.mode = .off then s else startSupervision s

/-- A line restart: each block's part, in the order of log 23 (09 R164). -/
def lineRestart (s : State) : State :=
  let s1 := restartHaul (restartTest (emptyFaults (restartNotices (restartMode s))))
  let s2 := restartTensionFaults (restartSpeed (restartDoors (restartGates s1)))
  let s3 := restartBrakes (evaluateReferencing (restartPosition s2))
  restartSupervision (restartCarFaults s3)

/-- RESTART at its owner (09 R164). -/
def restartLineRequest (s : State) : Answer :=
  if (s.hc.haul = .parked ∨ s.hc.haul = .tripped) ∧ s.standstill = true then done (lineRestart s)
  else .error .state

/-! ### Full reset -/

/-- The inputs of the door sets at a full reset: car door sets as not reported, platform sets as their pins
stand (06 R93, log 8). -/
def resetDoorInputs (l : List DoorInputs) : List DoorInputs :=
  List.replicate 2 { closed := false, opened := false, obstructed := false } ++ l.drop 2

/-- A brake after full reset with its feedback inputs as they stand (04 R83). -/
def BrakeRec.afterReset (r : BrakeRec) : BrakeRec :=
  { state := .applied, appliedIn := r.appliedIn, releasedIn := r.releasedIn, proofDue := none }

/-- The state after full reset with the pins and the commands waiting as they stand, before the judgement
of the brakes (log 28). -/
def resetState (s : State) : State :=
  { State.reset with
    pending := s.pending,
    lgp := { Lgp.reset with presenceIn := s.lgp.presenceIn },
    bl := { Bl.reset with
      brakes := ⟨s.bl.brakes.fst.afterReset, s.bl.brakes.snd.afterReset⟩, driveReady := s.bl.driveReady },
    dc := { Dc.reset with inputs := resetDoorInputs s.dc.inputs },
    gqu := { Gqu.reset with jamIn := s.gqu.jamIn } }

/-- BRAKE_FEEDBACK is raised at a full reset for a brake whose feedback disagrees with APPLIED, and the
FAULT key marked (04 R83, 10 R175). -/
def resetBrake (b : Brake) (s : State) : State :=
  if (s.bl.brakes.brake b).agrees then s else mark .fault (raise ⟨.brakeFeedback, b.index⟩ s)

/-- Full reset (04 R83, 09 R166, 11 R186). -/
def fullReset (s : State) : State := resetBrake .emergency (resetBrake .holding (resetState s))

end Sys2Proof.Machine
end

