-- ==== Sys2Proof/Machine/Reports.lean ====
section
/-!
DEFINITION. What the part reports: the contents of replies to reads and of notices (11 R182, R185), the
owners of the reads and of FAULTS_ACK, and the changes of reported content that mark a notice key.
-/

namespace Sys2Proof.Machine

/-! ### Contents -/

/-- A value in 0.001 of a unit as whole units, halves away from zero (02 section 2.2). -/
def wholeKg (x : Int) : Int := roundDiv x 1000

/-- A speed in 0.1 mm/s as whole mm/s, halves away from zero (02 section 2.1). -/
def wholeSpeed (x : Int) : Int := roundDiv x 10

/-- The content of a HAUL notice (03 R44). -/
def State.haulReport (s : State) : HaulReport :=
  { haul := s.hc.haul, stop := s.parkedStop, heading := s.hc.heading, demandSet := s.demandSet,
    forced := s.hc.forced, cycle := s.hc.cycle, waiting := s.hc.waiting }

/-- The content of a MODE notice (09 R165). -/
def State.modeReport (s : State) : ModeReport :=
  { mode := s.mau.mode, config := s.mau.config, supervision := s.mau.supervision }

/-- The content of a WAKE notice (09 R162). -/
def State.wakeReport (s : State) : WakeReport :=
  { causes := s.mau.wakeSet, count := s.mau.wakeCount, latest := s.mau.latestWake }

/-- A car record (01 R19, 08 R145, 03 section 3.12). -/
def State.carReport (s : State) (c : Car) : CarReport :=
  let l := s.hc.carLine.car c
  { x := s.carPos c, corr := s.lgp.corr.car c, lastMarker := s.lgp.lastMarker.car c,
    presence := s.lgp.presence.car c, position := s.lgp.position,
    load := s.gqu.loads.car c, capacity := s.gqu.capacity,
    batch := (s.gqu.batches.car c).map (fun b =>
      { stop := b.stop, queue := b.queue, size := s.batchSize c }),
    alive := l.alive, brakeApplied := l.brakeApplied, buttonPressed := l.buttonPressed,
    requests := l.requests }

/-- A brake as it is reported (11 R182). -/
def BrakeRec.report (r : BrakeRec) : BrakeReport :=
  { state := r.state, outputRelease := r.state.outputRelease, appliedIn := r.appliedIn,
    releasedIn := r.releasedIn }

/-- The stage and stop cause as they are reported (04 section 4.5, log 31). -/
def Bl.stageReport (b : Bl) (notice : Bool) : Nat × Option StopCause :=
  match b.stop, b.stage3 with
  | some r, _ => (r.stage, some r.cause)
  | none, some c => if notice then (3, some c) else (0, none)
  | none, none => (0, none)

/-- The content of BRAKES_READ, or of a BRAKES notice (11 R182). -/
def State.brakesReport (s : State) (notice : Bool) : BrakesReport :=
  let st := s.bl.stageReport notice
  { brakes := ⟨s.bl.brakes.fst.report, s.bl.brakes.snd.report⟩, driveReady := s.bl.driveReady,
    stage := st.1, cause := st.2,
    ceiling := (roundDiv (s.supervisedCeiling : Int) 1000000).toNat,
    records := s.bpu.records,
    valid := ⟨s.recordValid .holding, s.recordValid .emergency⟩,
    test := s.bpu.test,
    testStart := (s.bpu.test.bind (fun t => t.start)).map (fun p => roundDiv p s.driveCpm),
    testSlip := (s.bpu.test.bind (fun t => t.slip)).map s.tenths }

/-- The content of a DOOR notice, none for a set that the table does not hold (06 R108). -/
def State.doorReport (s : State) (i : Nat) : Option DoorReport :=
  match s.dc.sets[i]? with
  | none => none
  | some d => some
    { set := i, record := d, inputs := s.doorIn i,
      pair := (s.pairShown i).map (fun c =>
        (c, (s.dc.pairs.car c).released, (s.dc.pairs.car c).pendingStop)),
      dwell := if i < 2 then some s.dc.dwell else none }

/-- The fields of queue q that a QUEUE notice carries, none for a queue that the line does not have
(08 R148). -/
def State.queueFields (s : State) (q : Nat) : Option QueueFields :=
  match s.gqu.queues[q]?, s.queueState? q with
  | some x, some st =>
    let place := queuePlace s.stations q
    some { number := q, station := place.1, dir := place.2, state := st, hostClosed := x.hostClosed,
           offsets := s.offsets q, entryCount := x.entries.length, admittedCount := x.admittedCount }
  | _, _ => none

/-- The content of a LANE notice, none for an id that the lane table does not hold (08 R148). -/
def State.laneReport (s : State) (id : Nat) : Option LaneReport :=
  (s.lane? id).map (fun l => { record := l, state := s.laneState l })

/-- A tension channel as TENSION_READ reports it (02 R34). -/
def TensionChannel.report (ch : TensionChannel) : ChannelReport :=
  let l := ch.limits.getD { min := 0, max := 0, standbyMin := 0, standbyMax := 0 }
  { settings :=
      { range := ch.range, rate := ch.rate, window := ch.size, gain := ch.gain, offset := ch.offset,
        min := l.min, max := l.max, standbyMin := l.standbyMin, standbyMax := l.standbyMax },
    limitsKnown := ch.limits.isSome, state := ch.state, readings := ch.window.length,
    latest := ch.latest.map (fun x => (wholeKg x.2, x.1)), average := ch.average.map wholeKg,
    limitCondition := ch.limitCondition }

/-- The content of TENSION_READ (02 R34). -/
def State.tensionReport (s : State) : TensionReport :=
  { channels := ⟨s.stu.tension.fst.report, s.stu.tension.snd.report⟩,
    imbalance := s.imbalance.map wholeKg }

/-- The door set reports of the table, in order. -/
def State.doorReports (s : State) : List DoorReport :=
  (List.range s.dc.sets.length).filterMap s.doorReport

/-- The record of car c's pair, with its two door sets while it is released (06 R95). -/
def State.pairReport (s : State) (c : Car) : PairReport :=
  let r := s.dc.pairs.car c
  { record := r, sets := r.released.map (fun x => s.pairSets c x.stop) }

/-- The content of STATUS_READ (11 R182). The model's choice: the time since the last valid frame is given in
whole milliseconds, the rest dropped (log 32). -/
def State.statusReport (s : State) : StatusReport :=
  { position := s.lgp.position,
    stationIds := match s.lgp.line with
      | some r => r.table.map StationRec.id
      | none => [],
    standstill := s.standstill, lineSpeed := (wholeSpeed s.lineSpeed).toNat, lineDir := s.lineDir,
    estimates := ⟨wholeSpeed (s.estimate .drive), wholeSpeed (s.estimate .sheave)⟩,
    haul := s.haulReport, weather := s.hc.weather,
    pendingAmendments := s.hc.amendments.map Option.isSome, driveReady := s.bl.driveReady,
    doors := s.doorReports, pairs := ⟨s.pairReport .a, s.pairReport .b⟩, day := s.tt.day, clock := s.tt.clock,
    mode := s.mau.mode, config := s.mau.config, posts := s.mau.posts, supervision := s.mau.supervision,
    supMs := s.mau.supMs, sinceFrame := s.mau.lastFrame.map (fun t => (s.now - t) / 1000),
    wake := s.wakeReport, mostUrgent := s.ft.mostUrgent,
    presentPerClass := [s.ft.countClass .emergency, s.ft.countClass .service, s.ft.countClass .block,
                        s.ft.countClass .report] }

/-- The content of TRIP_READ (11 R182). -/
def State.tripReport (s : State) (counter : Bool) : TripReport :=
  { trip := s.hc.trip, counter := if counter then some s.hc.tripCounter else none }

/-- The content of the notice of a key, none when its subject does not exist (11 R185). -/
def State.noticeContent (s : State) : NoticeKey → Option Content
  | .haul => some (.haul s.haulReport)
  | .mode => some (.mode s.modeReport)
  | .trip => some (.trip (s.tripReport false))
  | .brakes => some (.brakes (s.brakesReport true))
  | .fault => some (.faults s.ft.report)
  | .wake => some (.wake s.wakeReport)
  | .car c => some (.car (s.carReport c))
  | .door i => (s.doorReport i).map Content.door
  | .queue q => (s.queueFields q).map Content.queueFields
  | .lane id => (s.laneReport id).map Content.lane

/-! ### Reads (11 R182) and FAULTS_ACK (10 R173) -/

/-- CAR_READ at its owner (11 R182). -/
def readCar (car : Nat) (s : State) : Answer :=
  match carOf? car with
  | some c => .ok (s, .car (s.carReport c))
  | none => .error .bounds

/-- QUEUE_READ at its owner: the queue fields and up to 80 entries from a place (11 R182). -/
def readQueue (q place : Nat) (s : State) : Answer :=
  match s.queueFields q, s.gqu.queues[q]? with
  | some f, some x => .ok (s, .queue { fields := f, entries := (x.entries.drop place).take 80 })
  | _, _ => .error .notFound

/-- LANE_READ at its owner (11 R182). -/
def readLane (id : Nat) (s : State) : Answer :=
  match s.laneReport id with
  | some r => .ok (s, .lane r)
  | none => .error .notFound

/-- A slot that FAULTS_ACK removes (10 R173). -/
def removedByAck (k : FaultKey) (r : FaultRec) : Bool :=
  (decide (k.code.cls = .service) || decide (k.code.cls = .block)) && decide (r.state = .ended)

/-- FAULTS_ACK at its owner (10 R173). -/
def ackFaults (s : State) : Answer :=
  .ok (s.modFt (FaultTable.removed removedByAck),
    .removed (s.ft.entries.filter (fun e => removedByAck e.key e.record)).length)

/-! ### Changes that mark a key -/

/-- The 42 notice keys in the order of the table of 11 section 11.4. -/
def noticeKeys : List NoticeKey :=
  [.haul, .mode, .trip, .brakes, .fault, .wake, .car .a, .car .b]
    ++ (List.range 8).map NoticeKey.door ++ (List.range 10).map NoticeKey.queue
    ++ (List.range 16).map NoticeKey.lane

/-- The trip record without its top line speed, whose change marks nothing (03 R45). -/
def Trip.marking (t : Trip) : Trip := { t with rec? := t.rec?.map (fun r => { r with topSpeed := 0 }) }

/-- The part of a BRAKES report whose change marks the key: brakes, drive, stage and cause, records and
phase (04 R64, R68, section 4.5, 05 R84). -/
def State.brakesMarking (s : State) : BrakesReport :=
  { s.brakesReport true with
    ceiling := 0, valid := ⟨false, false⟩, testStart := none, testSlip := none,
    test := s.bpu.test.map (fun t => { t with start := none, slip := none }) }

/-- A car record without its position and last marker, whose change alone marks nothing (01 R7, R19); a
capture marks the key itself (01 R15). -/
def State.carMarking (s : State) (c : Car) : CarReport := { s.carReport c with x := 0, lastMarker := none }

/-- A door set report without its running proof, which marks nothing (06 R108). -/
def State.doorMarking (s : State) (i : Nat) : Option DoorReport :=
  (s.doorReport i).map (fun r => { r with record := { r.record with proof := none } })

/-- The part of a queue whose change marks its key (08 R148). -/
def State.queueMarking (s : State) (q : Nat) : Option (QueueState × Queue) :=
  match s.queueState? q, s.gqu.queues[q]? with
  | some st, some x => some (st, x)
  | _, _ => none

/-- The reported content of a key changed between two states so that the key is marked (11 R183). Wake
events mark their key themselves. -/
def changed (a b : State) : NoticeKey → Bool
  | .haul => decide (a.haulReport ≠ b.haulReport)
  | .mode => decide (a.modeReport ≠ b.modeReport)
  | .trip => decide (a.hc.trip.marking ≠ b.hc.trip.marking)
  | .brakes => decide (a.brakesMarking ≠ b.brakesMarking)
  | .fault => decide (a.ft ≠ b.ft)
  | .wake => false
  | .car c => decide (a.carMarking c ≠ b.carMarking c)
  | .door i => decide (a.doorMarking i ≠ b.doorMarking i)
  | .queue q => decide (a.queueMarking q ≠ b.queueMarking q)
  | .lane id => decide (a.laneReport id ≠ b.laneReport id)

/-- The keys whose content an event changed are marked, in the order of the key table (11 R183, log 6). A change
that may be undone within its event is marked where it happens: `emptySlots`, `modReleased`, `setDwell`,
`startClosing`, `markStop`. -/
def markChanges (before s : State) : State := markAll (noticeKeys.filter (changed before s)) s

end Sys2Proof.Machine
end

