-- ==== Sys2Proof/Machine/Settle.lean ====
section
/-!
DEFINITION. What every event ends with (log 5): the conditions that the rules state "at every moment" are
judged on the state as the event left it, in one fixed order.
-/

namespace Sys2Proof.Machine

/-- The brakes, the encoders and the envelope are judged (04 R65 to R67, R70; 02 R25, R26). -/
def settlePlant (s : State) : State := proveBrakes (judgeEnvelope (judgeEncoders (proveBrakes s)))

/-- Pending automatic releases and the dwell are judged (06 R97, R100). -/
def settleDoors (s : State) : State := judgeDwell (judgePending .b (judgePending .a s))

/-- The duties of the haul controller at the end of an event: amendments of classes that are no longer in
use, the heading, the automatic cycle and its attempts (03 R40, R46, R61). -/
def settleHaul (before s : State) : State :=
  runAttempts before (followDoors (settleDoors (beginCycle (followHeading (applyIdleAll before s)))))

/-- The conditions that hold at every moment, judged at the end of an event (log 5). -/
def settle (before s : State) : State :=
  commandDrive (followTopSpeed (judgeLoads (settleHaul before (settlePlant s))))

/-- An event is finished: the conditions are judged and the changed keys marked (log 5, log 6). -/
def finish (before s : State) : State := markChanges before (settle before s)

end Sys2Proof.Machine
end

