-- ==== Sys2Proof/Machine/Wire.lean ====
section
/-!
DEFINITION. The bytes of the line link: field widths, the bodies of replies and notices, whole outgoing
frames with their check, and the time that a frame occupies the line (11 sections 11.1 and 11.3). What
the catalogue leaves open of a reply's or notice's layout is fixed as log 20 says.
-/

namespace Sys2Proof.Machine

/-! ### Fields (11 R181) -/

/-- n in k bytes, least significant byte first. -/
def leBytes : Nat → Nat → List Byte
  | 0, _ => []
  | k + 1, n => BitVec.ofNat 8 n :: leBytes k (n / 256)

/-- A 1-byte field. -/
def u8 (n : Nat) : List Byte := leBytes 1 n

/-- A 2-byte field. -/
def u16 (n : Nat) : List Byte := leBytes 2 n

/-- A 4-byte field. -/
def u32 (n : Nat) : List Byte := leBytes 4 n

/-- A signed 4-byte field. -/
def i32 (x : Int) : List Byte := leBytes 4 (x % 4294967296).toNat

/-- A yes-or-no field. -/
def flag (b : Bool) : List Byte := u8 (if b then 1 else 0)

/-- An optional field behind its presence flag. -/
def opt {α : Type} (f : α → List Byte) : Option α → List Byte
  | none => flag false
  | some x => flag true ++ f x

/-- An optional field of k bytes whose presence another field decides. -/
def padded {α : Type} (k : Nat) (f : α → List Byte) : Option α → List Byte
  | none => leBytes k 0
  | some x => f x

/-- A list behind its 1-byte count. -/
def counted {α : Type} (f : α → List Byte) (l : List α) : List Byte := u8 l.length ++ l.flatMap f

/-- The fields of two like things, the first first. -/
def both {α : Type} (f : α → List Byte) (t : Two α) : List Byte := f t.fst ++ f t.snd

/-! ### Numbers of named values (11 R181) -/

/-- Directions. -/
def dirNumber : Dir → Nat
  | .up => 0
  | .down => 1

/-- Position states (01 section 1.4). -/
def posNumber : PosState → Nat
  | .unknown => 0
  | .referenced => 1
  | .doubtful => 2

/-- Haul states (03 section 3.5). -/
def haulNumber : HaulState → Nat
  | .parked => 0
  | .warning => 1
  | .releasing => 2
  | .running => 3
  | .approach => 4
  | .stopping => 5
  | .tripped => 6
  | .brakeTest => 7

/-- Trip states (03 section 3.5). -/
def tripNumber : TripState → Nat
  | .none => 0
  | .active => 1
  | .suspended => 2
  | .completed => 3
  | .abandoned => 4

/-- Classes 1 to 4, INSPECTION 5, RECOVERY 6 (log 20). -/
def kindNumber : TripKind → Nat
  | .cls n => n
  | .inspection => 5
  | .recovery => 6

/-- Automatic cycle stages (03 section 3.11). -/
def cycleNumber : Cycle → Nat
  | .none => 0
  | .boarding => 1
  | .ready => 2
  | .held => 3

/-- Weather states (03 R41). -/
def weatherNumber : Weather → Nat
  | .dry => 0
  | .wet => 1
  | .ice => 2

/-- Brake states (04 R64). -/
def brakeNumber : BrakeState → Nat
  | .applied => 0
  | .releasing => 1
  | .released => 2
  | .applying => 3

/-- Test phases (05 R84). -/
def phaseNumber : TestPhase → Nat
  | .lifting => 0
  | .pulse => 1
  | .restoring => 2

/-- Door set states (06 R93). -/
def doorNumber : DoorState → Nat
  | .locked => 0
  | .opening => 1
  | .open => 2
  | .closing => 3
  | .unproven => 4

/-- Door commands (06 R93). -/
def doorCommandNumber : DoorCommand → Nat
  | .none => 0
  | .open => 1
  | .close => 2

/-- Tension channel states (02 section 2.2). -/
def tensionNumber : TensionState → Nat
  | .filling => 0
  | .valid => 1
  | .silent => 2
  | .recovering => 3

/-- Ticket classes (07 section 7.1). -/
def ticketNumber : TicketClass → Nat
  | .single => 0
  | .return => 1
  | .day => 2
  | .staff => 3

/-- Lane roles (08 section 8.1). -/
def roleNumber : LaneRole → Nat
  | .entryUp => 0
  | .entryDown => 1
  | .exit => 2

/-- Lane states (08 section 8.1). -/
def laneNumber : LaneState → Nat
  | .closed => 0
  | .open => 1
  | .passage => 2
  | .blocked => 3

/-- Last outcomes, none first (08 section 8.1). -/
def outcomeNumber : Option LaneOutcome → Nat
  | none => 0
  | some .admits => 1
  | some .laneClosed => 2
  | some .queueFull => 3
  | some .unknown => 4
  | some .notValid => 5
  | some .used => 6
  | some .passback => 7
  | some .timeout => 8

/-- Queue states (08 R138). -/
def queueNumber : QueueState → Nat
  | .closed => 0
  | .full => 1
  | .lastCall => 2
  | .open => 3

/-- Line modes (09 section 9.1). -/
def modeNumber : LineMode → Nat
  | .off => 0
  | .automatic => 1
  | .attended => 2
  | .inspection => 3
  | .recovery => 4

/-- Supervision states (09 R159). -/
def supervisionNumber : Supervision → Nat
  | .suspended => 0
  | .running => 1
  | .lost => 2

/-- Wake causes (09 R162). -/
def causeNumber : WakeCause → Nat
  | .link => 0
  | .tension => 1
  | .movement => 2
  | .carLine => 3
  | .power => 4

/-- Fault classes (10 section 10.1). -/
def classNumber : FaultClass → Nat
  | .emergency => 0
  | .service => 1
  | .block => 2
  | .report => 3

/-! ### Records -/

/-- A present fault slot, 13 bytes (11 R185). Its state is sent as 0 for ACTIVE and 1 for ENDED, in the order
of the record's field table (10 R168); that R168 lists ABSENT before them is left out of account: the model's
choice (log 20). -/
def FaultEntry.bytes (e : FaultEntry) : List Byte :=
  u8 e.key.code.number ++ u8 e.key.subject ++ u8 (classNumber e.cls)
    ++ u8 (if e.record.state = .active then 0 else 1)
    ++ u32 e.record.first ++ u32 e.record.last ++ u8 e.record.count

/-- The content of R175. -/
def FaultReport.bytes (r : FaultReport) : List Byte :=
  opt FaultEntry.bytes r.mostUrgent ++ counted FaultEntry.bytes r.present

/-- The content of R44. -/
def HaulReport.bytes (r : HaulReport) : List Byte :=
  u8 (haulNumber r.haul) ++ opt u8 r.stop ++ u8 (dirNumber r.heading) ++ counted u8 r.demandSet
    ++ counted u8 r.forced ++ u8 (cycleNumber r.cycle)
    ++ opt (fun c => u8 c.number) r.waiting

/-- The configuration record: eight items (09 R158). -/
def ConfigRecord.bytes (c : ConfigRecord) : List Byte :=
  flag c.line ++ c.profiles.flatMap flag ++ flag c.tension ++ flag c.lanes ++ flag c.params

/-- The content of a MODE notice (09 R165). -/
def ModeReport.bytes (r : ModeReport) : List Byte :=
  u8 (modeNumber r.mode) ++ r.config.bytes ++ u8 (supervisionNumber r.supervision)

/-- The content of a WAKE notice (09 R165). -/
def WakeReport.bytes (r : WakeReport) : List Byte :=
  counted (fun c => u8 (causeNumber c)) r.causes ++ u16 r.count
    ++ opt (fun x => u8 (causeNumber x.1) ++ u32 x.2) r.latest

/-- The end cause of a trip with its fault code, 2 bytes, zero while absent (03 section 3.5). -/
def EndCause.bytes : EndCause → List Byte
  | .arrival => u8 0 ++ u8 0
  | .hold => u8 1 ++ u8 0
  | .overrun => u8 2 ++ u8 0
  | .fault c => u8 3 ++ u8 c.number
  | .restart => u8 4 ++ u8 0

/-- The fields of an opened trip record from its number to its top line speed, in whole mm/s. -/
def TripRec.bytes (r : TripRec) : List Byte :=
  u16 r.number ++ opt u8 r.origin ++ opt u8 r.target ++ u8 (dirNumber r.dir) ++ u8 (kindNumber r.kind)
    ++ flag r.committed ++ padded 2 (both u8) r.batches ++ flag r.reapproach ++ u32 r.startTime
    ++ u32 (wholeSpeed r.topSpeed).toNat

/-- The trip record; before any trip was opened its fields are zero (03 section 3.5). -/
def Trip.bytes (t : Trip) : List Byte :=
  u8 (tripNumber t.state) ++ padded 18 TripRec.bytes t.rec? ++ padded 2 EndCause.bytes t.cause

/-- TRIP_READ's reply, or a TRIP notice without the counter (11 R182). -/
def TripReport.bytes (r : TripReport) : List Byte :=
  r.trip.bytes ++ (match r.counter with
    | some n => u16 n
    | none => [])

/-- The batch part of a car record (08 R145). -/
def BatchReport.bytes (b : BatchReport) : List Byte := u8 b.stop ++ u8 b.queue ++ u8 b.size

/-- A whole car record (11 R182). -/
def CarReport.bytes (r : CarReport) : List Byte :=
  i32 r.x ++ i32 r.corr ++ opt u8 r.lastMarker ++ opt u8 r.presence ++ u8 (posNumber r.position)
    ++ opt u8 r.load ++ opt u8 r.capacity ++ opt BatchReport.bytes r.batch
    ++ u8 (if r.alive then 0 else 1) ++ flag r.brakeApplied ++ flag r.buttonPressed
    ++ counted u8 r.requests

/-- A brake: its state, output and feedback inputs (11 R182). -/
def BrakeReport.bytes (r : BrakeReport) : List Byte :=
  u8 (brakeNumber r.state) ++ flag r.outputRelease ++ flag r.appliedIn ++ flag r.releasedIn

/-- The cause of a service stop: HOLD, or FAULT with the code; zero while there is none. -/
def StopCause.bytes : StopCause → List Byte
  | .hold => u8 0 ++ u8 0
  | .fault c => u8 1 ++ u8 c.number

/-- A test record; results NONE, PASS, FAIL (05 R84). -/
def testRecordBytes : Option TestRec → List Byte
  | none => leBytes 9 0
  | some r => u8 (if r.pass then 1 else 2) ++ u16 r.day ++ u32 r.slip ++ u8 r.torque
      ++ u8 (dirNumber r.dir)

/-- The test in progress with p_start in mm and the slip in tenths (05 R84). -/
def testBytes (start : Option Int) (slip : Option Nat) (t : Test) : List Byte :=
  u8 t.brake.index ++ u8 t.brake.other.index ++ u8 (dirNumber t.dir) ++ u8 t.torque ++ u16 t.duration
    ++ u8 (phaseNumber t.phase) ++ opt i32 start ++ opt u32 slip

/-- The content of BRAKES_READ (11 R182). -/
def BrakesReport.bytes (r : BrakesReport) : List Byte :=
  both BrakeReport.bytes r.brakes ++ u8 (if r.driveReady then 0 else 1) ++ u8 r.stage
    ++ padded 2 StopCause.bytes r.cause ++ u32 r.ceiling
    ++ testRecordBytes r.records.fst ++ flag r.valid.fst
    ++ testRecordBytes r.records.snd ++ flag r.valid.snd
    ++ opt (testBytes r.testStart r.testSlip) r.test

/-- The flags of a released pair record, zero while the record is empty, and the pending release. -/
def pairFlags (r : Option Released) (pending : Option Nat) : List Byte :=
  padded 2 (fun x => flag x.closeDemand ++ flag x.closureStopped) r ++ opt u8 pending

/-- A pair record: the stop behind a presence flag, which decides the two door sets and the two flags
(06 R95; log 20). -/
def PairReport.bytes (p : PairReport) : List Byte :=
  opt (fun (x : Released) => u8 x.stop) p.record.released ++ padded 2 (fun l => l.flatMap u8) p.sets
    ++ pairFlags p.record.released p.record.pendingStop

/-- The dwell state with its start time, zero unless it runs (06 R108). -/
def Dwell.bytes : Dwell → List Byte
  | .idle => u8 0 ++ u32 0
  | .running start _ => u8 1 ++ u32 start
  | .expired => u8 2 ++ u32 0

/-- The proof interval of a door set: stopped, open proof or close proof, with its start time
(06 R108). -/
def DoorSet.proofBytes (d : DoorSet) : List Byte :=
  match d.proof with
  | none => u8 0 ++ u32 0
  | some p => u8 (if d.state = .opening then 1 else 2) ++ u32 p.start

/-- A whole door set record with its pair (06 R108); the number of the set decides whether the dwell is
present. -/
def DoorReport.bytes (r : DoorReport) : List Byte :=
  u8 r.set ++ u8 (doorNumber r.record.state) ++ u8 (doorCommandNumber r.record.command)
    ++ flag r.inputs.closed ++ flag r.inputs.opened ++ flag r.inputs.obstructed
    ++ r.record.proofBytes ++ u8 r.record.reopen ++ flag r.record.hold ++ opt u32 r.record.lastProof
    ++ opt (fun x => u8 x.1.index ++ opt (fun (y : Released) => u8 y.stop) x.2.1
        ++ pairFlags x.2.1 x.2.2) r.pair
    ++ padded 5 Dwell.bytes r.dwell

/-- The queue fields that QUEUE_READ's reply carries (08 R137). -/
def QueueFields.readBytes (r : QueueFields) : List Byte :=
  u8 (queueNumber r.state) ++ flag r.hostClosed ++ u8 r.offsets.1 ++ u8 r.offsets.2 ++ u8 r.entryCount
    ++ u8 r.admittedCount

/-- The fields of a QUEUE notice (08 R148). -/
def QueueFields.bytes (r : QueueFields) : List Byte :=
  u8 r.number ++ u8 r.station ++ u8 (dirNumber r.dir) ++ r.readBytes

/-- A queue entry, 12 bytes (11 R182). -/
def Entry.bytes (e : Entry) : List Byte :=
  u32 e.serial ++ u8 (ticketNumber e.cls) ++ u8 e.lane ++ flag e.admitted.isSome
    ++ padded 4 u32 e.admitted
    ++ u8 (match e.batch with
        | none => 0
        | some .a => 1
        | some .b => 2)

/-- The content of QUEUE_READ: the queue fields of 08 R137 and the entries with the number sent (11 R182). -/
def QueueReport.bytes (r : QueueReport) : List Byte := r.fields.readBytes ++ counted Entry.bytes r.entries

/-- A whole lane record (08 R148); its state decides whether the passage in progress is present. The model's
choice: of the passage the serial and the time its window started are sent, which 08 R148 names, and neither
the queue entry nor the undo record that 08 section 8.1 lists (log 20). -/
def LaneReport.bytes (r : LaneReport) : List Byte :=
  let l := r.record
  u8 l.id ++ u8 l.station ++ u8 (roleNumber l.role) ++ u8 (laneNumber r.state) ++ flag l.hostClosed
    ++ flag l.jammed ++ padded 8 (fun (p : Passage) => u32 p.serial ++ u32 p.start) l.passage
    ++ opt u32 l.lastSerial ++ u8 (outcomeNumber l.lastOutcome) ++ u16 l.countDay ++ u16 l.admissions
    ++ u16 l.refusals ++ u16 l.passages ++ u16 l.unpaid

/-- The settings of a tension channel that have a value from full reset on (02 section 2.2, R36). -/
def tensionBaseBytes (t : TensionSettings) : List Byte :=
  u8 t.range ++ u8 t.rate ++ u8 t.window ++ u32 t.gain ++ i32 t.offset

/-- The four limits of a tension channel (02 section 2.2). -/
def tensionLimitBytes (t : TensionSettings) : List Byte :=
  i32 t.min ++ i32 t.max ++ i32 t.standbyMin ++ i32 t.standbyMax

/-- The settings of a tension channel as TENSION_SET carries them (02 section 2.2). -/
def tensionSettingsBytes (t : TensionSettings) : List Byte := tensionBaseBytes t ++ tensionLimitBytes t

/-- A tension channel in TENSION_READ's reply (02 R34): the limits, which no other field decides, behind one
presence flag (log 20), and the average at its full width before its validity, which decides it. -/
def ChannelReport.bytes (r : ChannelReport) : List Byte :=
  tensionBaseBytes r.settings ++ opt tensionLimitBytes (if r.limitsKnown then some r.settings else none)
    ++ u8 (tensionNumber r.state) ++ u8 r.readings
    ++ opt (fun x => i32 x.1 ++ u16 x.2) r.latest ++ padded 4 i32 r.average ++ flag r.average.isSome
    ++ flag r.limitCondition

/-- The content of TENSION_READ: the channels, and the imbalance with its validity (02 R34). -/
def TensionReport.bytes (r : TensionReport) : List Byte :=
  both ChannelReport.bytes r.channels ++ padded 4 i32 r.imbalance ++ flag r.imbalance.isSome

/-- The mark of SINGLE, the UP mark and the DOWN mark of RETURN, three fields whose presence the class decides
(07 R114, log 20). -/
def markBytes (cls : TicketClass) (marks : List Bool) : List Byte :=
  match cls with
  | .single => padded 1 flag marks[0]? ++ leBytes 2 0
  | .return => leBytes 1 0 ++ padded 1 flag marks[0]? ++ padded 1 flag marks[1]?
  | .day => leBytes 3 0
  | .staff => leBytes 3 0

/-- The content of TICKET_QUERY's reply (07 R114). -/
def TicketReport.bytes (r : TicketReport) : List Byte :=
  u8 r.block ++ u8 (ticketNumber r.cls) ++ u16 r.firstDay ++ u16 r.lastDay ++ flag r.inDays
    ++ markBytes r.cls r.marks ++ opt (fun (e : PassbackEntry) => u8 e.station ++ u32 e.time) r.passback

/-- The content of STATUS_READ (11 R182). -/
def StatusReport.bytes (r : StatusReport) : List Byte :=
  u8 (posNumber r.position) ++ counted u16 r.stationIds
    ++ flag r.standstill ++ u32 r.lineSpeed ++ opt (fun d => u8 (dirNumber d)) r.lineDir
    ++ both i32 r.estimates
    ++ r.haul.bytes ++ u8 (weatherNumber r.weather) ++ r.pendingAmendments.flatMap flag
    ++ u8 (if r.driveReady then 0 else 1)
    ++ counted DoorReport.bytes r.doors ++ both PairReport.bytes r.pairs
    ++ u16 r.day ++ u32 r.clock
    ++ u8 (modeNumber r.mode) ++ r.config.bytes ++ r.posts.flatMap u8
    ++ u8 (supervisionNumber r.supervision) ++ u16 r.supMs ++ opt u32 r.sinceFrame ++ r.wake.bytes
    ++ opt FaultEntry.bytes r.mostUrgent ++ r.presentPerClass.flatMap u8

/-- The bytes of a reply's body, or of a notice's content (11 R182, R185). -/
def Content.bytes : Content → List Byte
  | .empty => []
  | .ticket r => r.bytes
  | .tripNumber n => u16 n
  | .resumeNumber n => opt u16 n
  | .amended pending => flag pending
  | .removed n => u8 n
  | .status r => r.bytes
  | .car r => r.bytes
  | .queue r => r.bytes
  | .lane r => r.bytes
  | .faults r => r.bytes
  | .trip r => r.bytes
  | .brakes r => r.bytes
  | .tension r => r.bytes
  | .haul r => r.bytes
  | .mode r => r.bytes
  | .wake r => r.bytes
  | .door r => r.bytes
  | .queueFields r => r.bytes

/-! ### Frames (11 section 11.1) -/

/-- The check taken on by one bit of the generator x¹⁶ + x¹² + x⁵ + 1 (11 section 11.1). -/
def crcBit (c : BitVec 16) : BitVec 16 := if c.msb then (c <<< 1) ^^^ 0x1021#16 else c <<< 1

/-- The check taken on by n bits. -/
def crcBits : Nat → BitVec 16 → BitVec 16
  | 0, c => c
  | n + 1, c => crcBits n (crcBit c)

/-- The check taken on by a byte, most significant bit first (11 section 11.1). -/
def crcByte (c : BitVec 16) (b : Byte) : BitVec 16 := crcBits 8 (c ^^^ (b.setWidth 16 <<< 8))

/-- The check of a list of bytes, from 65,535 (11 section 11.1). -/
def crc (l : List Byte) : BitVec 16 := l.foldl crcByte 0xFFFF#16

/-- The notice kind of a key (11 section 11.4). -/
def NoticeKey.kind : NoticeKey → Nat
  | .haul => 224
  | .mode => 225
  | .trip => 226
  | .brakes => 227
  | .fault => 228
  | .wake => 229
  | .car _ => 230
  | .door _ => 231
  | .queue _ => 232
  | .lane _ => 233

/-- The subject index of a key (11 section 11.4). -/
def NoticeKey.subject : NoticeKey → Nat
  | .haul => 0
  | .mode => 0
  | .trip => 0
  | .brakes => 0
  | .fault => 0
  | .wake => 0
  | .car c => c.index
  | .door i => i
  | .queue q => q
  | .lane id => id

/-- The status of a reply: 0 for DONE, or the number of the refusal code (11 section 11.1). -/
def Reply.status (r : Reply) : Nat :=
  match r.refusal with
  | none => 0
  | some c => c.number

/-- The bytes of a frame from its length field to the end of its body (11 section 11.1). -/
def frameCore (kind tag status : Nat) (body : List Byte) : List Byte :=
  u16 (4 + body.length) ++ u8 kind ++ u8 tag ++ u8 0 ++ u8 status ++ body

/-- The bytes that an outgoing frame's check covers (11 section 11.1, R185). -/
def OutFrame.core : OutFrame → List Byte
  | .reply r => frameCore r.kind r.tag r.status r.body.bytes
  | .notice k content => frameCore k.kind 0 0 (u8 k.subject ++ opt Content.bytes content)

/-- An outgoing frame as its bytes on the line (11 section 11.1). -/
def OutFrame.bytes (f : OutFrame) : List Byte := u8 165 ++ f.core ++ u16 (crc f.core).toNat

/-- The time in microseconds that n bytes occupy the line, at 23,040 bytes/s, rounded up to a whole
microsecond (11 section 11.1). -/
def lineTime (n : Nat) : Nat := (n * 1000000 + 23039) / 23040

/-- The time in microseconds that an outgoing frame occupies the line. -/
def OutFrame.time (f : OutFrame) : Nat := lineTime (f.core.length + 3)

end Sys2Proof.Machine
end

