-- ==== Sys2Proof/Machine/Link.lean ====
section
/-!
DEFINITION. The line link block (chapter 11): the transmitter, what an event is, the receive holding and
the taking of requests, the owners of the requests, and the receiver of bytes.
-/

namespace Sys2Proof.Machine

/-! ### The transmitter (11 R184) -/

/-- A frame is put on the line (11 R184). -/
def startFrame (f : OutFrame) (s : State) : State :=
  s.modLl fun l => { l with sending := some { frame := f, due := s.now + f.time } }

/-- What is forgotten once the notice of a key has begun: after BRAKES, the stage 3 that it reported
(log 31). -/
def forgetReported (k : NoticeKey) (s : State) : State :=
  if k = .brakes then s.modBl fun b => { b with stage3 := none } else s

/-- The transmitter, when idle, begins the reply of the slot, else the notice of the head key
(11 R184). -/
def transmit (s : State) : State :=
  match s.ll.sending with
  | some _ => s
  | none =>
    match s.ll.replySlot, s.ll.notices with
    | some r, _ => startFrame (.reply r) (s.modLl fun l => { l with replySlot := none })
    | none, k :: ks =>
      forgetReported k (startFrame (.notice k (s.noticeContent k))
        (s.modLl fun l => { l with notices := ks }))
    | none, [] => s

/-- An event: what it does, the judgement of the conditions that hold at every moment, the marks, and the
look of the transmitter (log 5, log 6, log 7). -/
def event (f : State → State) (s : State) : State := transmit (finish s (f s))

/-! ### Owners of requests -/

/-- DOORS at its owner; operations OPEN 0, CLOSE 1, HOLD 2, for HOLD SET 0 and CLEAR 1 (11 R181). The model's
choice: the third byte of OPEN and CLOSE is ignored, whatever it is (log 16). -/
def ownDoors (operation pair argument : Nat) (s : State) : Answer :=
  match operation, argument with
  | 0, _ => openDoors pair s
  | 1, _ => closeDoors pair s
  | 2, 0 => holdDoors pair s
  | 2, 1 => unholdDoors pair s
  | _, _ => .error .bounds

/-- LANE at its owner; operations OPEN 0, CLOSE 1, CLEAR 2 (11 R181, log 16). -/
def ownLane (lane operation : Nat) (s : State) : Answer :=
  match operation with
  | 0 => setLaneClosed lane false s
  | 1 => setLaneClosed lane true s
  | 2 => clearLane lane s
  | _ => if (s.lane? lane).isSome then .error .bounds else .error .notFound

/-- QUEUE at its owner; operations OPEN 0, CLOSE 1 (11 R181, log 16). -/
def ownQueue (queue operation : Nat) (s : State) : Answer :=
  match operation with
  | 0 => setQueueClosed queue false s
  | 1 => setQueueClosed queue true s
  | _ => if queue < s.gqu.queues.length then .error .bounds else .error .notFound

/-- FORCE_STOP at its owner; operations SET 0, CLEAR 1 (11 R181, log 16). -/
def ownForceStop (stop operation : Nat) (s : State) : Answer :=
  match operation with
  | 0 => forceStop stop true s
  | 1 => forceStop stop false s
  | _ => .error .bounds

/-- A request at its owner, with the effective level at which it is taken (11 R179). -/
def own (level : Nat) (r : Request) (s : State) : Answer :=
  match r with
  | .lineSet x => setLine x s
  | .markersSet limit l => setMarkers limit l s
  | .profileSet p => setProfile p s
  | .tensionSet one two => setTension one two s
  | .lanesSet l => setLanes l s
  | .postsSet l => setPosts l s
  | .paramSet scope p => setParams scope p s
  | .ticketsLoad t => loadTickets t s
  | .ticketsDrop b => dropTickets b s
  | .ticketQuery n => queryTicket n s
  | .daySet day time => setDay day time s
  | .modeSet m => setMode m s
  | .dispatch t d => dispatchTrip t d s
  | .hold => holdTrip s
  | .resume => resumeTrip s
  | .stopNow => stopNow s
  | .tripReset => resetTrip level s
  | .doors o p a => ownDoors o p a s
  | .lane l o => ownLane l o s
  | .queue q o => ownQueue q o s
  | .forceStop k o => ownForceStop k o s
  | .weatherSet w => setWeather w s
  | .amend c g v a d => amendClass c g v a d s
  | .brakeTest b d t u => testBrake b d t u s
  | .faultsAck => ackFaults s
  | .restart => restartLineRequest s
  | .statusRead => .ok (s, .status s.statusReport)
  | .carRead c => readCar c s
  | .queueRead q p => readQueue q p s
  | .laneRead l => readLane l s
  | .faultsRead => .ok (s, .faults s.ft.report)
  | .tripRead => .ok (s, .trip (s.tripReport true))
  | .brakesRead => .ok (s, .brakes (s.brakesReport false))
  | .tensionRead => .ok (s, .tension s.tensionReport)

/-! ### The catalogue (11 R181) -/

/-- The kind of a request (11 R181). -/
def requestKind : Request → Nat
  | .lineSet _ => 1
  | .markersSet _ _ => 2
  | .profileSet _ => 3
  | .tensionSet _ _ => 4
  | .lanesSet _ => 5
  | .postsSet _ => 6
  | .paramSet _ _ => 7
  | .ticketsLoad _ => 8
  | .ticketsDrop _ => 9
  | .ticketQuery _ => 10
  | .daySet _ _ => 11
  | .modeSet _ => 12
  | .dispatch _ _ => 13
  | .hold => 14
  | .resume => 15
  | .stopNow => 16
  | .tripReset => 17
  | .doors _ _ _ => 18
  | .lane _ _ => 19
  | .queue _ _ => 20
  | .forceStop _ _ => 21
  | .weatherSet _ => 22
  | .amend _ _ _ _ _ => 23
  | .brakeTest _ _ _ _ => 24
  | .faultsAck => 25
  | .restart => 26
  | .statusRead => 27
  | .carRead _ => 28
  | .queueRead _ _ => 29
  | .laneRead _ => 30
  | .faultsRead => 31
  | .tripRead => 32
  | .brakesRead => 33
  | .tensionRead => 34

/-- The lists of a request's body have the lengths that its counts and its kind give them (11 R179). -/
def lengthMatches : Request → Bool
  | .lineSet r => decide (r.table.length = r.stations)
  | .paramSet _ p => decide (p.offsets.length = 10)
  | .ticketsLoad t =>
    match ticketClass? t.cls with
    | some c => decide (t.bitmap.length = bitmapLength c t.count)
    | none => false
  | _ => true

/-- What the frame of a request asks: the request, or a body of a wrong length (11 R179). -/
def requestContent (r : Request) : FrameContent :=
  if lengthMatches r then .request r else .badLength (requestKind r)

/-! ### Taking a request (11 R179, R180) -/

/-- A REFUSED reply (11 R180). -/
def refusedReply (kind tag : Nat) (c : RefusalCode) : Reply :=
  { kind := kind, tag := tag, refusal := some c, body := .empty }

/-- A DONE reply (11 R180). -/
def doneReply (kind tag : Nat) (body : Content) : Reply :=
  { kind := kind, tag := tag, refusal := none, body := body }

/-- A frame judged: kind, length, form, authority, mode, and the owner (11 R179, 09 R153): the state that
the owner leaves and the reply. -/
def judgeFrame (f : HeldFrame) (s : State) : State × Reply :=
  match f.content with
  | .unknownKind _ => (s, refusedReply 255 f.header.tag .unknownKind)
  | .badLength k => (s, refusedReply (k + 128) f.header.tag .format)
  | .request r =>
    match s.judge f.header r with
    | some c => (s, refusedReply (requestKind r + 128) f.header.tag c)
    | none =>
      match own (s.effectiveLevel f.header) r s with
      | .ok (t, body) => (t, doneReply (requestKind r + 128) f.header.tag body)
      | .error c => (s, refusedReply (requestKind r + 128) f.header.tag c)

/-- The reply slot takes a reply (11 R179). -/
def placeReply (r : Reply) (s : State) : State := s.modLl fun l => { l with replySlot := some r }

/-- The oldest frame leaves the receive holding (11 R179). -/
def dropHeld (s : State) : State := s.modLl fun l => { l with holding := l.holding.drop 1 }

/-- Frame f is taken, as one event: judged, its reply placed at the event's end (11 R179). -/
def take (f : HeldFrame) (s : State) : State :=
  let x := judgeFrame f (dropHeld s)
  transmit (placeReply x.2 (finish s x.1))

/-- Frames are taken while the holding has one and the reply slot is empty, at most n of them (11 R179).
A reply that the transmitter cannot begin keeps the slot, so two rounds suffice for a holding of two. -/
def serveWhile : Nat → State → State
  | 0, s => s
  | n + 1, s =>
    match s.ll.holding, s.ll.replySlot with
    | f :: _, none => serveWhile n (take f s)
    | _, _ => s

/-- Every frame that can be taken now is taken (11 R179). -/
def serve (s : State) : State := serveWhile 2 s

/-- A checked frame enters the receive holding as a valid frame, or is dropped when two are held
(11 R178, 09 R159). -/
def receive (f : HeldFrame) (s : State) : State :=
  if s.ll.holding.length < 2 then
    validFrame (s.modLl fun l => { l with holding := l.holding ++ [f] })
  else s

/-- A checked frame arrives: it is received, which is one event, and taken as soon as it can be, which is
another (11 R178, R179, log 1). -/
def frameArrives (f : HeldFrame) (s : State) : State := serve (event (receive f) s)

/-- The frame of a request arrives. -/
def requestArrives (h : Header) (r : Request) (s : State) : State :=
  frameArrives { header := h, content := requestContent r } s

/-! ### Reading a body (11 R181) -/

/-- A reader of bytes: what it read and the bytes left, or none when they do not suffice. -/
abbrev Reader := StateT (List Byte) Option

/-- One byte. -/
def readByte : Reader Byte := fun l =>
  match l with
  | [] => none
  | b :: bs => some (b, bs)

/-- A field of k bytes, least significant byte first. -/
def readNat : Nat → Reader Nat
  | 0 => pure 0
  | k + 1 => do
    let b ← readByte
    let n ← readNat k
    pure (b.toNat + 256 * n)

/-- A signed field of 4 bytes. -/
def readInt : Reader Int := do
  let n ← readNat 4
  pure (if n < 2147483648 then (n : Int) else (n : Int) - 4294967296)

/-- n things in a row. -/
def readMany {α : Type} (p : Reader α) : Nat → Reader (List α)
  | 0 => pure []
  | n + 1 => do
    let x ← p
    let xs ← readMany p n
    pure (x :: xs)

/-- A list behind its 1-byte count. -/
def readCounted {α : Type} (p : Reader α) : Reader (List α) := do
  let n ← readNat 1
  readMany p n

/-- A station record (01 section 1.1, log 30). -/
def readStation : Reader StationRec := do
  let id ← readNat 2
  let position ← readNat 4
  let doorSet ← readNat 1
  let sensor ← readNat 1
  let lanes ← readCounted (readNat 1)
  pure { id := id, position := position, doorSet := doorSet, sensor := sensor, lanes := lanes }

/-- The line record (01 section 1.1). -/
def readLine : Reader LineRec := do
  let length ← readNat 4
  let stations ← readNat 1
  let table ← readMany readStation stations
  let loopStart ← readNat 4
  let loopEnd ← readNat 4
  let window ← readNat 2
  let margin ← readNat 2
  let driveCpm ← readNat 2
  let sheaveCpm ← readNat 2
  pure { length := length, stations := stations, table := table, loopStart := loopStart,
         loopEnd := loopEnd, window := window, margin := margin, driveCpm := driveCpm,
         sheaveCpm := sheaveCpm }

/-- A marker record (01 section 1.5). -/
def readMarker : Reader MarkerRec := do
  let position ← readNat 4
  let track ← readNat 1
  let window ← readNat 2
  pure { position := position, track := track, window := window }

/-- A segment (03 section 3.1). -/
def readSegment : Reader SegmentRec := do
  let start ← readNat 4
  let ceiling ← readNat 2
  let accel ← readNat 2
  let decel ← readNat 2
  pure { start := start, ceiling := ceiling, accel := accel, decel := decel }

/-- The body of PROFILE_SET (03 R37). -/
def readProfile : Reader ProfileBody := do
  let cls ← readNat 1
  let lineMax ← readNat 2
  let inspection ← readNat 2
  let segments ← readCounted readSegment
  pure { cls := cls, lineMax := lineMax, inspection := inspection, segments := segments }

/-- The settings of a tension channel (02 section 2.2). -/
def readTension : Reader TensionSettings := do
  let range ← readNat 1
  let rate ← readNat 1
  let window ← readNat 1
  let gain ← readNat 4
  let offset ← readInt
  let min ← readInt
  let max ← readInt
  let standbyMin ← readInt
  let standbyMax ← readInt
  pure { range := range, rate := rate, window := window, gain := gain, offset := offset, min := min,
         max := max, standbyMin := standbyMin, standbyMax := standbyMax }

/-- A lane description (08 R127). -/
def readLaneDesc : Reader LaneDesc := do
  let lane ← readNat 1
  let station ← readNat 1
  let role ← readNat 1
  pure { lane := lane, station := station, role := role }

/-- Two 1-byte fields. -/
def readPair : Reader (Nat × Nat) := do
  let x ← readNat 1
  let y ← readNat 1
  pure (x, y)

/-- The fields of PARAM_SET behind its scope (09 R157). -/
def readParams : Reader ParamBody := do
  let dwell ← readNat 1
  let warning ← readNat 2
  let passageTimeout ← readNat 2
  let passback ← readNat 2
  let supervision ← readNat 2
  let capacity ← readNat 1
  let mass ← readNat 1
  let imb1 ← readNat 4
  let imb2 ← readNat 4
  let imb3 ← readNat 4
  let tolerance ← readNat 2
  let offsets ← readMany readPair 10
  pure { dwell := dwell, warning := warning, passageTimeout := passageTimeout, passback := passback,
         supervision := supervision, capacity := capacity, mass := mass, imb1 := imb1, imb2 := imb2,
         imb3 := imb3, tolerance := tolerance, offsets := offsets }

/-- The body of TICKETS_LOAD; no body when the class gives no bitmap length (11 R179). -/
def readTickets : Reader TicketBody := do
  let block ← readNat 1
  let first ← readNat 4
  let count ← readNat 2
  let cls ← readNat 1
  let firstDay ← readNat 2
  let lastDay ← readNat 2
  match ticketClass? cls with
  | none => failure
  | some c =>
    let bitmap ← readMany readByte (bitmapLength c count)
    pure { block := block, first := first, count := count, cls := cls, firstDay := firstDay,
           lastDay := lastDay, bitmap := bitmap }

/-- The body of a request of a kind, from kind 1 to 17 (11 R181). -/
def readEarly (kind : Nat) : Reader Request :=
  match kind with
  | 1 => do pure (.lineSet (← readLine))
  | 2 => do pure (.markersSet (← readNat 2) (← readCounted readMarker))
  | 3 => do pure (.profileSet (← readProfile))
  | 4 => do pure (.tensionSet (← readTension) (← readTension))
  | 5 => do pure (.lanesSet (← readCounted readLaneDesc))
  | 6 => do pure (.postsSet (← readCounted readPair))
  | 7 => do pure (.paramSet (← readNat 1) (← readParams))
  | 8 => do pure (.ticketsLoad (← readTickets))
  | 9 => do pure (.ticketsDrop (← readNat 1))
  | 10 => do pure (.ticketQuery (← readNat 4))
  | 11 => do pure (.daySet (← readNat 2) (← readNat 4))
  | 12 => do pure (.modeSet (← readNat 1))
  | 13 => do pure (.dispatch (← readNat 1) (← readNat 1))
  | 14 => pure .hold
  | 15 => pure .resume
  | 16 => pure .stopNow
  | 17 => pure .tripReset
  | _ => failure

/-- The body of a request of a kind, from kind 18 to 34 (11 R181). -/
def readLate (kind : Nat) : Reader Request :=
  match kind with
  | 18 => do pure (.doors (← readNat 1) (← readNat 1) (← readNat 1))
  | 19 => do pure (.lane (← readNat 1) (← readNat 1))
  | 20 => do pure (.queue (← readNat 1) (← readNat 1))
  | 21 => do pure (.forceStop (← readNat 1) (← readNat 1))
  | 22 => do pure (.weatherSet (← readNat 1))
  | 23 => do pure (.amend (← readNat 1) (← readNat 1) (← readNat 2) (← readNat 2) (← readNat 2))
  | 24 => do pure (.brakeTest (← readNat 1) (← readNat 1) (← readNat 1) (← readNat 2))
  | 25 => pure .faultsAck
  | 26 => pure .restart
  | 27 => pure .statusRead
  | 28 => do pure (.carRead (← readNat 1))
  | 29 => do pure (.queueRead (← readNat 1) (← readNat 1))
  | 30 => do pure (.laneRead (← readNat 1))
  | 31 => pure .faultsRead
  | 32 => pure .tripRead
  | 33 => pure .brakesRead
  | 34 => pure .tensionRead
  | _ => failure

/-- The body of a request of a kind (11 R181). -/
def readRequest (kind : Nat) : Reader Request := if kind < 18 then readEarly kind else readLate kind

/-- What a frame of a kind with a body asks (11 R179): the body must be read whole. -/
def parseBody (kind : Nat) (body : List Byte) : FrameContent :=
  if kind < 1 ∨ 34 < kind then .unknownKind kind
  else match (readRequest kind).run body with
  | some (r, []) => .request r
  | _ => .badLength kind

/-! ### The receiver (11 R177, R178) -/

/-- The number that a list of bytes gives, least significant byte first. -/
def bytesValue : List Byte → Nat
  | [] => 0
  | b :: bs => b.toNat + 256 * bytesValue bs

/-- The frame of the bytes from its length field to the end of its body. -/
def heldOf (core : List Byte) : HeldFrame :=
  let at' : Nat → Nat := fun i => ((core[i]?).getD 0#8).toNat
  { header := { tag := at' 3, post := at' 4, level := at' 5 },
    content := parseBody (at' 2) (core.drop 6) }

/-- The receiver becomes HUNTING (11 R177). -/
def hunt (s : State) : State := s.modLl fun l => { l with rx := none, gapDue := none }

/-- The receiver is IN FRAME with the bytes received, and the gap interval starts (11 R177). -/
def inFrame (bytes : List Byte) (s : State) : State :=
  s.modLl fun l => { l with rx := some bytes, gapDue := some (s.now + 50000) }

/-- A complete frame, without its start byte, is judged by its check (11 R178). -/
def checkFrame (bytes : List Byte) (s : State) : State :=
  let core := bytes.take (bytes.length - 2)
  if bytesValue (bytes.drop (bytes.length - 2)) = (crc core).toNat then receive (heldOf core) s else s

/-- A byte at the receiver (11 R177). -/
def byteIn (b : Byte) (s : State) : State :=
  match s.ll.rx with
  | none => if b = 165#8 then inFrame [] s else s
  | some old =>
    let bytes := old ++ [b]
    let len := bytesValue (bytes.take 2)
    if bytes.length < 2 then inFrame bytes s
    else if len < 4 ∨ 1064 < len then hunt s
    else if bytes.length < len + 4 then inFrame bytes s
    else checkFrame bytes (hunt s)

/-- A byte arrives on the line link, and a frame that it completes is taken when it can be (11 R177 to
R179). -/
def linkByte (b : Byte) (s : State) : State := serve (event (byteIn b) s)

/-- The gap interval expires: the bytes received are dropped (11 R177). -/
def gapExpires (s : State) : State := hunt s

/-- The transmitter has sent its frame and is idle (11 R184). -/
def idle (s : State) : State := s.modLl fun l => { l with sending := none }

end Sys2Proof.Machine
end

