-- ==== Sys2Proof/Machine/Requests.lean ====
section
/-!
DEFINITION. The meanings of the host's requests: each is the arrival of the request's checked frame, which
the line link receives and takes when it can, and judges at its owner (11 R178 to R180; 09 R153; log 1).
The rules of each owner stand in the files of the blocks.
-/

namespace Sys2Proof.Machine

/-- The outcome of every command: it leaves a next state (log 27). -/
abbrev Result := Host.Outcome State Fault Refusal

/-- LINE_SET (01 R1 to R3). -/
def execLineSet (h : Header) (r : LineRec) (s : State) : Result :=
  .next (requestArrives h (.lineSet r) s)

/-- MARKERS_SET (01 R12). -/
def execMarkersSet (h : Header) (limit : Nat) (markers : List MarkerRec) (s : State) : Result :=
  .next (requestArrives h (.markersSet limit markers) s)

/-- PROFILE_SET (03 R37). -/
def execProfileSet (h : Header) (p : ProfileBody) (s : State) : Result :=
  .next (requestArrives h (.profileSet p) s)

/-- TENSION_SET (02 R28). -/
def execTensionSet (h : Header) (one two : TensionSettings) (s : State) : Result :=
  .next (requestArrives h (.tensionSet one two) s)

/-- LANES_SET (08 R127). -/
def execLanesSet (h : Header) (lanes : List LaneDesc) (s : State) : Result :=
  .next (requestArrives h (.lanesSet lanes) s)

/-- POSTS_SET (09 R156). -/
def execPostsSet (h : Header) (pairs : List (Nat × Nat)) (s : State) : Result :=
  .next (requestArrives h (.postsSet pairs) s)

/-- PARAM_SET of scope ALL (09 R157). -/
def execParamSetAll (h : Header) (p : ParamBody) (s : State) : Result :=
  .next (requestArrives h (.paramSet 0 p) s)

/-- PARAM_SET of scope TIMING (09 R157). -/
def execParamSetTiming (h : Header) (p : ParamBody) (s : State) : Result :=
  .next (requestArrives h (.paramSet 1 p) s)

/-- TICKETS_LOAD (07 R110, R111). -/
def execTicketsLoad (h : Header) (t : TicketBody) (s : State) : Result :=
  .next (requestArrives h (.ticketsLoad t) s)

/-- TICKETS_DROP (07 R112). -/
def execTicketsDrop (h : Header) (block : Nat) (s : State) : Result :=
  .next (requestArrives h (.ticketsDrop block) s)

/-- TICKET_QUERY (07 R114). -/
def execTicketQuery (h : Header) (serial : Nat) (s : State) : Result :=
  .next (requestArrives h (.ticketQuery serial) s)

/-- DAY_SET (07 R123). -/
def execDaySet (h : Header) (day time : Nat) (s : State) : Result :=
  .next (requestArrives h (.daySet day time) s)

/-- MODE_SET (09 R150, R151). -/
def execModeSet (h : Header) (mode : Nat) (s : State) : Result :=
  .next (requestArrives h (.modeSet mode) s)

/-- DISPATCH (03 R50, R51). -/
def execDispatch (h : Header) (target direction : Nat) (s : State) : Result :=
  .next (requestArrives h (.dispatch target direction) s)

/-- HOLD (03 R59). -/
def execHold (h : Header) (s : State) : Result :=
  .next (requestArrives h .hold s)

/-- RESUME (03 R60). -/
def execResume (h : Header) (s : State) : Result :=
  .next (requestArrives h .resume s)

/-- STOP_NOW (04 R78). -/
def execStopNow (h : Header) (s : State) : Result :=
  .next (requestArrives h .stopNow s)

/-- TRIP_RESET (04 R79 to R81). -/
def execTripReset (h : Header) (s : State) : Result :=
  .next (requestArrives h .tripReset s)

/-- DOORS OPEN (06 R98). -/
def execDoorsOpen (h : Header) (pair : Nat) (s : State) : Result :=
  .next (requestArrives h (.doors 0 pair 0) s)

/-- DOORS CLOSE (06 R102). -/
def execDoorsClose (h : Header) (pair : Nat) (s : State) : Result :=
  .next (requestArrives h (.doors 1 pair 0) s)

/-- DOORS HOLD SET (06 R101). -/
def execDoorsHoldSet (h : Header) (pair : Nat) (s : State) : Result :=
  .next (requestArrives h (.doors 2 pair 0) s)

/-- DOORS HOLD CLEAR (06 R101). -/
def execDoorsHoldClear (h : Header) (pair : Nat) (s : State) : Result :=
  .next (requestArrives h (.doors 2 pair 1) s)

/-- LANE OPEN (08 R129). -/
def execLaneOpen (h : Header) (lane : Nat) (s : State) : Result :=
  .next (requestArrives h (.lane lane 0) s)

/-- LANE CLOSE (08 R129). -/
def execLaneClose (h : Header) (lane : Nat) (s : State) : Result :=
  .next (requestArrives h (.lane lane 1) s)

/-- LANE CLEAR (08 R129). -/
def execLaneClear (h : Header) (lane : Nat) (s : State) : Result :=
  .next (requestArrives h (.lane lane 2) s)

/-- QUEUE OPEN (08 R139). -/
def execQueueOpen (h : Header) (queue : Nat) (s : State) : Result :=
  .next (requestArrives h (.queue queue 0) s)

/-- QUEUE CLOSE (08 R139). -/
def execQueueClose (h : Header) (queue : Nat) (s : State) : Result :=
  .next (requestArrives h (.queue queue 1) s)

/-- FORCE_STOP SET (03 R48). -/
def execForceStopSet (h : Header) (stop : Nat) (s : State) : Result :=
  .next (requestArrives h (.forceStop stop 0) s)

/-- FORCE_STOP CLEAR (03 R48). -/
def execForceStopClear (h : Header) (stop : Nat) (s : State) : Result :=
  .next (requestArrives h (.forceStop stop 1) s)

/-- WEATHER_SET (03 R41). -/
def execWeatherSet (h : Header) (weather : Nat) (s : State) : Result :=
  .next (requestArrives h (.weatherSet weather) s)

/-- AMEND (03 R39, R40). -/
def execAmend (h : Header) (cls segment ceiling accel decel : Nat) (s : State) : Result :=
  .next (requestArrives h (.amend cls segment ceiling accel decel) s)

/-- BRAKE_TEST (05 R85, R86). -/
def execBrakeTest (h : Header) (brake direction torque duration : Nat) (s : State) : Result :=
  .next (requestArrives h (.brakeTest brake direction torque duration) s)

/-- FAULTS_ACK (10 R173). -/
def execFaultsAck (h : Header) (s : State) : Result :=
  .next (requestArrives h .faultsAck s)

/-- RESTART (09 R164). -/
def execRestart (h : Header) (s : State) : Result :=
  .next (requestArrives h .restart s)

/-- STATUS_READ (11 R182). -/
def execStatusRead (h : Header) (s : State) : Result :=
  .next (requestArrives h .statusRead s)

/-- CAR_READ (11 R182). -/
def execCarRead (h : Header) (car : Nat) (s : State) : Result :=
  .next (requestArrives h (.carRead car) s)

/-- QUEUE_READ (11 R182). -/
def execQueueRead (h : Header) (queue place : Nat) (s : State) : Result :=
  .next (requestArrives h (.queueRead queue place) s)

/-- LANE_READ (11 R182). -/
def execLaneRead (h : Header) (lane : Nat) (s : State) : Result :=
  .next (requestArrives h (.laneRead lane) s)

/-- FAULTS_READ (11 R182). -/
def execFaultsRead (h : Header) (s : State) : Result :=
  .next (requestArrives h .faultsRead s)

/-- TRIP_READ (11 R182). -/
def execTripRead (h : Header) (s : State) : Result :=
  .next (requestArrives h .tripRead s)

/-- BRAKES_READ (11 R182). -/
def execBrakesRead (h : Header) (s : State) : Result :=
  .next (requestArrives h .brakesRead s)

/-- TENSION_READ (11 R182). -/
def execTensionRead (h : Header) (s : State) : Result :=
  .next (requestArrives h .tensionRead s)

/-- A checked frame whose kind is no request kind (11 R179). -/
def execUnknownKindFrame (h : Header) (kind : Nat) (s : State) : Result :=
  .next (frameArrives { header := h, content := .unknownKind kind } s)

end Sys2Proof.Machine
end

