-- ==== Sys2Proof/Machine/Events.lean ====
section
/-!
DEFINITION. The meanings of what reaches the part from the field and of the two resets: edges, presence
and marker inputs, conversions, brake feedback, the drive, the car lines, platform doors, lanes and bytes.
An input that reports the value it already has is no event (log 17).
-/

namespace Sys2Proof.Machine

/-! ### Movement -/

/-- What the haul controller and the brake proving unit judge when the positions have changed since
`before`: crossings, the approach, the commit and the slip of a pulse (03 R40, R54, R55; 05 R87;
log 22). -/
def judgeMovement (before s : State) : State :=
  judgeSlip (judgeCommit (judgeApproach (judgeCrossing (before.carPos .a) s)))

/-- A DRIVE edge counted by LGP, with what follows the positions (01 R6, R16, R17; 09 R163). The model's choice:
overtravel is judged before what the movement of a trip or of a test comes to. An edge that meets overtravel and
the slip of a brake test aborts the test without a record (05 R87, R90), and an edge that meets overtravel and
500 mm of travel leaves the trip uncommitted (03 R54; log 44). -/
def driveEdge (d : Dir) (s : State) : State :=
  judgeMovement s (standbyEdge d (followCars (s.carPos .a) (s.carPos .b) (countEdge d s)))

/-- An edge of an encoder (02 R20, 01 R6). SHEAVE edges do not reach LGP. The line speed of the edge is taken
into the trip record before the edge is judged (03 R45). -/
def takeEdge (e : Encoder) (d : Dir) (s : State) : State :=
  let s1 := followTopSpeed (speedEdge e d s)
  match e with
  | .drive => driveEdge d s1
  | .sheave => s1

/-- A quadrature edge of an encoder, a time after the last event (02 R20, 01 R6). -/
def execEncoderEdge (e : Encoder) (d : Dir) (elapsed : Nat) (s : State) : Result :=
  .next (event (fun t => takeEdge e d (passTime elapsed t)) s)

/-- Time passes with no edge, and the estimates are judged as they stand then (02 R21, R25, R26;
04 R70). -/
def execEstimateDecay (elapsed : Nat) (s : State) : Result := .next (event (passTime elapsed) s)

/-- Time passes and an effective ceiling falls, and the line speed is judged against it (03 R40, R42;
04 R70). -/
def execEffectiveCeilingFall (elapsed : Nat) (s : State) : Result := .next (event (passTime elapsed) s)

/-! ### Presence and markers (chapter 1) -/

/-- Presence input i is that of some station record (01 R4). -/
def State.presenceNamed (s : State) (i : Nat) : Bool :=
  match s.lgp.line with
  | none => false
  | some r => r.table.any (fun st => decide (st.sensor = i))

/-- Presence input i takes value v: the fields are formed, a pair that an unreferenced trip looks for is
seen, and referencing is evaluated (01 R4, R9; 03 R58). An input that no station record names is ignored: it
keeps its value for a later line record and does nothing else. -/
def presence (i : Nat) (v : PresenceReport) (s : State) : State :=
  let s0 := s.modLgp fun g => { g with presenceIn := updateAt i (fun _ => v) g.presenceIn }
  if s.presenceNamed i then
    judgeMovement s (evaluateReferencing (judgePairSeen s.completePair (formPresences s0)))
  else s0

/-- A presence input takes a value (01 R4). -/
def execPresenceChange (i : Fin 6) (v : PresenceReport) (s : State) : Result :=
  if s.lgp.presenceIn[i.val]? = some v then .next s else .next (event (presence i.val v) s)

/-- A pulse on marker input j: ignored while the position state is not REFERENCED and at an input without a
record (01 R13). -/
def takePulse (j : Nat) (s : State) : State :=
  if s.lgp.position = .referenced ∧ j < s.lgp.markers.length then judgeMovement s (pulse j s) else s

/-- A pulse on a marker input (01 R13 to R15). -/
def execMarkerPulse (j : Fin 24) (s : State) : Result := .next (event (takePulse j.val) s)

/-! ### Tension, brakes and drive -/

/-- A tension channel completes a conversion (02 R29 to R33, R35). -/
def execTensionConversion (c : Chan) (raw : Fin 65536) (s : State) : Result :=
  .next (event (convert c raw.val) s)

/-- A feedback input of a brake takes a value (04 R65 to R67). -/
def execBrakeFeedbackChange (b : Brake) (x : FeedbackInput) (v : Bool) (s : State) : Result :=
  if (s.bl.brakes.brake b).withInput x v = s.bl.brakes.brake b then .next s
  else .next (event (feedback b x v) s)

/-- The drive reports READY or FAULT (04 R68). -/
def execDriveReportChange (ready : Bool) (s : State) : Result :=
  if s.bl.driveReady = ready then .next s else .next (event (driveReport ready) s)

/-! ### Car lines (03 R62, 06 R94) -/

/-- A car reports its track brake (03 R62). -/
def execCarTrackBrakeReport (c : Car) (applied : Bool) (s : State) : Result :=
  .next (event (trackBrakeReport c applied) s)

/-- A car reports its emergency button (03 R62). -/
def execCarEmergencyButtonReport (c : Car) (pressed : Bool) (s : State) : Result :=
  .next (event (buttonReport c pressed) s)

/-- A car asks to stop at a station (03 R62). -/
def execCarStopRequest (c : Car) (station : Nat) (s : State) : Result :=
  .next (event (stopRequest c station) s)

/-- A car reports the three inputs of its doors (06 R94). -/
def execCarDoorReport (c : Car) (closed opened obstructed : Bool) (s : State) : Result :=
  .next (event (fun t => doorReport c closed opened obstructed (carMessage c t)) s)

/-! ### Platform doors and lanes -/

/-- An input of a station's platform doors takes a value (06 R94). -/
def execPlatformDoorInputChange (station : Fin 6) (x : DoorInput) (v : Bool) (s : State) : Result :=
  let i := s.doorIn (station.val + 2)
  let same := match x with
    | .closedAndLocked => i.closed
    | .fullyOpen => i.opened
    | .obstruction => i.obstructed
  if same = v then .next s else .next (event (doorInput (station.val + 2) x v) s)

/-- A ticket is presented at a lane (08 R132, 07 R115). -/
def execLanePresentation (lane : Fin 16) (serial : Fin 4294967296) (s : State) : Result :=
  .next (event (present lane.val serial.val) s)

/-- A lane's passage sensor reports a passage (08 R133, R135, R136). -/
def execLanePassage (lane : Fin 16) (s : State) : Result := .next (event (passLane lane.val) s)

/-- A leaf jam input is asserted (08 R130). -/
def execLeafJam (lane : Fin 16) (s : State) : Result := .next (event (jamLane lane.val) s)

/-- A leaf jam input is withdrawn (08 R130). -/
def execLeafJamWithdrawn (lane : Fin 16) (s : State) : Result := .next (event (unjamLane lane.val) s)

/-! ### Line link, resets -/

/-- A byte arrives on the line link (11 R177, R178). -/
def execLinkByte (b : Byte) (s : State) : Result := .next (linkByte b s)

/-- Power-up, undervoltage or the reset line (09 R166, 11 R186; log 28). -/
def execFullReset (s : State) : Result := .next (fullReset s)

/-- The rising edge of the restart line: a line restart in any haul state (09 R164). -/
def execRestartLine (s : State) : Result := .next (event lineRestart s)

end Sys2Proof.Machine
end

