-- ==== Sys2Proof/Machine/Expiries.lean ====
section
/-!
DEFINITION. The meanings of the expiries of the part's intervals. The command of an expiry brings the time
at which its interval ends; while the interval is not running it does nothing (log 3).
-/

namespace Sys2Proof.Machine

/-- The expiry of an interval that ends at `due`: time moves on to it, and f is done in one event. -/
def expire (due : Option Nat) (f : State → State) (s : State) : State :=
  match due with
  | none => s
  | some t => event (fun x => f (passUntil t x)) s

/-! ### Speed, tension and the stop schedule -/

/-- The end of the quiet interval of a channel (02 R22). -/
def State.quietDue (s : State) (e : Encoder) : Option Nat := (s.stu.speed.encoder e).quietDue

/-- Standstill begins: the haul controller and the brake ladder judge by it, and then referencing is
evaluated (02 R23; 03 R56; 04 R77; 01 R9). 03 R56 gives this order for the judgement of an arrival. The model's
choice: the end of a service stop comes before the referencing too, so a disagreement found then trips a haul
whose trip is already SUSPENDED or ABANDONED by its stop cause (log 46). -/
def beginStandstill (s : State) : State :=
  judgeMovement s (evaluateReferencing ((haulAtStandstill s).modLgp fun g => { g with
    freshNeeded := false }))

/-- A channel becomes quiet (02 R22, R23). -/
def quiet (e : Encoder) (s : State) : State :=
  let s1 := modSpeed e SpeedChannel.silence s
  if s1.standstill then beginStandstill s1 else s1

/-- The quiet interval of a channel expires (02 R22, R23). -/
def execQuietExpiry (e : Encoder) (s : State) : Result := .next (expire (s.quietDue e) (quiet e) s)

/-- The magnitude disagreement interval expires (02 R25). -/
def execDisagreementIntervalExpiry (s : State) : Result :=
  .next (expire s.stu.disagreeDue disagreementExpires s)

/-- The end of the missing-conversion interval of a channel (02 R31). -/
def State.conversionDue (s : State) (c : Chan) : Option Nat := (s.stu.tension.chan c).missingDue

/-- The missing-conversion interval of a channel expires (02 R31, R32). -/
def execMissingConversionExpiry (c : Chan) (s : State) : Result :=
  .next (expire (s.conversionDue c) (conversionMissing c) s)

/-- The next 500 ms point of a service stop while it is the sample (04 R74). -/
def State.sampleDue (s : State) : Option Nat :=
  s.bl.stop.bind (fun r => if r.sample.isNone then some r.nextDue else none)

/-- The next 500 ms point of a service stop while it is a check (04 R74). -/
def State.checkDue (s : State) : Option Nat :=
  s.bl.stop.bind (fun r => if r.sample.isSome then some r.nextDue else none)

/-- The 500 ms sample of a service stop (04 R74). -/
def execEscalationSample (s : State) : Result := .next (expire s.sampleDue escalationSample s)

/-- The last speed sampled in a service stop (04 R74). -/
def State.lastSample (s : State) : Nat := (s.bl.stop.bind (fun r => r.sample)).getD 0

/-- A 500 ms escalation check of a service stop (04 R74 to R76). -/
def execEscalationCheck (s : State) : Result :=
  .next (expire s.checkDue (escalationCheck s.lastSample) s)

/-! ### Brakes, departure and test -/

/-- The end of the running proof interval of brake b in a state of the brake (04 section 4.1). -/
def State.brakeDue (s : State) (b : Brake) (x : BrakeState) : Option Nat :=
  let r := s.bl.brakes.brake b
  if r.state = x then r.proofDue else none

/-- A release proof interval expires (04 R65). -/
def execReleaseProofExpiry (b : Brake) (s : State) : Result :=
  .next (expire (s.brakeDue b .releasing) (releaseProofExpires b) s)

/-- An apply proof interval expires (04 R66). -/
def execApplyProofExpiry (b : Brake) (s : State) : Result :=
  .next (expire (s.brakeDue b .applying) (applyProofExpires b) s)

/-- The departure warning interval expires (03 R51, R53). -/
def execWarningExpiry (s : State) : Result := .next (expire s.hc.warnDue warningExpires s)

/-- The brake test pulse interval expires (05 R87, R88). -/
def execPulseExpiry (s : State) : Result := .next (expire s.bpu.pulseDue pulseExpires s)

/-- The end of the silence interval of a car line (03 R62). -/
def State.silenceDue (s : State) (c : Car) : Option Nat := (s.hc.carLine.car c).silenceDue

/-- The silence interval of a car line expires (03 R62). -/
def execCarLineSilenceExpiry (c : Car) (s : State) : Result :=
  .next (expire (s.silenceDue c) (carSilent c) s)

/-! ### Doors -/

/-- The end of the running proof interval of door set i in a state of the set (06 R99, R103). -/
def State.doorDue (s : State) (i : Nat) (x : DoorState) : Option Nat :=
  match s.dc.sets[i]? with
  | some d => if d.state = x then d.proof.map Proof.due else none
  | none => none

/-- The open proof interval of a door set expires (06 R99). -/
def execOpenProofExpiry (set : Fin 8) (s : State) : Result :=
  .next (expire (s.doorDue set.val .opening) (openProofExpires set.val) s)

/-- The close proof interval of a door set expires (06 R104). -/
def execCloseProofExpiry (set : Fin 8) (s : State) : Result :=
  .next (expire (s.doorDue set.val .closing) (closeProofExpires set.val) s)

/-- The end of the dwell interval (06 R100). -/
def State.dwellDue (s : State) : Option Nat :=
  match s.dc.dwell with
  | .running _ due => some due
  | .idle => none
  | .expired => none

/-- The dwell interval expires (06 R100, R103). -/
def execDwellExpiry (s : State) : Result := .next (expire s.dwellDue dwellExpires s)

/-! ### Lanes, loads, supervision, link and clock -/

/-- The end of the passage interval of a lane (08 R134). -/
def State.passageDue (s : State) (lane : Nat) : Option Nat :=
  ((s.lane? lane).bind (fun l => l.passage)).map Passage.due

/-- The passage interval of a lane expires (08 R134, 07 R119). -/
def execPassageTimeout (lane : Fin 16) (s : State) : Result :=
  .next (expire (s.passageDue lane.val) (timeoutLane lane.val) s)

/-- The load cross-check settle interval expires (08 R146). -/
def execSettleIntervalExpiry (s : State) : Result := .next (expire s.gqu.settleDue settleExpires s)

/-- The supervision interval expires (09 R159, R160). -/
def execSupervisionExpiry (s : State) : Result := .next (expire s.mau.supDue supervisionLoss s)

/-- The gap interval of the receiver expires (11 R177). -/
def execGapIntervalExpiry (s : State) : Result := .next (expire s.ll.gapDue gapExpires s)

/-- The end of the frame on the line (11 R184). -/
def State.sendDue (s : State) : Option Nat := s.ll.sending.map Sending.due

/-- The transmitter finishes the frame that it sends: it looks again, and a frame that waits for the reply
slot is taken (11 R179, R184). -/
def execFrameSendEnd (s : State) : Result :=
  match s.sendDue with
  | none => .next s
  | some t => .next (serve (event (fun x => idle (passUntil t x)) s))

/-- The time at which the line clock reaches 4,294,967,295 ms, none once it has (07 R124). -/
def State.clockStopDue (s : State) : Option Nat :=
  if s.tt.clock < 4294967295 then some (s.now + ((4294967295 - s.tt.clock) * 1000 - s.tt.clockUs)) else none

/-- The line clock reaches its end and stops there (07 R124). -/
def execLineClockStop (s : State) : Result := .next (expire s.clockStopDue id s)

end Sys2Proof.Machine
end

