-- ==== Sys2Proof/Machine/Dispatch.lean ====
section
/-!
DEFINITION. The meaning of every command: one arm per constructor of Instr, each one call of its meaning.
-/

namespace Sys2Proof.Machine

def exec (i : Instr) (s : State) : Host.Outcome State Fault Refusal :=
  match i with
  | .lineSet h r => Sys2Proof.Machine.execLineSet h r s
  | .markersSet h limit markers => Sys2Proof.Machine.execMarkersSet h limit markers s
  | .profileSet h p => Sys2Proof.Machine.execProfileSet h p s
  | .tensionSet h one two => Sys2Proof.Machine.execTensionSet h one two s
  | .lanesSet h lanes => Sys2Proof.Machine.execLanesSet h lanes s
  | .postsSet h pairs => Sys2Proof.Machine.execPostsSet h pairs s
  | .paramSetAll h p => Sys2Proof.Machine.execParamSetAll h p s
  | .paramSetTiming h p => Sys2Proof.Machine.execParamSetTiming h p s
  | .ticketsLoad h t => Sys2Proof.Machine.execTicketsLoad h t s
  | .ticketsDrop h block => Sys2Proof.Machine.execTicketsDrop h block s
  | .ticketQuery h serial => Sys2Proof.Machine.execTicketQuery h serial s
  | .daySet h day time => Sys2Proof.Machine.execDaySet h day time s
  | .modeSet h mode => Sys2Proof.Machine.execModeSet h mode s
  | .dispatch h target direction => Sys2Proof.Machine.execDispatch h target direction s
  | .hold h => Sys2Proof.Machine.execHold h s
  | .resume h => Sys2Proof.Machine.execResume h s
  | .stopNow h => Sys2Proof.Machine.execStopNow h s
  | .tripReset h => Sys2Proof.Machine.execTripReset h s
  | .doorsOpen h pair => Sys2Proof.Machine.execDoorsOpen h pair s
  | .doorsClose h pair => Sys2Proof.Machine.execDoorsClose h pair s
  | .doorsHoldSet h pair => Sys2Proof.Machine.execDoorsHoldSet h pair s
  | .doorsHoldClear h pair => Sys2Proof.Machine.execDoorsHoldClear h pair s
  | .laneOpen h lane => Sys2Proof.Machine.execLaneOpen h lane s
  | .laneClose h lane => Sys2Proof.Machine.execLaneClose h lane s
  | .laneClear h lane => Sys2Proof.Machine.execLaneClear h lane s
  | .queueOpen h queue => Sys2Proof.Machine.execQueueOpen h queue s
  | .queueClose h queue => Sys2Proof.Machine.execQueueClose h queue s
  | .forceStopSet h stop => Sys2Proof.Machine.execForceStopSet h stop s
  | .forceStopClear h stop => Sys2Proof.Machine.execForceStopClear h stop s
  | .weatherSet h weather => Sys2Proof.Machine.execWeatherSet h weather s
  | .amend h cls segment ceiling accel decel => Sys2Proof.Machine.execAmend h cls segment ceiling accel decel s
  | .brakeTest h brake direction torque duration => Sys2Proof.Machine.execBrakeTest h brake direction torque duration s
  | .faultsAck h => Sys2Proof.Machine.execFaultsAck h s
  | .restart h => Sys2Proof.Machine.execRestart h s
  | .statusRead h => Sys2Proof.Machine.execStatusRead h s
  | .carRead h car => Sys2Proof.Machine.execCarRead h car s
  | .queueRead h queue place => Sys2Proof.Machine.execQueueRead h queue place s
  | .laneRead h lane => Sys2Proof.Machine.execLaneRead h lane s
  | .faultsRead h => Sys2Proof.Machine.execFaultsRead h s
  | .tripRead h => Sys2Proof.Machine.execTripRead h s
  | .brakesRead h => Sys2Proof.Machine.execBrakesRead h s
  | .tensionRead h => Sys2Proof.Machine.execTensionRead h s
  | .unknownKindFrame h kind => Sys2Proof.Machine.execUnknownKindFrame h kind s
  | .fullReset => Sys2Proof.Machine.execFullReset s
  | .restartLine => Sys2Proof.Machine.execRestartLine s
  | .encoderEdge e sense elapsed => Sys2Proof.Machine.execEncoderEdge e sense elapsed s
  | .estimateDecay elapsed => Sys2Proof.Machine.execEstimateDecay elapsed s
  | .quietExpiry e => Sys2Proof.Machine.execQuietExpiry e s
  | .disagreementIntervalExpiry => Sys2Proof.Machine.execDisagreementIntervalExpiry s
  | .presenceChange input value => Sys2Proof.Machine.execPresenceChange input value s
  | .markerPulse input => Sys2Proof.Machine.execMarkerPulse input s
  | .tensionConversion c raw => Sys2Proof.Machine.execTensionConversion c raw s
  | .missingConversionExpiry c => Sys2Proof.Machine.execMissingConversionExpiry c s
  | .brakeFeedbackChange b input value => Sys2Proof.Machine.execBrakeFeedbackChange b input value s
  | .releaseProofExpiry b => Sys2Proof.Machine.execReleaseProofExpiry b s
  | .applyProofExpiry b => Sys2Proof.Machine.execApplyProofExpiry b s
  | .driveReportChange ready => Sys2Proof.Machine.execDriveReportChange ready s
  | .escalationSample => Sys2Proof.Machine.execEscalationSample s
  | .escalationCheck => Sys2Proof.Machine.execEscalationCheck s
  | .warningExpiry => Sys2Proof.Machine.execWarningExpiry s
  | .pulseExpiry => Sys2Proof.Machine.execPulseExpiry s
  | .carTrackBrakeReport c applied => Sys2Proof.Machine.execCarTrackBrakeReport c applied s
  | .carEmergencyButtonReport c pressed => Sys2Proof.Machine.execCarEmergencyButtonReport c pressed s
  | .carStopRequest c station => Sys2Proof.Machine.execCarStopRequest c station s
  | .carDoorReport c closed opened obstructed => Sys2Proof.Machine.execCarDoorReport c closed opened obstructed s
  | .carLineSilenceExpiry c => Sys2Proof.Machine.execCarLineSilenceExpiry c s
  | .platformDoorInputChange station input value => Sys2Proof.Machine.execPlatformDoorInputChange station input value s
  | .openProofExpiry set => Sys2Proof.Machine.execOpenProofExpiry set s
  | .closeProofExpiry set => Sys2Proof.Machine.execCloseProofExpiry set s
  | .dwellExpiry => Sys2Proof.Machine.execDwellExpiry s
  | .lanePresentation lane serial => Sys2Proof.Machine.execLanePresentation lane serial s
  | .lanePassage lane => Sys2Proof.Machine.execLanePassage lane s
  | .passageTimeout lane => Sys2Proof.Machine.execPassageTimeout lane s
  | .leafJam lane => Sys2Proof.Machine.execLeafJam lane s
  | .leafJamWithdrawn lane => Sys2Proof.Machine.execLeafJamWithdrawn lane s
  | .settleIntervalExpiry => Sys2Proof.Machine.execSettleIntervalExpiry s
  | .supervisionExpiry => Sys2Proof.Machine.execSupervisionExpiry s
  | .linkByte b => Sys2Proof.Machine.execLinkByte b s
  | .gapIntervalExpiry => Sys2Proof.Machine.execGapIntervalExpiry s
  | .frameSendEnd => Sys2Proof.Machine.execFrameSendEnd s
  | .effectiveCeilingFall elapsed => Sys2Proof.Machine.execEffectiveCeilingFall elapsed s
  | .lineClockStop => Sys2Proof.Machine.execLineClockStop s

end Sys2Proof.Machine
end

