-- ==== Sys2Proof/Machine/Timers.lean ====
section
/-!
DEFINITION. What the part does while no command waits (log 4): its running intervals, the one that ends
first, and the passing of time up to it, at most a millisecond at once.
-/

namespace Sys2Proof.Machine

/-- An interval as its end and the command of its expiry, if it runs. -/
def timer (due : Option Nat) (c : Instr) : Option (Nat × Instr) := due.map (fun t => (t, c))

/-- The intervals of the speed and tension unit and of the brake ladder, where they run. -/
def State.plantTimers (s : State) : List (Option (Nat × Instr)) :=
  [timer (s.quietDue .drive) (.quietExpiry .drive), timer (s.quietDue .sheave) (.quietExpiry .sheave),
   timer s.stu.disagreeDue .disagreementIntervalExpiry,
   timer (s.conversionDue .one) (.missingConversionExpiry .one),
   timer (s.conversionDue .two) (.missingConversionExpiry .two),
   timer (s.brakeDue .holding .releasing) (.releaseProofExpiry .holding),
   timer (s.brakeDue .emergency .releasing) (.releaseProofExpiry .emergency),
   timer (s.brakeDue .holding .applying) (.applyProofExpiry .holding),
   timer (s.brakeDue .emergency .applying) (.applyProofExpiry .emergency),
   timer s.sampleDue .escalationSample, timer s.checkDue .escalationCheck]

/-- The intervals of the other blocks that have no subject or a car, where they run. -/
def State.lineTimers (s : State) : List (Option (Nat × Instr)) :=
  [timer s.hc.warnDue .warningExpiry, timer s.bpu.pulseDue .pulseExpiry,
   timer (s.silenceDue .a) (.carLineSilenceExpiry .a), timer (s.silenceDue .b) (.carLineSilenceExpiry .b),
   timer s.dwellDue .dwellExpiry, timer s.gqu.settleDue .settleIntervalExpiry,
   timer s.mau.supDue .supervisionExpiry, timer s.ll.gapDue .gapIntervalExpiry,
   timer s.sendDue .frameSendEnd]

/-- The intervals of the door sets and of the lanes, where they run. -/
def State.fieldTimers (s : State) : List (Option (Nat × Instr)) :=
  (List.finRange 8).map (fun i => timer (s.doorDue i.val .opening) (.openProofExpiry i))
    ++ (List.finRange 8).map (fun i => timer (s.doorDue i.val .closing) (.closeProofExpiry i))
    ++ (List.finRange 16).map (fun i => timer (s.passageDue i.val) (.passageTimeout i))

/-- The running intervals in the order in which those that end together are taken (log 4). -/
def State.timers (s : State) : List (Nat × Instr) :=
  (s.plantTimers ++ s.lineTimers ++ s.fieldTimers).filterMap id

/-- The first of those that end earliest. -/
def earliest : List (Nat × Instr) → Option (Nat × Instr)
  | [] => none
  | x :: xs =>
    match earliest xs with
    | some y => if y.1 < x.1 then some y else some x
    | none => some x

/-- What the part does when no command waits (log 4): the interval that ended first expires, or time passes
to the end of the next one, by at most a millisecond. -/
def idleStep (s : State) : Host.Outcome State Fault Refusal :=
  match earliest s.timers with
  | none => .next (event (passTime 1000) s)
  | some (t, c) =>
    if t ≤ s.now then exec c s else .next (event (passTime (min 1000 (t - s.now))) s)

end Sys2Proof.Machine
end

