-- ==== Sys2Proof/Machine/Step.lean ====
section
/-!
DEFINITION. One step of the part: the command at the front of its queue, or, while none waits, the passing
of time (log 4).
-/

namespace Sys2Proof.Machine

/-- One step: the command at the front of the queue, with the queue's rest; while no command waits, what
`idleStep` says. -/
def step (s : State) : Host.Outcome State Fault Refusal :=
  match s.pending with
  | c :: rest => exec c (s.setPending rest)
  | [] => idleStep s

/-- s with the command that a table word spells put at the front of its queue, s itself when the word
spells none. -/
def State.withFetchWord (s : State) (nbits w : Nat) : State :=
  match decodeTableWord nbits w with
  | some c => s.setPending (c :: s.pending)
  | none => s

end Sys2Proof.Machine
end

