-- ==== Sys2Proof/Machine/Encode.lean ====
section
/-!
DEFINITION. The bytes of a host's request frame: the body of each request by the catalogue's fields and
widths, and the whole frame with its check (11 sections 11.1 and 11.3).
-/

namespace Sys2Proof.Machine

/-- A station record (01 section 1.1, log 30). -/
def stationBytes (r : StationRec) : List Byte :=
  u16 r.id ++ u32 r.position ++ u8 r.doorSet ++ u8 r.sensor ++ counted u8 r.lanes

/-- The line record (01 section 1.1). -/
def lineBytes (r : LineRec) : List Byte :=
  u32 r.length ++ u8 r.stations ++ r.table.flatMap stationBytes ++ u32 r.loopStart ++ u32 r.loopEnd
    ++ u16 r.window ++ u16 r.margin ++ u16 r.driveCpm ++ u16 r.sheaveCpm

/-- A marker record (01 section 1.5). -/
def markerBytes (m : MarkerRec) : List Byte := u32 m.position ++ u8 m.track ++ u16 m.window

/-- A segment (03 section 3.1). -/
def segmentBytes (g : SegmentRec) : List Byte :=
  u32 g.start ++ u16 g.ceiling ++ u16 g.accel ++ u16 g.decel

/-- A lane description (08 R127). -/
def laneDescBytes (d : LaneDesc) : List Byte := u8 d.lane ++ u8 d.station ++ u8 d.role

/-- A pair of 1-byte fields. -/
def pairBytes (p : Nat × Nat) : List Byte := u8 p.1 ++ u8 p.2

/-- The fields of PARAM_SET behind its scope (09 R157). -/
def paramBytes (p : ParamBody) : List Byte :=
  u8 p.dwell ++ u16 p.warning ++ u16 p.passageTimeout ++ u16 p.passback ++ u16 p.supervision
    ++ u8 p.capacity ++ u8 p.mass ++ u32 p.imb1 ++ u32 p.imb2 ++ u32 p.imb3 ++ u16 p.tolerance
    ++ p.offsets.flatMap pairBytes

/-- The body of TICKETS_LOAD (11 R181). -/
def ticketBytes (t : TicketBody) : List Byte :=
  u8 t.block ++ u32 t.first ++ u16 t.count ++ u8 t.cls ++ u16 t.firstDay ++ u16 t.lastDay ++ t.bitmap

/-- The body of a request (11 R181). -/
def requestBytes : Request → List Byte
  | .lineSet r => lineBytes r
  | .markersSet limit l => u16 limit ++ counted markerBytes l
  | .profileSet p => u8 p.cls ++ u16 p.lineMax ++ u16 p.inspection ++ counted segmentBytes p.segments
  | .tensionSet one two => tensionSettingsBytes one ++ tensionSettingsBytes two
  | .lanesSet l => counted laneDescBytes l
  | .postsSet l => counted pairBytes l
  | .paramSet scope p => u8 scope ++ paramBytes p
  | .ticketsLoad t => ticketBytes t
  | .ticketsDrop b => u8 b
  | .ticketQuery n => u32 n
  | .daySet day time => u16 day ++ u32 time
  | .modeSet m => u8 m
  | .dispatch t d => u8 t ++ u8 d
  | .hold => []
  | .resume => []
  | .stopNow => []
  | .tripReset => []
  | .doors o p a => u8 o ++ u8 p ++ u8 a
  | .lane l o => u8 l ++ u8 o
  | .queue q o => u8 q ++ u8 o
  | .forceStop k o => u8 k ++ u8 o
  | .weatherSet w => u8 w
  | .amend c g v a d => u8 c ++ u8 g ++ u16 v ++ u16 a ++ u16 d
  | .brakeTest b d t u => u8 b ++ u8 d ++ u8 t ++ u16 u
  | .faultsAck => []
  | .restart => []
  | .statusRead => []
  | .carRead c => u8 c
  | .queueRead q p => u8 q ++ u8 p
  | .laneRead l => u8 l
  | .faultsRead => []
  | .tripRead => []
  | .brakesRead => []
  | .tensionRead => []

/-- The bytes of a request frame from its length field to the end of its body (11 section 11.1). -/
def requestCore (h : Header) (r : Request) : List Byte :=
  u16 (4 + (requestBytes r).length) ++ u8 (requestKind r) ++ u8 h.tag ++ u8 h.post ++ u8 h.level
    ++ requestBytes r

/-- The bytes of a request frame behind its start byte (11 section 11.1). -/
def requestTail (h : Header) (r : Request) : List Byte :=
  requestCore h r ++ u16 (crc (requestCore h r)).toNat

end Sys2Proof.Machine
end

