-- ==== Sys2Proof/WellFormed.lean ====
section
/-!
DEFINITION. Which commands can reach the part: a request's fields fit the widths that the catalogue gives
them, its lists fit their 1-byte counts, and its body fits a frame (11 section 11.1, R181). Ranges that an
owner checks are no part of this: a well-formed request may be refused.
-/

namespace Sys2Proof

/-- The number fits a 1-byte field. -/
def fits1 (n : Nat) : Bool := decide (n < 256)

/-- The number fits a 2-byte field. -/
def fits2 (n : Nat) : Bool := decide (n < 65536)

/-- The number fits a 4-byte field. -/
def fits4 (n : Nat) : Bool := decide (n < 4294967296)

/-- The number fits a signed 4-byte field. -/
def fitsInt (x : Int) : Bool := decide (-2147483648 ≤ x) && decide (x < 2147483648)

/-- A list fits its 1-byte count, and its elements fit. -/
def fitsList {α : Type} (f : α → Bool) (l : List α) : Bool := fits1 l.length && l.all f

/-- A frame's header fits (11 section 11.1). -/
def Header.fits (h : Header) : Bool := fits1 h.tag && fits1 h.post && fits1 h.level

/-- A station record fits (01 section 1.1). -/
def StationRec.fits (r : StationRec) : Bool :=
  fits2 r.id && fits4 r.position && fits1 r.doorSet && fits1 r.sensor && fitsList fits1 r.lanes

/-- A line record fits (01 section 1.1). -/
def LineRec.fits (r : LineRec) : Bool :=
  fits4 r.length && fits1 r.stations && fitsList StationRec.fits r.table && fits4 r.loopStart
    && fits4 r.loopEnd && fits2 r.window && fits2 r.margin && fits2 r.driveCpm && fits2 r.sheaveCpm

/-- A marker record fits (01 section 1.5). -/
def MarkerRec.fits (m : MarkerRec) : Bool := fits4 m.position && fits1 m.track && fits2 m.window

/-- A segment fits (03 section 3.1). -/
def SegmentRec.fits (g : SegmentRec) : Bool :=
  fits4 g.start && fits2 g.ceiling && fits2 g.accel && fits2 g.decel

/-- The settings of a tension channel fit (02 section 2.2). -/
def TensionSettings.fits (t : TensionSettings) : Bool :=
  fits1 t.range && fits1 t.rate && fits1 t.window && fits4 t.gain && fitsInt t.offset && fitsInt t.min
    && fitsInt t.max && fitsInt t.standbyMin && fitsInt t.standbyMax

/-- A lane description fits (08 R127). -/
def LaneDesc.fits (d : LaneDesc) : Bool := fits1 d.lane && fits1 d.station && fits1 d.role

/-- A pair of 1-byte fields fits. -/
def fitsPair (p : Nat × Nat) : Bool := fits1 p.1 && fits1 p.2

/-- The fields of PARAM_SET fit (09 R157). -/
def ParamBody.fits (p : ParamBody) : Bool :=
  fits1 p.dwell && fits2 p.warning && fits2 p.passageTimeout && fits2 p.passback && fits2 p.supervision
    && fits1 p.capacity && fits1 p.mass && fits4 p.imb1 && fits4 p.imb2 && fits4 p.imb3
    && fits2 p.tolerance && p.offsets.all fitsPair

/-- The fields of TICKETS_LOAD fit (07 section 7.1). -/
def TicketBody.fits (t : TicketBody) : Bool :=
  fits1 t.block && fits4 t.first && fits2 t.count && fits1 t.cls && fits2 t.firstDay && fits2 t.lastDay

/-- The fields of a request fit their widths (11 R181). -/
def Request.fits : Request → Bool
  | .lineSet r => r.fits
  | .markersSet limit l => fits2 limit && fitsList MarkerRec.fits l
  | .profileSet p => fits1 p.cls && fits2 p.lineMax && fits2 p.inspection
      && fitsList SegmentRec.fits p.segments
  | .tensionSet one two => one.fits && two.fits
  | .lanesSet l => fitsList LaneDesc.fits l
  | .postsSet l => fitsList fitsPair l
  | .paramSet scope p => fits1 scope && p.fits
  | .ticketsLoad t => t.fits
  | .ticketsDrop b => fits1 b
  | .ticketQuery n => fits4 n
  | .daySet day time => fits2 day && fits4 time
  | .modeSet m => fits1 m
  | .dispatch t d => fits1 t && fits1 d
  | .hold => true
  | .resume => true
  | .stopNow => true
  | .tripReset => true
  | .doors o p a => fits1 o && fits1 p && fits1 a
  | .lane l o => fits1 l && fits1 o
  | .queue q o => fits1 q && fits1 o
  | .forceStop k o => fits1 k && fits1 o
  | .weatherSet w => fits1 w
  | .amend c g v a d => fits1 c && fits1 g && fits2 v && fits2 a && fits2 d
  | .brakeTest b d t u => fits1 b && fits1 d && fits1 t && fits2 u
  | .faultsAck => true
  | .restart => true
  | .statusRead => true
  | .carRead c => fits1 c
  | .queueRead q p => fits1 q && fits1 p
  | .laneRead l => fits1 l
  | .faultsRead => true
  | .tripRead => true
  | .brakesRead => true
  | .tensionRead => true

/-- The length in bytes of a request's body where it holds a list, 0 for the short bodies without one
(11 R181). -/
def Request.listLength : Request → Nat
  | .lineSet r => 21 + (r.table.map (fun t => 9 + t.lanes.length)).sum
  | .markersSet _ l => 3 + 7 * l.length
  | .profileSet p => 6 + 10 * p.segments.length
  | .lanesSet l => 1 + 3 * l.length
  | .postsSet l => 1 + 2 * l.length
  | .paramSet _ p => 26 + 2 * p.offsets.length
  | .ticketsLoad t => 12 + t.bitmap.length
  | _ => 0

/-- The header and the request of a request command; none for an event of another kind. -/
def Instr.request? : Instr → Option (Header × Request)
  | .lineSet h r => some (h, .lineSet r)
  | .markersSet h limit l => some (h, .markersSet limit l)
  | .profileSet h p => some (h, .profileSet p)
  | .tensionSet h one two => some (h, .tensionSet one two)
  | .lanesSet h l => some (h, .lanesSet l)
  | .postsSet h l => some (h, .postsSet l)
  | .paramSetAll h p => some (h, .paramSet 0 p)
  | .paramSetTiming h p => some (h, .paramSet 1 p)
  | .ticketsLoad h t => some (h, .ticketsLoad t)
  | .ticketsDrop h b => some (h, .ticketsDrop b)
  | .ticketQuery h n => some (h, .ticketQuery n)
  | .daySet h day time => some (h, .daySet day time)
  | .modeSet h m => some (h, .modeSet m)
  | .dispatch h t d => some (h, .dispatch t d)
  | .hold h => some (h, .hold)
  | .resume h => some (h, .resume)
  | .stopNow h => some (h, .stopNow)
  | .tripReset h => some (h, .tripReset)
  | .doorsOpen h p => some (h, .doors 0 p 0)
  | .doorsClose h p => some (h, .doors 1 p 0)
  | .doorsHoldSet h p => some (h, .doors 2 p 0)
  | .doorsHoldClear h p => some (h, .doors 2 p 1)
  | .laneOpen h l => some (h, .lane l 0)
  | .laneClose h l => some (h, .lane l 1)
  | .laneClear h l => some (h, .lane l 2)
  | .queueOpen h q => some (h, .queue q 0)
  | .queueClose h q => some (h, .queue q 1)
  | .forceStopSet h k => some (h, .forceStop k 0)
  | .forceStopClear h k => some (h, .forceStop k 1)
  | .weatherSet h w => some (h, .weatherSet w)
  | .amend h c g v a d => some (h, .amend c g v a d)
  | .brakeTest h b d t u => some (h, .brakeTest b d t u)
  | .faultsAck h => some (h, .faultsAck)
  | .restart h => some (h, .restart)
  | .statusRead h => some (h, .statusRead)
  | .carRead h c => some (h, .carRead c)
  | .queueRead h q p => some (h, .queueRead q p)
  | .laneRead h l => some (h, .laneRead l)
  | .faultsRead h => some (h, .faultsRead)
  | .tripRead h => some (h, .tripRead)
  | .brakesRead h => some (h, .brakesRead)
  | .tensionRead h => some (h, .tensionRead)
  | _ => none

/-- The command can reach the part: a request that fits its frame, a frame of a byte that is no request
kind, a car's request for a station of a line, or any field event. -/
def wellFormed (i : Instr) : Bool :=
  match i.request? with
  | some (h, r) => h.fits && r.fits && decide (r.listLength ≤ 1060)
  | none =>
    match i with
    | .unknownKindFrame h kind => h.fits && fits1 kind && (decide (kind = 0) || decide (34 < kind))
    | .carStopRequest _ station => decide (station < 6)
    | _ => true

end Sys2Proof
end

