-- ==== Sys2Proof/Safety.lean ====
section
/-!
DEFINITION. The words in which claims about the part are made: the invariants of the state, a free line
link, the moment at which a request is judged, and the shapes that the next state of a command has.
-/

namespace Sys2Proof.Machine

/-! ### Invariants -/

/-- While a fault of class EMERGENCY is present, the emergency brake is APPLIED or APPLYING (04 R72). -/
def State.emergencyHeld (s : State) : Prop :=
  s.ft.presentClass .emergency = true →
    s.bl.brakes.snd.state = .applied ∨ s.bl.brakes.snd.state = .applying

/-- The lists of the line link stay as chapter 11 has them: no notice key twice (R183), at most two frames
held (R178), no reply waiting while the transmitter is idle (R184), no frame held while the reply slot is
empty (R179). -/
def State.linkSound (s : State) : Prop :=
  s.ll.notices.Nodup ∧ s.ll.holding.length ≤ 2 ∧ (s.ll.sending = none → s.ll.replySlot = none)
    ∧ (s.ll.replySlot = none → s.ll.holding = [])

/-- A record of the fault table has a raise count from 1 to 255 (10 R168). -/
def FaultRec.counted (r : FaultRec) : Prop := 1 ≤ r.count ∧ r.count ≤ 255

/-- The fault table has its 69 slots, each present one with a raise count from 1 to 255 (10 R167,
R168). -/
def State.tableSound (s : State) : Prop :=
  s.ft.slots.length = 69 ∧ ∀ r ∈ s.ft.slots, ∀ x, r = some x → x.counted

/-- No admission queue holds more than 160 entries (08 R137) and the passback list no more than 64
(07 R120). -/
def State.listsBounded (s : State) : Prop :=
  (∀ q ∈ s.gqu.queues, q.entries.length ≤ 160) ∧ s.tt.passback.length ≤ 64

/-- A service stop is recorded only while the haul is STOPPING (04 section 4.5), and the departure warning
interval runs only in WARNING (03 R51). -/
def State.haulSound (s : State) : Prop :=
  (s.hc.haul ≠ .stopping → s.bl.stop = none) ∧ (s.hc.haul ≠ .warning → s.hc.warnDue = none)

/-- Before a line record is loaded the rope position is 0 (01 R6). -/
def State.positionIdle (s : State) : Prop := s.lgp.line = none → s.lgp.p = 0

/-- The line clock (07 R124), the wake count (09 R162), the trip numbers (03 R45) and the edge histories
(02 R20) stay within the bounds of their rules. -/
def State.countersBounded (s : State) : Prop :=
  s.tt.clock ≤ 4294967295 ∧ s.mau.wakeCount ≤ 65535 ∧ s.hc.tripCounter < 65536
    ∧ s.stu.speed.fst.history.length ≤ 9 ∧ s.stu.speed.snd.history.length ≤ 9

/-! ### Requests -/

/-- The link is free: no frame is held and the reply slot is empty, so that a frame is taken as it
arrives (11 R179). -/
def State.linkFree (s : State) : Prop := s.ll.holding = [] ∧ s.ll.replySlot = none

/-- The state against which a request that arrives on a free link is judged: the frame was received, which
is one event, and has left the holding (11 R178, R179). -/
def State.asTaken (s : State) (h : Header) (r : Request) : State :=
  dropHeld (event (receive { header := h, content := requestContent r }) s)

/-- The end of the event in which a request is taken: from the state `before` it, with what the owner left,
the conditions are judged, the keys marked, and the reply placed and begun when the transmitter is idle
(11 R179, R184). -/
def concluded (before owned : State) (reply : Reply) : State :=
  transmit (placeReply reply (finish before owned))

/-- The state before the event in which a request that arrives on a free link is taken. -/
def State.beforeTaken (s : State) (h : Header) (r : Request) : State :=
  event (receive { header := h, content := requestContent r }) s

/-- Command i is the arrival of a request that is DONE: its owner leaves `owned` and gives the reply
`body`. -/
def DoneWith (i : Instr) (s owned : State) (body : Content) : Prop :=
  ∃ h r, i.request? = some (h, r) ∧
    exec i s = .next (concluded (s.beforeTaken h r) owned (doneReply (requestKind r + 128) h.tag body))

/-- Command i is the arrival of a request that is REFUSED with a code: no owner changes the state. -/
def RefusedWith (i : Instr) (s : State) (c : RefusalCode) : Prop :=
  ∃ h r, i.request? = some (h, r) ∧
    exec i s = .next (concluded (s.beforeTaken h r) (s.asTaken h r)
      (refusedReply (requestKind r + 128) h.tag c))

/-- A request passes form, authority and mode in the state in which it is judged, on a free link, with a
body of its kind's length (09 R153, 11 R179). -/
def Passes (s : State) (h : Header) (r : Request) : Prop :=
  s.linkFree ∧ lengthMatches r = true ∧ (s.asTaken h r).judge h r = none

/-! ### Events -/

/-- Command i is an event of which the rules make `t`: what follows are the conditions that are judged at
every moment, the marks, and the look of the transmitter. -/
def Happens (i : Instr) (s t : State) : Prop := exec i s = .next (transmit (finish s t))

end Sys2Proof.Machine
end

