-- ==== Sys2Proof/Certificates/Slice0/Obligations.lean ====
section
/-!
DEFINITION. The statements for the provers. `q` is the state in which a request is judged: its frame was
received and has left the holding. `DoneWith`, `RefusedWith`, `Passes` and `Happens` are those of Safety.
-/

open Sys2Proof Sys2Proof.Machine

/-- A step runs the command at the front of the queue (the model's own queue, log 4). -/
def Obligations.StepTakesTheFrontCommand : Prop :=
  ∀ (c : Instr) (rest : List Instr) (s : State),
    step (s.setPending (c :: rest)) = exec c (s.setPending rest)

/-- With no command waiting, what a step does is the model's choice (log 4). -/
def Obligations.AStepWithoutCommandsLetsTimePass : Prop :=
  ∀ s : State, s.pending = [] →
    (earliest s.timers = none → step s = .next (event (passTime 1000) s)) ∧
    (∀ u c, earliest s.timers = some (u, c) → u ≤ s.now → step s = exec c s) ∧
    (∀ u c, earliest s.timers = some (u, c) → s.now < u →
      step s = .next (event (passTime (min 1000 (u - s.now))) s))

/-- Every command has a next state, in every state: the model's deduction of log 27. -/
def Obligations.EveryCommandAnswersNextAndKeepsTheQueue : Prop :=
  ∀ (i : Instr) (s : State), ∃ t, exec i s = .next t ∧ t.pending = s.pending

/-- The values of the state after full reset, as the reset tables of the chapters give them. -/
def Obligations.FullResetValuesAreThoseOfTheChapters : Prop :=
  let r := State.reset
  (r.lgp.line = none ∧ r.lgp.p = 0 ∧ r.lgp.corr = ⟨0, 0⟩ ∧ r.lgp.position = .unknown ∧
    r.lgp.markers = [] ∧ r.lgp.corrLimit = 500 ∧ r.lgp.watch = ⟨none, none⟩) ∧
  (∀ e : Encoder, (r.stu.speed.encoder e).history = [] ∧ (r.stu.speed.encoder e).quiet = false ∧
    (r.stu.speed.encoder e).quietDue = some 500000) ∧
  (∀ c : Chan, (r.stu.tension.chan c).average = none ∧ (r.stu.tension.chan c).state = .filling) ∧
  (r.hc.haul = .tripped ∧ r.hc.weather = .ice ∧ r.hc.heading = .up ∧ r.hc.trip.state = .none ∧
    r.hc.tripCounter = 0 ∧ r.hc.cycle = .none ∧ r.hc.classes = [none, none, none, none] ∧
    r.hc.forced = [] ∧ r.hc.drive = .noTorque) ∧
  (∀ b : Brake, (r.bl.brakes.brake b).state = .applied) ∧
  (r.bl.stop = none ∧ r.bl.trippedCeiling = 300000000 ∧ r.bpu.test = none ∧
    r.bpu.records = ⟨none, none⟩) ∧
  (r.dc.sets = [] ∧ r.dc.dwell = .idle ∧ r.dc.dwellS = 30) ∧
  (r.tt.blocks = [] ∧ r.tt.passback = [] ∧ r.tt.passbackS = 600 ∧ r.tt.day = 0 ∧ r.tt.clock = 0) ∧
  (r.gqu.lanes = [] ∧ r.gqu.queues = [] ∧ r.gqu.loads = ⟨some 0, some 0⟩ ∧ r.gqu.mass = 80 ∧
    r.gqu.passageMs = 8000 ∧ r.gqu.capacity = none) ∧
  (r.mau.mode = .off ∧ r.mau.posts = [0, 3, 3, 3, 3, 3, 3, 3] ∧ r.mau.supervision = .suspended ∧
    r.mau.supMs = 2000 ∧ r.mau.wakeSet = [.power] ∧ r.mau.wakeCount = 1) ∧
  (r.ft.entries = [] ∧ r.ft.slots.length = 69) ∧
  (r.ll.rx = none ∧ r.ll.holding = [] ∧ r.ll.replySlot = none ∧ r.ll.sending = none ∧
    r.ll.notices = [.mode, .wake]) ∧
  (∀ s : State, ∃ t, exec .fullReset s = .next t ∧ t.pending = s.pending ∧ t.now = 0 ∧
    t.lgp = { r.lgp with presenceIn := s.lgp.presenceIn } ∧ t.stu = r.stu ∧ t.hc = r.hc ∧ t.bpu = r.bpu ∧
    t.tt = r.tt ∧ t.mau = r.mau ∧ t.gqu = { r.gqu with jamIn := s.gqu.jamIn } ∧
    t.dc = { r.dc with inputs := List.replicate 2 { closed := false, opened := false, obstructed := false }
      ++ s.dc.inputs.drop 2 } ∧
    t.bl = { r.bl with brakes := t.bl.brakes, driveReady := s.bl.driveReady } ∧
    (∀ k ∈ allKeys, k.code ≠ .brakeFeedback → t.ft.slot k = none) ∧
    (∀ b : Brake, t.bl.brakes.brake b = { s.bl.brakes.brake b with state := .applied, proofDue := none } ∧
      ((s.bl.brakes.brake b).appliedIn = true ∧ (s.bl.brakes.brake b).releasedIn = false →
        t.ft.slot ⟨.brakeFeedback, b.index⟩ = none) ∧
      ((s.bl.brakes.brake b).appliedIn = false ∨ (s.bl.brakes.brake b).releasedIn = true →
        (t.ft.slot ⟨.brakeFeedback, b.index⟩).isSome = true)) ∧
    t.ll.rx = none ∧ t.ll.holding = [] ∧ t.ll.replySlot = none ∧ t.ll.sending = none ∧
    ∃ l, t.ll.notices = [.mode, .wake] ++ l)

/-- The reset state meets the invariants. -/
def Obligations.ResetMeetsEveryInvariant : Prop :=
  State.reset.emergencyHeld ∧ State.reset.linkSound ∧ State.reset.tableSound ∧ State.reset.listsBounded ∧
    State.reset.haulSound ∧ State.reset.positionIdle ∧ State.reset.countersBounded

/-- The tables of chapter 10 and of R180 and the 42 notice keys. -/
def Obligations.TheFaultTableHasTheCodeTablesKeys : Prop :=
  allKeys.length = 69 ∧ allKeys.Nodup ∧
  (allKeys.filter (fun k => decide (k.code.cls = .emergency))).length = 13 ∧
  (allKeys.filter (fun k => decide (k.code.cls = .service))).length = 14 ∧
  (allKeys.filter (fun k => decide (k.code.cls = .block))).length = 25 ∧
  (allKeys.filter (fun k => decide (k.code.cls = .report))).length = 17 ∧
  allKeys.map FaultKey.rank = List.range 69 ∧
  allCodes = [.carBrakeTripped, .overtravel, .overspeedEmergency, .encoderDisagree, .positionDisagree,
    .ropeTensionLimit, .brakeFeedback, .operatorEmergency, .overspeedService, .brakeEscalated,
    .doorUnproven, .carEmergencyRequest, .carLinkLost, .supervisionLost, .tensionChannelFault,
    .stopOverrun, .markerMissed, .brakeTestFailed, .doorTimeout, .doorObstructed, .loadDisagree,
    .gateLaneFault] ∧
  allCodes.map FaultCode.number = List.range' 1 22 ∧
  allCodes.map FaultCode.cls = List.replicate 8 .emergency ++ List.replicate 5 .service
    ++ List.replicate 7 .block ++ List.replicate 2 .report ∧
  allCodes.map FaultCode.subjects = [2, 2, 1, 1, 2, 2, 2, 1, 1, 1, 8, 2, 2, 1, 2, 2, 2, 2, 8, 8, 1, 16] ∧
  allKeys = allCodes.flatMap (fun c => (List.range c.subjects).map (fun i => ⟨c, i⟩)) ∧
  noticeKeys.length = 42 ∧ noticeKeys.Nodup ∧
  [RefusalCode.format, .unknownKind, .authority, .mode, .notConfigured, .state, .bounds, .symmetry, .direction,
    .offStop, .brakeTestDue, .blockedByFault, .notEmpty, .overlap, .inUse, .notFound, .full].map
      RefusalCode.number = List.range' 1 17

/-- If in s a present slot of class EMERGENCY implies that the emergency brake is APPLIED or APPLYING: an
invariant that every step keeps. -/
def Obligations.EmergencyFaultsHoldTheEmergencyBrake : Prop :=
  ∀ s t : State, s.emergencyHeld → step s = .next t → t.emergencyHeld

/-- If in s the notice list holds no key twice: an invariant that every step keeps. -/
def Obligations.TheLineLinkStaysSound : Prop :=
  ∀ s t : State, s.linkSound → step s = .next t → t.linkSound

/-- If in s the fault table has 69 slots and every present slot a raise count from 1 to 255: an invariant
that every step keeps. -/
def Obligations.TheFaultTableStaysSound : Prop :=
  ∀ s t : State, s.tableSound → step s = .next t → t.tableSound

/-- If in s no admission queue holds more than 160 entries and the passback list no more than 64: an
invariant that every step keeps. -/
def Obligations.QueuesAndPassbackListStayBounded : Prop :=
  ∀ s t : State, s.listsBounded → step s = .next t → t.listsBounded

/-- If in s a service stop is recorded only in STOPPING and the warning interval runs only in WARNING: an
invariant that every step keeps. -/
def Obligations.StopsAndWarningsBelongToTheirHaulStates : Prop :=
  ∀ s t : State, s.haulSound → step s = .next t → t.haulSound

/-- If in s the rope position is 0 while no line record is loaded: an invariant that every step keeps. -/
def Obligations.RopePositionAndCountersStayInBounds : Prop :=
  ∀ s t : State, s.positionIdle ∧ s.countersBounded → step s = .next t → t.positionIdle ∧ t.countersBounded

/-- Decode of encode, for the frames of all 34 request kinds (the wire layout of log 20 and log 30). -/
def Obligations.RequestFramesReadBackAsTheyWereSent : Prop :=
  ∀ (h : Header) (r : Request), h.fits = true → r.fits = true → lengthMatches r = true →
    parseBody (requestKind r) (requestBytes r) = .request r ∧
    heldOf (requestCore h r) = { header := h, content := .request r }

/-- LINK_BYTE at the end of a request frame. -/
def Obligations.TheLastByteOfAFrameMakesItArrive : Prop :=
  ∀ (s : State) (h : Header) (r : Request) (front : List Byte) (b : Byte),
    h.fits = true → r.fits = true → lengthMatches r = true → (requestBytes r).length ≤ 1060 →
    requestTail h r = front ++ [b] → s.ll.rx = some front →
    exec (.linkByte b) s = .next (serve (event (fun t =>
      receive { header := h, content := .request r } (hunt t)) s))

/-- LINK_BYTE before the end of a frame, and GAP_INTERVAL_EXPIRY. -/
def Obligations.BytesShortOfAFrameReachTheReceiver : Prop :=
  ∀ (s : State) (b : Byte),
    (s.ll.rx = none → b ≠ 165#8 → exec (.linkByte b) s = .next (serve (event id s))) ∧
    (s.ll.rx = none → b = 165#8 → exec (.linkByte b) s = .next (serve (event
      (fun t => t.modLl fun l => { l with rx := some [], gapDue := some (t.now + 50000) }) s))) ∧
    (∀ old, s.ll.rx = some old →
      ((old ++ [b]).length < 2 ∨ (4 ≤ bytesValue ((old ++ [b]).take 2) ∧
        bytesValue ((old ++ [b]).take 2) ≤ 1064 ∧
        (old ++ [b]).length < bytesValue ((old ++ [b]).take 2) + 4)) →
      exec (.linkByte b) s = .next (serve (event (fun t => t.modLl fun l =>
        { l with rx := some (old ++ [b]), gapDue := some (t.now + 50000) }) s))) ∧
    (∀ old, s.ll.rx = some old → 2 ≤ (old ++ [b]).length →
      (bytesValue ((old ++ [b]).take 2) < 4 ∨ 1064 < bytesValue ((old ++ [b]).take 2)) →
      exec (.linkByte b) s = .next (serve (event (fun t => t.modLl fun l =>
        { l with rx := none, gapDue := none }) s))) ∧
    (∀ old core check, s.ll.rx = some old → old ++ [b] = core ++ check → check.length = 2 →
      core.length = bytesValue ((old ++ [b]).take 2) + 2 → 4 ≤ bytesValue ((old ++ [b]).take 2) →
      bytesValue ((old ++ [b]).take 2) ≤ 1064 → bytesValue check ≠ (crc core).toNat →
      exec (.linkByte b) s = .next (serve (event (fun t => t.modLl fun l =>
        { l with rx := none, gapDue := none }) s))) ∧
    (∀ u, s.ll.gapDue = some u → Happens .gapIntervalExpiry s
      ((passUntil u s).modLl fun l => { l with rx := none, gapDue := none }))

/-- UNKNOWN_KIND_FRAME, and the FORMAT refusal of a wrong length (11 R179). -/
def Obligations.FramesOfNoKindOrNoLengthAreRefused : Prop :=
  ∀ (s : State) (h : Header), s.linkFree →
    (∀ kind, exec (.unknownKindFrame h kind) s = .next (concluded
      (event (receive { header := h, content := .unknownKind kind }) s)
      (dropHeld (event (receive { header := h, content := .unknownKind kind }) s))
      { kind := 255, tag := h.tag, refusal := some .unknownKind, body := .empty })) ∧
    (∀ i r, i.request? = some (h, r) → lengthMatches r = false → RefusedWith i s .format)

/-- The three steps of MAU and a refusal by an owner (09 R153 to R155; 11 R180). That a RESUME during a
brake test fails the mode, where 05 R90 says STATE, is log 43. -/
def Obligations.FormAuthorityAndModeAreJudgedInThatOrder : Prop :=
  ∀ (s q : State) (h : Header) (i : Instr) (r : Request),
    i.request? = some (h, r) → s.linkFree → lengthMatches r = true → q = s.asTaken h r →
    (7 < h.post ∨ 3 < h.level → RefusedWith i s .format) ∧
    (h.post ≤ 7 → h.level ≤ 3 → q.requiredLevel r < max h.level (q.mau.posts.getD h.post 3) →
      RefusedWith i s .authority) ∧
    (h.post ≤ 7 → h.level ≤ 3 → max h.level (q.mau.posts.getD h.post 3) ≤ q.requiredLevel r →
      takenIn q.mau.mode r = false → RefusedWith i s .mode) ∧
    (h.post ≤ 7 → h.level ≤ 3 → max h.level (q.mau.posts.getD h.post 3) ≤ q.requiredLevel r →
      takenIn q.mau.mode r = true → Passes s h r) ∧
    (∀ c, Passes s h r → own (q.effectiveLevel h) r q = .error c → RefusedWith i s c)

/-- The receive holding and FRAME_SEND_END (11 R178, R179, R184; while nothing is sent log 3). -/
def Obligations.FramesWaitWhileAReplyDoes : Prop :=
  (∀ (s : State) (f : HeldFrame) (r : Reply), s.ll.replySlot = some r → s.ll.sending.isSome = true →
    (s.ll.holding.length < 2 → frameArrives f s = event (receive f) s ∧
      (frameArrives f s).ll.holding = s.ll.holding ++ [f]) ∧
    (2 ≤ s.ll.holding.length → frameArrives f s = event id s ∧
      (frameArrives f s).mau = s.mau ∧ (frameArrives f s).ll.holding = s.ll.holding)) ∧
  (∀ s : State, s.ll.sending = none → exec .frameSendEnd s = .next s) ∧
  (∀ (s : State) (d : Sending), s.ll.sending = some d → exec .frameSendEnd s = .next (serve (event
      (fun x => (passUntil d.due x).modLl fun l => { l with sending := none }) s)) ∧
    (s.ll.replySlot = none → s.ll.holding = [] → exec .frameSendEnd s = .next (event
      (fun x => (passUntil d.due x).modLl fun l => { l with sending := none }) s)))

/-- The transmitter (11 R184, R185; the moment of its look is log 7). -/
def Obligations.AnIdleTransmitterSendsTheReplyFirst : Prop :=
  ∀ s : State,
    (∀ d, s.ll.sending = some d → transmit s = s) ∧
    (∀ r, s.ll.sending = none → s.ll.replySlot = some r →
      (transmit s).ll = { s.ll with
        replySlot := none, sending := some { frame := .reply r, due := s.now + OutFrame.time (.reply r) } }) ∧
    (∀ k ks, s.ll.sending = none → s.ll.replySlot = none → s.ll.notices = k :: ks →
      (transmit s).ll = { s.ll with
        notices := ks, sending := some { frame := .notice k (s.noticeContent k),
                                         due := s.now + OutFrame.time (.notice k (s.noticeContent k)) } }) ∧
    (s.ll.sending = none → s.ll.replySlot = none → s.ll.notices = [] → transmit s = s)

/-- What the end of an event does (log 5), and its frame and that of the receiving of a frame (log 1). The
model's own are the parts of log 26, log 37, log 38 and log 41, the rounding of the root (log 10), and the
ceiling in APPROACH beyond 3,000 mm (log 40). -/
def Obligations.WhatTheEndOfAnEventAndAFrameLeaveAlone : Prop :=
  (∀ before s : State,
    let t := transmit (finish before s)
    t.pending = s.pending ∧ t.now = s.now ∧ t.lgp = s.lgp ∧ t.tt = s.tt ∧ t.mau = s.mau ∧
    t.ll.holding = s.ll.holding ∧ t.ll.rx = s.ll.rx ∧ t.ll.gapDue = s.ll.gapDue ∧
    markChanges before s = { s with ll := { s.ll with notices := (markChanges before s).ll.notices } }) ∧
  (∀ (s q : State) (h : Header) (r : Request), q = s.asTaken h r →
    q.pending = s.pending ∧ q.now = s.now ∧ q.lgp = s.lgp ∧ q.tt = s.tt ∧ q.mau.mode = s.mau.mode ∧
    q.mau.posts = s.mau.posts ∧ q.mau.config = s.mau.config ∧ q.ll.rx = s.ll.rx) ∧
  (∀ before s : State, finish before s = markChanges before (settle before s) ∧
    settle before s = commandDrive (followTopSpeed (judgeLoads (settleHaul before (settlePlant s)))) ∧
    settlePlant s = proveBrakes (judgeEnvelope (judgeEncoders (proveBrakes s))) ∧
    settleHaul before s = runAttempts before (followDoors (judgeDwell (judgePending .b (judgePending .a
      (beginCycle (followHeading (applyIdleAll before s)))))))) ∧
  (∀ (s : State) (t : TripRec), s.hc.haul = .running ∨ s.hc.haul = .approach → s.hc.trip.rec? = some t →
    (commandDrive s).hc = { s.hc with
      ramp := min s.hc.ramp (s.tripCeiling t), drive := .speed t.dir (s.tripDemand t) } ∧
    s.demand = s.tripDemand t ∧ s.tripDemand t ≤ s.tripCeiling t ∧ s.tripDemand t ≤ s.hc.ramp ∧
    (∀ d, s.hc.unreferencedTrip = false → s.targetDistance t = some d →
      2 * s.classDecel t.kind * d.toNat * 1000000000000 ≤ s.creep t.kind * s.creep t.kind →
      s.tripDemand t * s.tripDemand t ≤ 2 * s.classDecel t.kind * d.toNat * 1000000000000) ∧
    (∀ term : Nat → Prop, (∀ v, term v ↔
        (∃ n segs g, t.kind = .cls n ∧ s.class? n = some segs ∧
          segs[activeIndex segs (s.carPos .a)]? = some g ∧ v = g.effective) ∨
        (∃ n segs j g, t.kind = .cls n ∧ s.class? n = some segs ∧ t.dir = .up ∧
          activeIndex segs (s.carPos .a) < j ∧ segs[j]? = some g ∧
          v = rootTerm g.effective (s.classDecel t.kind) ((g.start : Int) - s.carPos .a)) ∨
        (∃ n segs j g above, t.kind = .cls n ∧ s.class? n = some segs ∧ t.dir = .down ∧
          j < activeIndex segs (s.carPos .a) ∧ segs[j]? = some g ∧ segs[j + 1]? = some above ∧
          v = rootTerm g.effective (s.classDecel t.kind) (s.carPos .a - above.start)) ∨
        (∃ n, t.kind = .cls n ∧ s.class? n = none ∧ v = s.creep t.kind) ∨
        (t.kind = .inspection ∧ v = s.inspectionSpeed * 1000000) ∨
        (t.kind = .recovery ∧ v = 300000000) ∨
        (∃ d, s.targetDistance t = some d ∧ v = if 3000 < d
          then rootTerm (s.creep t.kind) (s.classDecel t.kind) (d - 3000) else s.creep t.kind) ∨
        ((s.lgp.position ≠ .referenced ∨ s.hc.unreferencedTrip = true) ∧ v = s.creep t.kind)) →
      (∀ v, term v → s.tripCeiling t ≤ v) ∧
      (term (s.tripCeiling t) ∨ ((∀ v, ¬term v) ∧ s.tripCeiling t = s.creep t.kind)))) ∧
  (∀ (v a : Nat) (d : Int), rootTerm v a d * rootTerm v a d ≤ v * v + 2 * a * d.toNat * 1000000000000 ∧
    v * v + 2 * a * d.toNat * 1000000000000 < (rootTerm v a d + 1) * (rootTerm v a d + 1)) ∧
  (∀ s : State, s.hc.haul = .parked → commandDrive s
    = (if s.bl.brakes.fst.state = .applied then { s with hc := { s.hc with drive := .noTorque } } else s)) ∧
  (∀ (s : State) (k : Nat), s.parkedStop = some k → (followHeading s).hc = { s.hc with
    heading := if k = 0 then .up else if k + 1 = s.stations then .down else s.hc.heading }) ∧
  (∀ (before s : State) (n : Nat),
    (before.classInUse n = true → s.classInUse n = false → s.hc.trip.state ≠ .none →
      applyIdle before n s = applyPending n false s) ∧
    (before.classInUse n = false ∨ s.classInUse n = true ∨ s.hc.trip.state = .none →
      applyIdle before n s = s)) ∧
  (∀ s : State,
    (s.hc.arrivalDue = true → s.hc.haul = .parked → s.bl.brakes.fst.state = .applied →
      s.mau.mode = .automatic → beginCycle s =
        (askReleases { s with hc := { s.hc with arrivalDue := false } }).modHc
          fun x => { x with cycle := .boarding }) ∧
    (∀ (c : Car) (k : Nat),
      (s.mayRelease c k = true → askRelease c k s = releasePair c k s) ∧
      (s.mayRelease c k = false → ((askRelease c k s).dc.pairs.car c).pendingStop = some k)) ∧
    (followDoors s).hc.cycle = (match s.hc.cycle with
      | .boarding => if s.allLocked = true ∧ s.releasePending = false then .ready else .boarding
      | .ready => if s.allLocked = true then .ready else .boarding
      | x => x) ∧
    (s.hc.trip.state = .suspended → attempt s = s) ∧
    (∀ c, s.hc.trip.state ≠ .suspended → s.checkDispatch s.attemptTarget 0 = .error c →
      attempt s = { s with hc := { s.hc with waiting := some c } }) ∧
    (∀ x, s.hc.trip.state ≠ .suspended → s.checkDispatch s.attemptTarget 0 = .ok x →
      attempt s = openTrip x.1 x.2 s)) ∧
  (∀ before s : State,
    (attemptDue before s = true ↔ before.hc.cycle ≠ .ready ∨
      (before.hc.haul ≠ .parked ∧ s.hc.haul = .parked) ∨ slotCleared before.ft s.ft = true ∨
      (before.stu.tension.fst.average = none ∧ s.stu.tension.fst.average ≠ none) ∨
      (before.stu.tension.snd.average = none ∧ s.stu.tension.snd.average ≠ none) ∨
      (before.lgp.position ≠ .referenced ∧ s.lgp.position = .referenced) ∨
      (before.bl.driveReady = false ∧ s.bl.driveReady = true) ∨
      (before.standstill = false ∧ s.standstill = true)) ∧
    (s.hc.cycle = .ready → attemptDue before s = true → (attempt s).hc.cycle = .ready →
      runAttempts before s = attempt s) ∧
    (s.hc.cycle = .ready → attemptDue before s = false → runAttempts before s = s) ∧
    (s.hc.cycle ≠ .ready → runAttempts before s = { s with hc := { s.hc with waiting := none } }))

/-- The eight reads (11 R182). -/
def Obligations.ReadsAnswerTheirReportsAndChangeNothing : Prop :=
  ∀ (s : State) (h : Header),
    (Passes s h .statusRead → DoneWith (.statusRead h) s (s.asTaken h .statusRead)
      (.status (s.asTaken h .statusRead).statusReport)) ∧
    (Passes s h .faultsRead → DoneWith (.faultsRead h) s (s.asTaken h .faultsRead)
      (.faults (s.asTaken h .faultsRead).ft.report)) ∧
    (Passes s h .tripRead → DoneWith (.tripRead h) s (s.asTaken h .tripRead)
      (.trip { trip := (s.asTaken h .tripRead).hc.trip,
               counter := some (s.asTaken h .tripRead).hc.tripCounter })) ∧
    (Passes s h .brakesRead → DoneWith (.brakesRead h) s (s.asTaken h .brakesRead)
      (.brakes ((s.asTaken h .brakesRead).brakesReport false))) ∧
    (Passes s h .tensionRead → DoneWith (.tensionRead h) s (s.asTaken h .tensionRead)
      (.tension (s.asTaken h .tensionRead).tensionReport)) ∧
    (∀ n, Passes s h (.carRead n) →
      (∀ c : Car, n = c.index → DoneWith (.carRead h n) s (s.asTaken h (.carRead n))
        (.car ((s.asTaken h (.carRead n)).carReport c))) ∧
      (1 < n → RefusedWith (.carRead h n) s .bounds)) ∧
    (∀ n place q, q = s.asTaken h (.queueRead n place) → Passes s h (.queueRead n place) →
      (∀ x f, q.gqu.queues[n]? = some x → q.queueFields n = some f →
        DoneWith (.queueRead h n place) s q
          (.queue { fields := f, entries := (x.entries.drop place).take 80 })) ∧
      (q.gqu.queues.length ≤ n → RefusedWith (.queueRead h n place) s .notFound)) ∧
    (∀ n q, q = s.asTaken h (.laneRead n) → Passes s h (.laneRead n) →
      (∀ l, q.lane? n = some l →
        DoneWith (.laneRead h n) s q (.lane { record := l, state := q.laneState l })) ∧
      (q.lane? n = none → RefusedWith (.laneRead h n) s .notFound))

/-- LINE_SET (01 R1 to R3; 06 R93; 08 R127, R137; 09 R158). -/
def Obligations.LineSetLoadsTheLineAndDiscardsWhatHungOnIt : Prop :=
  ∀ (s q : State) (h : Header) (r x : LineRec), q = s.asTaken h (.lineSet r) → x = lineDefaults r →
    Passes s h (.lineSet r) →
    (lineInBounds x = false → RefusedWith (.lineSet h r) s .bounds) ∧
    (lineInBounds x = true → lineSymmetric x = false → RefusedWith (.lineSet h r) s .symmetry) ∧
    (lineInBounds x = true → lineSymmetric x = true → q.hc.haul = .parked ∨ q.hc.haul = .tripped →
      ∃ t, DoneWith (.lineSet h r) s t .empty ∧ t.lgp.line = some x ∧ t.lgp.markers = [] ∧
        t.lgp.corrLimit = 500 ∧ t.lgp.lastMarker = ⟨none, none⟩ ∧
        t.hc.classes = List.replicate 4 none ∧ t.hc.lineMax = none ∧ t.hc.forced = [] ∧
        t.hc.trip = { state := .none, rec? := none, cause := none } ∧
        t.gqu.lanes = [] ∧ t.gqu.batches = ⟨none, none⟩ ∧
        t.gqu.queues = List.replicate (2 * x.stations - 2) { hostClosed := false, entries := [] } ∧
        t.dc.sets.length = x.stations + 2 ∧ t.mau.config = ConfigRecord.lineOnly ∧ t.tt = q.tt)

/-- MARKERS_SET (01 R12, R16). -/
def Obligations.MarkersSetReplacesTheMarkerTable : Prop :=
  ∀ (s q : State) (h : Header) (limit lim : Nat) (l : List MarkerRec),
    q = s.asTaken h (.markersSet limit l) → lim = (if limit = 0 then 500 else limit) →
    Passes s h (.markersSet limit l) →
    (q.lgp.line = none → RefusedWith (.markersSet h limit l) s .notConfigured) ∧
    (∀ r, q.lgp.line = some r →
      (¬(l.length ≤ 24 ∧ within 100 2000 lim = true ∧ l.all (markerOk r) = true ∧
          ascending (l.map MarkerRec.position) = true ∧
          windowsApart (l.filter (fun m => m.visible .a)) = true ∧
          windowsApart (l.filter (fun m => m.visible .b)) = true) →
        RefusedWith (.markersSet h limit l) s .bounds) ∧
      (l.length ≤ 24 → within 100 2000 lim = true → l.all (markerOk r) = true →
        ascending (l.map MarkerRec.position) = true →
        windowsApart (l.filter (fun m => m.visible .a)) = true →
        windowsApart (l.filter (fun m => m.visible .b)) = true →
        ∃ t, DoneWith (.markersSet h limit l) s t .empty ∧
          t = { q with lgp := { q.lgp with
            markers := l, corrLimit := lim, lastMarker := ⟨none, none⟩, watch := t.lgp.watch } } ∧
          ∀ c : Car, t.lgp.watch.car c = (t.markerAt c (t.carPos c)).map (fun j =>
            { marker := j, fromBelow := decide (c = .a), captured := true })))

/-- PROFILE_SET (03 R37; 09 R158). -/
def Obligations.ProfileSetLoadsOneClass : Prop :=
  ∀ (s q : State) (h : Header) (p : ProfileBody) (insp : Nat), q = s.asTaken h (.profileSet p) →
    insp = (if p.inspection = 0 then 1000 else p.inspection) → Passes s h (.profileSet p) →
    (q.lgp.line = none → RefusedWith (.profileSet h p) s .notConfigured) ∧
    (∀ r, q.lgp.line = some r →
      (profileOk r.length q.hc.classes insp p = false → RefusedWith (.profileSet h p) s .bounds) ∧
      (profileOk r.length q.hc.classes insp p = true →
        DoneWith (.profileSet h p) s
          { q with
            hc := { q.hc with
              classes := updateAt (p.cls - 1) (fun _ => some (p.segments.map (fun g =>
                { start := g.start, ceiling := g.ceiling, accel := g.accel, decel := g.decel,
                  falling := none }))) q.hc.classes,
              amendments := updateAt (p.cls - 1) (fun _ => none) q.hc.amendments,
              lineMax := some p.lineMax, inspection := some insp },
            mau := { q.mau with config := { q.mau.config with
              profiles := updateAt (p.cls - 1) (fun _ => true) q.mau.config.profiles } } } .empty))

/-- TENSION_SET (02 R28, R31). -/
def Obligations.TensionSetRestartsBothChannels : Prop :=
  ∀ (s q : State) (h : Header) (one two : TensionSettings), q = s.asTaken h (.tensionSet one two) →
    Passes s h (.tensionSet one two) →
    ((tensionOk one && tensionOk two) = false → RefusedWith (.tensionSet h one two) s .bounds) ∧
    ((tensionOk one && tensionOk two) = true →
      ∃ t, DoneWith (.tensionSet h one two) s t .empty ∧
        t = { q with
          stu := { q.stu with tension := t.stu.tension },
          mau := { q.mau with config := { q.mau.config with tension := true } } } ∧
        ∀ (c : Chan) (x : TensionSettings), x = (⟨one, two⟩ : Two TensionSettings).chan c →
          t.stu.tension.chan c = { q.stu.tension.chan c with
            range := x.range, rate := x.rate, size := x.window, gain := x.gain, offset := x.offset,
            limits := some { min := x.min, max := x.max, standbyMin := x.standbyMin,
                             standbyMax := x.standbyMax },
            window := [], average := none, outside := 0,
            state := if (q.stu.tension.chan c).state = .valid then .filling
              else (q.stu.tension.chan c).state,
            missingDue := if (q.stu.tension.chan c).state = .silent then none
              else some (q.now + 4000000 / (if q.mau.mode = .off then 5 else x.rate)) })

/-- LANES_SET (08 R127). -/
def Obligations.LanesSetBuildsTheLaneTableAnew : Prop :=
  ∀ (s q : State) (h : Header) (lanes : List LaneDesc), q = s.asTaken h (.lanesSet lanes) →
    Passes s h (.lanesSet lanes) →
    (q.lgp.line = none → RefusedWith (.lanesSet h lanes) s .notConfigured) ∧
    (∀ r, q.lgp.line = some r →
      (16 < lanes.length ∨ lanes.all (laneOk r) = false ∨ distinct (lanes.map LaneDesc.lane) = false →
        RefusedWith (.lanesSet h lanes) s .bounds) ∧
      (lanes.length ≤ 16 → lanes.all (laneOk r) = true → distinct (lanes.map LaneDesc.lane) = true →
        ∃ t, DoneWith (.lanesSet h lanes) s t .empty ∧
          t.gqu = { q.gqu with lanes := lanes.map (fun d =>
            { id := d.lane, station := d.station, role := (laneRole? d.role).getD .exit,
              hostClosed := false, jammed := q.gqu.jamIn.getD d.lane false, passage := none,
              lastSerial := none, lastOutcome := none, countDay := q.tt.day, admissions := 0,
              refusals := 0, passages := 0, unpaid := 0 }) } ∧
          t.mau = { q.mau with config := { q.mau.config with lanes := true } } ∧
          t.lgp = q.lgp ∧ t.stu = q.stu ∧ t.hc = q.hc ∧ t.bl = q.bl ∧ t.bpu = q.bpu ∧ t.dc = q.dc ∧
          t.tt = q.tt))

/-- POSTS_SET (09 R156). -/
def Obligations.PostsSetReplacesThePostTable : Prop :=
  ∀ (s q : State) (h : Header) (pairs : List (Nat × Nat)), q = s.asTaken h (.postsSet pairs) →
    Passes s h (.postsSet pairs) →
    ((∃ x ∈ pairs, 7 < x.1 ∨ 3 < x.2) ∨ ¬(pairs.map Prod.fst).Nodup ∨ (∀ x ∈ pairs, x.2 ≠ 0) →
      RefusedWith (.postsSet h pairs) s .bounds) ∧
    ((∀ x ∈ pairs, x.1 ≤ 7 ∧ x.2 ≤ 3) → (pairs.map Prod.fst).Nodup → (∃ x ∈ pairs, x.2 = 0) →
      ∃ t, DoneWith (.postsSet h pairs) s t .empty ∧
        t = mark .mode { q with mau := { q.mau with posts := t.mau.posts } } ∧
        t.mau.posts.length = 8 ∧ (∀ x ∈ pairs, t.mau.posts[x.1]? = some x.2) ∧
        ∀ p, p ≤ 7 → p ∉ pairs.map Prod.fst → t.mau.posts[p]? = some 3)

/-- PARAM_SET, both scopes (09 R157; 08 R144). -/
def Obligations.ParamSetHandsItsFieldsToTheirOwners : Prop :=
  ∀ (s : State) (h : Header) (body p : ParamBody), p = paramDefaults body →
    (Passes s h (.paramSet 1 body) →
      (timingOk p = false → RefusedWith (.paramSetTiming h body) s .bounds) ∧
      (timingOk p = true → DoneWith (.paramSetTiming h body) s
        (takeTiming p (s.asTaken h (.paramSet 1 body))) .empty)) ∧
    (Passes s h (.paramSet 0 body) →
      ((timingOk p && allOk p) = false → RefusedWith (.paramSetAll h body) s .bounds) ∧
      ((timingOk p && allOk p) = true → DoneWith (.paramSetAll h body) s
        (takeAll p (takeTiming p (s.asTaken h (.paramSet 0 body)))) .empty)) ∧
    (∀ q : State, takeTiming p q = { q with
        dc := { q.dc with dwellS := p.dwell }, hc := { q.hc with warningMs := p.warning },
        gqu := { q.gqu with passageMs := p.passageTimeout }, tt := { q.tt with passbackS := p.passback },
        mau := { q.mau with
          supMs := p.supervision,
          supDue := if q.mau.supervision = .running then some (q.now + p.supervision * 1000)
            else q.mau.supDue } }) ∧
    (∀ q : State, takeAll p q = { q with
        gqu := { q.gqu with
          capacity := some p.capacity, mass := p.mass, tolerance := some p.tolerance,
          offsets := p.offsets, loads := (takeAll p q).gqu.loads },
        hc := { q.hc with thresholds := some (p.imb1, p.imb2, p.imb3) },
        mau := { q.mau with config := { q.mau.config with params := true } } } ∧
      ∀ c : Car, (takeAll p q).gqu.loads.car c
        = (q.gqu.loads.car c).bind (fun n => if p.capacity < n then none else some n))

/-- DAY_SET (07 R123). -/
def Obligations.DaySetSetsDayClockAndPassbackList : Prop :=
  ∀ (s q : State) (h : Header) (day time : Nat), q = s.asTaken h (.daySet day time) →
    Passes s h (.daySet day time) →
    (86399999 < time → RefusedWith (.daySet h day time) s .bounds) ∧
    (time ≤ 86399999 → ∃ t, DoneWith (.daySet h day time) s t .empty ∧
      t.tt = { q.tt with
        day := day, clock := time, clockUs := 0,
        passback := if day = q.tt.day then q.tt.passback.filter (fun e => decide (e.time ≤ time))
          else [] } ∧
      (day = q.tt.day → t = { q with tt := t.tt }) ∧
      (day ≠ q.tt.day → t = mark .brakes { q with tt := t.tt }))

/-- WEATHER_SET and FORCE_STOP (03 R41, R48). -/
def Obligations.WeatherAndForcedStopsAreSet : Prop :=
  ∀ (s : State) (h : Header),
    (∀ w q, q = s.asTaken h (.weatherSet w) → Passes s h (.weatherSet w) →
      (∀ x, [Weather.dry, .wet, .ice][w]? = some x →
        DoneWith (.weatherSet h w) s { q with hc := { q.hc with weather := x } } .empty) ∧
      (2 < w → RefusedWith (.weatherSet h w) s .bounds)) ∧
    (∀ k q, q = s.asTaken h (.forceStop k 0) → Passes s h (.forceStop k 0) →
      (k < 1 ∨ q.stations < k + 2 → RefusedWith (.forceStopSet h k) s .bounds) ∧
      (1 ≤ k → k + 2 ≤ q.stations → ∃ t, DoneWith (.forceStopSet h k) s t .empty ∧
        t = { q with hc := { q.hc with forced := t.hc.forced } } ∧
        ∀ j, j ∈ t.hc.forced ↔ j = k ∨ j ∈ q.hc.forced)) ∧
    (∀ k q, q = s.asTaken h (.forceStop k 1) → Passes s h (.forceStop k 1) →
      (k < 1 ∨ q.stations < k + 2 → RefusedWith (.forceStopClear h k) s .bounds) ∧
      (1 ≤ k → k + 2 ≤ q.stations → ∃ t, DoneWith (.forceStopClear h k) s t .empty ∧
        t = { q with hc := { q.hc with forced := t.hc.forced } } ∧
        ∀ j, j ∈ t.hc.forced ↔ j ≠ k ∧ j ∈ q.hc.forced))

/-- TICKETS_LOAD, TICKETS_DROP and TICKET_QUERY (07 R110 to R114, R121). -/
def Obligations.TicketsAreLoadedDroppedAndQueried : Prop :=
  ∀ (s : State) (h : Header),
    (∀ (b : TicketBody) (c : TicketClass) (q : State), q = s.asTaken h (.ticketsLoad b) →
      ticketClass? b.cls = some c → Passes s h (.ticketsLoad b) →
      (b.count < 1 ∨ 4096 < b.count ∨ b.lastDay < b.firstDay ∨ 4294967296 < b.first + b.count →
        RefusedWith (.ticketsLoad h b) s .bounds) ∧
      (1 ≤ b.count → b.count ≤ 4096 → b.firstDay ≤ b.lastDay → b.first + b.count ≤ 4294967296 →
        ((∃ x ∈ q.tt.blocks, x.id = b.block ∨
            (x.first < b.first + b.count ∧ b.first < x.first + x.count)) →
          RefusedWith (.ticketsLoad h b) s .overlap) ∧
        ((∀ x ∈ q.tt.blocks, x.id ≠ b.block ∧
            ¬(x.first < b.first + b.count ∧ b.first < x.first + x.count)) →
          (32 ≤ q.tt.blocks.length → RefusedWith (.ticketsLoad h b) s .full) ∧
          (q.tt.blocks.length < 32 → DoneWith (.ticketsLoad h b) s
            { q with tt := { q.tt with blocks := q.tt.blocks ++
              [{ id := b.block, first := b.first, count := b.count, cls := c, firstDay := b.firstDay,
                 lastDay := b.lastDay,
                 marks := bitmapValue b.bitmap % 2 ^ markCount c b.count }] } } .empty)))) ∧
    (∀ n q, q = s.asTaken h (.ticketsDrop n) → Passes s h (.ticketsDrop n) →
      (q.tt.blocks.find? (fun x => decide (x.id = n)) = none →
        RefusedWith (.ticketsDrop h n) s .notFound) ∧
      (∀ x, q.tt.blocks.find? (fun x => decide (x.id = n)) = some x →
        (q.blockInUse x = true → RefusedWith (.ticketsDrop h n) s .inUse) ∧
        (q.blockInUse x = false → DoneWith (.ticketsDrop h n) s
          { q with tt := { q.tt with blocks := q.tt.blocks.filter (fun y => decide (y.id ≠ n)) } }
          .empty))) ∧
    (∀ n q, q = s.asTaken h (.ticketQuery n) → Passes s h (.ticketQuery n) →
      (q.tt.find n = none → RefusedWith (.ticketQuery h n) s .notFound) ∧
      (∀ x, q.tt.find n = some x → ∃ t r, DoneWith (.ticketQuery h n) s t (.ticket r) ∧
        t = { q with tt := { q.tt with passback := q.tt.passback.filter (fun e =>
          decide (q.tt.clock - e.time ≤ q.tt.passbackS * 1000)) } } ∧
        r.block = x.id ∧ r.cls = x.cls ∧ r.firstDay = x.firstDay ∧ r.lastDay = x.lastDay ∧
        (r.inDays = true ↔ x.firstDay ≤ q.tt.day ∧ q.tt.day ≤ x.lastDay) ∧
        r.passback = t.tt.passback.find? (fun e => decide (e.serial = n)) ∧
        r.marks = (match x.cls with
          | .single => [x.marks.testBit (n - x.first)]
          | .return => [x.marks.testBit (2 * (n - x.first)), x.marks.testBit (2 * (n - x.first) + 1)]
          | .day => []
          | .staff => [])))

/-- MODE_SET (09 R150, R151, R159, R161; 02 R35; 03 R45, R61; 04 R82).  That a number which names no mode
is refused with STATE is the model's choice (log 16). -/
def Obligations.ModeSetChangesTheModeAndHandsItOn : Prop :=
  ∀ (s q : State) (h : Header) (n : Nat), q = s.asTaken h (.modeSet n) → Passes s h (.modeSet n) →
    (mode? n = none → RefusedWith (.modeSet h n) s .state) ∧
    (∀ m, mode? n = some m →
      (m = q.mau.mode → DoneWith (.modeSet h n) s q .empty) ∧
      (m ≠ q.mau.mode → modeRow q.mau.mode m = none → RefusedWith (.modeSet h n) s .state) ∧
      (∀ row c, m ≠ q.mau.mode → modeRow q.mau.mode m = some row →
        firstRefusal (row.checks q) = some c → RefusedWith (.modeSet h n) s c) ∧
      (∀ row, m ≠ q.mau.mode → modeRow q.mau.mode m = some row →
        firstRefusal (row.checks q) = none →
        ∃ t, DoneWith (.modeSet h n) s t .empty ∧ t.mau.mode = m ∧ t.mau.posts = q.mau.posts ∧
          t.lgp = q.lgp ∧ t.tt = q.tt ∧
          (m = .off → t.mau.supervision = .suspended ∧ t.mau.wakeSet = [] ∧ t.mau.wakeCount = 0 ∧
            t.mau.standbyTravel = 0) ∧
          (q.mau.mode = .off → t.mau.supervision = .running ∧
            t.mau.supDue = some (q.now + q.mau.supMs * 1000)) ∧
          (m = .off → t.gqu.batches = ⟨none, none⟩ ∧ t.bl = { q.bl with brakes := ⟨q.bl.brakes.fst,
            if q.bl.brakes.snd.state = .released ∨ q.bl.brakes.snd.state = .releasing
              then { q.bl.brakes.snd with state := .applying, proofDue := some (q.now + 800000) }
              else q.bl.brakes.snd⟩ }) ∧
          (m ≠ .off → t.bl = q.bl) ∧
          (m = .off ∨ q.mau.mode = .off → t.stu.speed = q.stu.speed ∧ ∀ (ch : Chan) (x : TensionChannel),
            x = q.stu.tension.chan ch → t.stu.tension.chan ch = { x with
              window := [], average := none, outside := 0,
              state := if x.state = .valid then .filling else x.state,
              missingDue := if x.state = .silent then none
                else some (q.now + 4000000 / (if m = .off then 5 else x.rate)),
              standbyFlag := if m = .off then false else x.standbyFlag }) ∧
          (m ≠ .off → q.mau.mode ≠ .off → t.stu = q.stu) ∧
          (q.hc.trip.state = .suspended →
            ¬((q.mau.mode = .automatic ∧ m = .attended) ∨ (q.mau.mode = .attended ∧ m = .automatic)) →
            t.hc.trip = { q.hc.trip with state := .abandoned, cause := some .hold } ∧
            (q.hc.trip.committed = false → t.gqu.batches = ⟨none, none⟩)) ∧
          (q.hc.trip.state ≠ .suspended ∨ (q.mau.mode = .automatic ∧ m = .attended) ∨
            (q.mau.mode = .attended ∧ m = .automatic) → t.hc.trip = q.hc.trip) ∧
          (m = .automatic → t.hc.cycle = .boarding) ∧
          (q.mau.mode = .automatic → t.hc.cycle = .none ∧ t.dc.dwell = .idle ∧
            t.releasePending = false)))

/-- DISPATCH (03 R41, R45, R50, R51). That NEAREST with a number that names no direction is BOUNDS is the
model's choice (log 16). -/
def Obligations.DispatchOpensATripInWarning : Prop :=
  ∀ (s q : State) (h : Header) (target direction : Nat), q = s.asTaken h (.dispatch target direction) →
    Passes s h (.dispatch target direction) →
    (∀ c, firstRefusal [
        (decide (q.hc.haul = .parked) && q.standstill && q.bl.driveReady, .state),
        (!q.mau.mode.inService || decide (q.lgp.position = .referenced), .state),
        (!q.mau.mode.inService || q.stop.isSome, .offStop),
        (q.targetOk target direction, .bounds),
        ((q.route target direction).isSome, .direction),
        (q.allLocked, .state),
        (!q.ft.blocksDispatch q.mau.mode, .blockedByFault),
        (q.stu.tension.fst.average.isSome && q.stu.tension.snd.average.isSome, .state),
        (!q.mau.mode.inService || (q.recordValid .holding && q.recordValid .emergency), .brakeTestDue)] = some c →
      RefusedWith (.dispatch h target direction) s c) ∧
    (∀ x, q.hc.haul = .parked → q.standstill = true → q.bl.driveReady = true →
      (q.mau.mode.inService = true → q.lgp.position = .referenced ∧ q.stop.isSome = true ∧
        q.recordValid .holding = true ∧ q.recordValid .emergency = true) →
      q.targetOk target direction = true → q.route target direction = some x → q.allLocked = true →
      q.ft.blocksDispatch q.mau.mode = false → q.stu.tension.fst.average.isSome = true →
      q.stu.tension.snd.average.isSome = true →
      ∃ t, DoneWith (.dispatch h target direction) s t (.tripNumber ((q.hc.tripCounter + 1) % 65536)) ∧
        t.hc.haul = .warning ∧ t.hc.warnDue = some (q.now + q.hc.warningMs * 1000) ∧
        t.hc.drive = .noTorque ∧ t.hc.cycle = .none ∧
        t.hc.tripCounter = (q.hc.tripCounter + 1) % 65536 ∧
        t.hc.trip = {
          state := .active, cause := none,
          rec? := some {
            number := (q.hc.tripCounter + 1) % 65536, origin := q.stop, target := x.1, dir := x.2,
            kind := q.tripKind, committed := false, batches := none, reapproach := false,
            startTime := q.tt.clock, topSpeed := 0 } } ∧
        t.lgp = q.lgp ∧ t.bl = q.bl ∧ t.dc = q.dc ∧ t.tt = q.tt ∧ t.mau = q.mau ∧ t.ft = q.ft)

/-- HOLD (03 R51, R53, R59; 04 R73). -/
def Obligations.HoldStopsATripOrAbandonsADeparture : Prop :=
  ∀ (s q : State) (h : Header), q = s.asTaken h .hold → Passes s h .hold →
    (q.hc.haul = .running ∨ q.hc.haul = .approach → ∃ t, DoneWith (.hold h) s t .empty ∧
      t.hc.haul = .stopping ∧ t.hc.trip = q.hc.trip ∧ t.bl = { q.bl with
        stop := some { stage := 1, start := q.now, ceiling := q.ceiling, cause := .hold, sample := none,
                       nextDue := q.now + 500000 } }) ∧
    (q.hc.haul = .stopping → DoneWith (.hold h) s q .empty) ∧
    (q.hc.haul = .warning ∨ q.hc.haul = .releasing → ∃ t, DoneWith (.hold h) s t .empty ∧
      t.hc.haul = .parked ∧ t.hc.trip.state = .abandoned ∧ t.hc.trip.cause = some .hold ∧
      (q.mau.mode = .automatic → t.hc.cycle = .held) ∧
      (q.hc.haul = .warning → t.hc.warnDue = none ∧ t.bl = q.bl) ∧
      (q.hc.haul = .releasing → t.bl.brakes.fst.state = .applying ∨ t.bl.brakes.fst.state = .applied)) ∧
    (q.hc.haul = .parked ∨ q.hc.haul = .tripped ∨ q.hc.haul = .brakeTest →
      RefusedWith (.hold h) s .state)

/-- RESUME (03 R60, R61). Of a RESUME during a brake test (05 R90) see log 43. -/
def Obligations.ResumeContinuesASuspendedTrip : Prop :=
  ∀ (s q : State) (h : Header), q = s.asTaken h .resume → Passes s h .resume →
    (∀ t0 d, ¬(q.mau.mode = .automatic ∧ q.hc.cycle = .held ∧ q.parkedStop.isSome = true) →
      q.hc.haul = .parked → q.standstill = true → q.bl.driveReady = true →
      q.hc.trip.state = .suspended → q.lgp.position = .referenced → q.hc.trip.rec? = some t0 →
      q.targetDistance t0 = some d → (q.stopWindow : Int) < d → q.departureChecks = none →
      ∃ t, DoneWith (.resume h) s t (.resumeNumber (some t0.number)) ∧
        t.hc.haul = .warning ∧ t.hc.warnDue = some (q.now + q.hc.warningMs * 1000) ∧
        t.hc.drive = .noTorque ∧
        t.hc.trip = { state := .active, rec? := some { t0 with kind := q.tripKind }, cause := none } ∧
        t = { q with hc := t.hc }) ∧
    (q.mau.mode = .automatic → q.hc.cycle = .held → q.parkedStop.isSome = true →
      ∃ t, DoneWith (.resume h) s t
          (.resumeNumber (if t.hc.haul = .warning then t.hc.trip.number else none)) ∧
        t = attempt { q with hc := { q.hc with cycle := .ready } }) ∧
    (∀ t0 c, ¬(q.mau.mode = .automatic ∧ q.hc.cycle = .held ∧ q.parkedStop.isSome = true) →
      q.hc.trip.rec? = some t0 →
      firstRefusal [
        (decide (q.hc.haul = .parked) && q.standstill && q.bl.driveReady, .state),
        (decide (q.hc.trip.state = .suspended), .state),
        (decide (q.lgp.position = .referenced), .state),
        ((q.targetDistance t0).any (fun d => decide ((q.stopWindow : Int) < d)), .direction),
        (q.allLocked, .state),
        (!q.ft.blocksDispatch q.mau.mode, .blockedByFault),
        (q.stu.tension.fst.average.isSome && q.stu.tension.snd.average.isSome, .state),
        (!q.mau.mode.inService || (q.recordValid .holding && q.recordValid .emergency), .brakeTestDue)] = some c →
      RefusedWith (.resume h) s c) ∧
    (q.hc.trip.rec? = none → ¬(q.mau.mode = .automatic ∧ q.hc.cycle = .held ∧ q.parkedStop.isSome = true) →
      RefusedWith (.resume h) s .state) ∧
    (q.hc.haul = .brakeTest → RefusedWith (.resume h) s .state)

/-- STOP_NOW (04 R72, R78). -/
def Obligations.StopNowTripsTheHaulInEveryState : Prop :=
  ∀ (s q : State) (h : Header), q = s.asTaken h .stopNow → Passes s h .stopNow →
    ∃ t, DoneWith (.stopNow h) s t .empty ∧ t.hc.haul = .tripped ∧ t.hc.drive = .noTorque ∧
      (q.hc.haul = .brakeTest → t.bpu.test = none) ∧
      t.ft = q.ft.raised ⟨.operatorEmergency, 0⟩ q.tt.clock ∧
      ∀ b : Brake, (t.bl.brakes.brake b).state ≠ .released ∧ (t.bl.brakes.brake b).state ≠ .releasing

/-- TRIP_RESET (04 R79 to R81, R65; the stop of a haul with a car in overtravel is log 42). -/
def Obligations.TripResetParksATrippedHaul : Prop :=
  ∀ (s q : State) (h : Header) (exception : Bool), q = s.asTaken h .tripReset → Passes s h .tripReset →
    exception = (decide (q.effectiveLevel h = 0) && decide (q.mau.mode = .inspection)) →
    (q.hc.haul ≠ .tripped ∨ q.standstill = false ∨ q.bl.brakes.fst.state ≠ .applied ∨
      q.bl.brakes.snd.state ≠ .applied → RefusedWith (.tripReset h) s .state) ∧
    (q.hc.haul = .tripped → q.standstill = true → q.bl.brakes.fst.state = .applied →
      q.bl.brakes.snd.state = .applied →
      (q.ft.entries.any (fun e => decide (e.cls = .emergency) && decide (e.record.state = .active) &&
          !(exception && decide (e.key.code = .overtravel))) = true →
        RefusedWith (.tripReset h) s .blockedByFault) ∧
      (q.ft.entries.any (fun e => decide (e.cls = .emergency) && decide (e.record.state = .active) &&
          !(exception && decide (e.key.code = .overtravel))) = false →
        ∃ t, DoneWith (.tripReset h) s t .empty ∧ t.hc.haul = .parked ∧ t.hc.drive = .noTorque ∧
          t.ft.presentClass .emergency = false ∧ t.bl.brakes.fst = q.bl.brakes.fst ∧
          (q.mau.mode = .off → t.bl = q.bl) ∧
          (q.lgp.overtravel.fst ≠ none ∨ q.lgp.overtravel.snd ≠ none → t.parkedStop = none) ∧
          (q.lgp.overtravel = ⟨none, none⟩ → t.parkedStop = q.windowStop) ∧
          (q.mau.mode ≠ .off → t.bl.brakes.snd = { q.bl.brakes.snd with
            state := .releasing, proofDue := some (q.now + 2000000) })))

/-- DOORS OPEN (06 R96, R98 to R100). -/
def Obligations.DoorsOpenReleasesAPairAtTheStop : Prop :=
  ∀ (s q : State) (h : Header) (pair : Nat), q = s.asTaken h (.doors 0 pair 0) →
    Passes s h (.doors 0 pair 0) →
    (1 < pair → RefusedWith (.doorsOpen h pair) s .bounds) ∧
    (∀ c : Car, pair = c.index →
      (q.stop = none → RefusedWith (.doorsOpen h pair) s .state) ∧
      (∀ k, q.stop = some k →
        (q.mayRelease c k = false → RefusedWith (.doorsOpen h pair) s .state) ∧
        (q.mayRelease c k = true → (q.dc.pairs.car c).released = none →
          ∃ t, DoneWith (.doorsOpen h pair) s t .empty ∧
            (t.dc.pairs.car c).released
              = some { stop := k, closeDemand := false, closureStopped := false } ∧
            (∀ i ∈ q.pairSets c k, ∀ x, t.doorState? i = some x → x = .opening ∨ x = .open) ∧
            t.dc.dwell = (if q.mau.mode = .automatic ∧ q.dc.dwell = .expired then .idle else q.dc.dwell) ∧
            t.lgp = q.lgp ∧ t.bl = q.bl ∧ t.ft = q.ft ∧ t.tt = q.tt ∧ t.mau = q.mau) ∧
        (∀ r, q.mayRelease c k = true → (q.dc.pairs.car c).released = some r → r.stop = k →
          ∃ t, DoneWith (.doorsOpen h pair) s t .empty ∧
            (t.dc.pairs.car c).released = some { r with closeDemand := false } ∧
            (∀ i ∈ q.pairSets c k, ∀ d, q.dc.sets[i]? = some d →
              (d.state = .closing ∨ d.state = .locked ∨ d.state = .unproven →
                (t.doorState? i = some .opening ∨ t.doorState? i = some .open) ∧
                (t.dc.sets[i]?).map DoorSet.reopen = some d.reopen) ∧
              (d.state = .opening ∨ d.state = .open → t.dc.sets[i]? = some d)) ∧
            t.dc.dwell = (if q.mau.mode = .automatic ∧ q.dc.dwell = .expired then .idle else q.dc.dwell) ∧
            t.lgp = q.lgp ∧ t.bl = q.bl ∧ t.ft = q.ft ∧ t.tt = q.tt ∧ t.mau = q.mau)))

/-- DOORS CLOSE (06 R102, R103). -/
def Obligations.DoorsCloseClosesAReleasedPair : Prop :=
  ∀ (s q : State) (h : Header) (pair : Nat), q = s.asTaken h (.doors 1 pair 0) →
    Passes s h (.doors 1 pair 0) →
    (1 < pair → RefusedWith (.doorsClose h pair) s .bounds) ∧
    (∀ c : Car, pair = c.index →
      ((q.dc.pairs.car c).released = none → DoneWith (.doorsClose h pair) s q .empty) ∧
      (∀ r, (q.dc.pairs.car c).released = some r →
        (∀ i ∈ q.pairSets c r.stop, (q.doorIn i).closed = false ∧ (q.doorIn i).obstructed = false) →
        ∃ t, DoneWith (.doorsClose h pair) s t .empty ∧
          (t.dc.pairs.car c).released = some { r with closeDemand := true, closureStopped := false } ∧
          (∀ i ∈ q.pairSets c r.stop, ∀ d, q.dc.sets[i]? = some d →
            d.state = .opening ∨ d.state = .open ∨ d.state = .unproven →
            t.dc.sets[i]? = some { d with
              state := .closing, command := .close,
              proof := some { start := q.tt.clock, due := q.now + 6000000 },
              reopen := 0, hold := false }) ∧
          t.lgp = q.lgp ∧ t.bl = q.bl ∧ t.hc = q.hc ∧ t.ft = q.ft ∧ t.tt = q.tt ∧ t.mau = q.mau))

/-- DOORS HOLD (06 R101, R103; log 18 for the UNPROVEN set). -/
def Obligations.DoorsHoldSetsAndClearsTheHoldFlags : Prop :=
  ∀ (s : State) (h : Header) (pair : Nat),
    (∀ q, q = s.asTaken h (.doors 2 pair 0) → Passes s h (.doors 2 pair 0) →
      (1 < pair → RefusedWith (.doorsHoldSet h pair) s .bounds) ∧
      (∀ c : Car, pair = c.index →
        ((q.dc.pairs.car c).released = none → RefusedWith (.doorsHoldSet h pair) s .state) ∧
        (∀ r, (q.dc.pairs.car c).released = some r →
          ∃ t, DoneWith (.doorsHoldSet h pair) s t .empty ∧
            t = { q with dc := { q.dc with sets := t.dc.sets } } ∧
            (∀ i ∈ q.pairSets c r.stop,
              t.dc.sets[i]? = (q.dc.sets[i]?).map (fun d => { d with hold := true })) ∧
            ∀ i, i ∉ q.pairSets c r.stop → t.dc.sets[i]? = q.dc.sets[i]?))) ∧
    (∀ q, q = s.asTaken h (.doors 2 pair 1) → Passes s h (.doors 2 pair 1) →
      (1 < pair → RefusedWith (.doorsHoldClear h pair) s .bounds) ∧
      (∀ c : Car, pair = c.index →
        ((q.dc.pairs.car c).released = none → DoneWith (.doorsHoldClear h pair) s q .empty) ∧
        (∀ r, (q.dc.pairs.car c).released = some r →
          q.mau.mode ≠ .automatic ∨ q.dc.dwell ≠ .expired ∨ r.closureStopped = true ∨
            r.closeDemand = true →
          ∃ t, DoneWith (.doorsHoldClear h pair) s t .empty ∧
            t = { q with dc := { q.dc with sets := t.dc.sets } } ∧
            (∀ i ∈ q.pairSets c r.stop,
              t.dc.sets[i]? = (q.dc.sets[i]?).map (fun d => { d with hold := false })) ∧
            ∀ i, i ∉ q.pairSets c r.stop → t.dc.sets[i]? = q.dc.sets[i]?) ∧
        (∀ r, (q.dc.pairs.car c).released = some r → q.mau.mode = .automatic → q.dc.dwell = .expired →
          r.closureStopped = false → r.closeDemand = false →
          (∀ i ∈ q.pairSets c r.stop, (q.doorIn i).closed = false ∧ (q.doorIn i).obstructed = false) →
          ∃ t, DoneWith (.doorsHoldClear h pair) s t .empty ∧
            (t.dc.pairs.car c).released = some { r with closeDemand := true } ∧ t.dc.dwell = .expired ∧
            ((∀ j ∈ q.pairSets c r.stop, ∀ d, q.dc.sets[j]? = some d →
                d.state ≠ .opening ∧ d.state ≠ .closing) →
              ∀ i ∈ q.pairSets c r.stop, ∀ d, q.dc.sets[i]? = some d → t.dc.sets[i]?
                = some (if d.state = .locked then { d with hold := false }
                    else { d with
                      state := .closing, command := .close,
                      proof := some { start := q.tt.clock, due := q.now + 6000000 }, hold := false })) ∧
            ((∃ j ∈ q.pairSets c r.stop, ∃ d, q.dc.sets[j]? = some d ∧
                (d.state = .opening ∨ d.state = .closing)) →
              ∀ i ∈ q.pairSets c r.stop,
                t.dc.sets[i]? = (q.dc.sets[i]?).map (fun d => { d with hold := false })) ∧
            t.lgp = q.lgp ∧ t.bl = q.bl ∧ t.hc = q.hc ∧ t.ft = q.ft ∧ t.mau = q.mau ∧ t.gqu = q.gqu)))

/-- LANE and QUEUE (08 R129, R139; 10 R174). -/
def Obligations.LaneAndQueueOperationsActOnTheirFlags : Prop :=
  ∀ (s : State) (h : Header),
    (∀ (n : Nat) (close : Bool) (i : Instr) (r : Request) (q : State),
      i = (if close then .laneClose h n else .laneOpen h n) →
      r = .lane n (if close then 1 else 0) → q = s.asTaken h r → Passes s h r →
      (q.lane? n = none → RefusedWith i s .notFound) ∧
      ((q.lane? n).isSome = true → DoneWith i s
        { q with gqu := { q.gqu with lanes := q.gqu.lanes.map (fun l =>
          if l.id = n then { l with hostClosed := close } else l) } } .empty)) ∧
    (∀ (n : Nat) (q : State), q = s.asTaken h (.lane n 2) → Passes s h (.lane n 2) →
      (q.lane? n = none → RefusedWith (.laneClear h n) s .notFound) ∧
      ((q.lane? n).isSome = true → q.gqu.jamIn.getD n false = true →
        RefusedWith (.laneClear h n) s .state) ∧
      ((q.lane? n).isSome = true → q.gqu.jamIn.getD n false = false →
        DoneWith (.laneClear h n) s
          { q with
            gqu := { q.gqu with lanes := q.gqu.lanes.map (fun l =>
              if l.id = n then { l with jammed := false } else l) },
            ft := q.ft.removed (fun k _ => decide (k = ⟨.gateLaneFault, n⟩)) } .empty)) ∧
    (∀ (n : Nat) (close : Bool) (i : Instr) (r : Request) (q : State),
      i = (if close then .queueClose h n else .queueOpen h n) →
      r = .queue n (if close then 1 else 0) → q = s.asTaken h r → Passes s h r →
      (q.gqu.queues.length ≤ n → RefusedWith i s .notFound) ∧
      (n < q.gqu.queues.length → DoneWith i s
        { q with gqu := { q.gqu with
          queues := updateAt n (fun x => { x with hostClosed := close }) q.gqu.queues } } .empty))

/-- AMEND (03 R39, R40). -/
def Obligations.AmendWaitsWhileTheClassIsInUse : Prop :=
  ∀ (s q : State) (h : Header) (n g v a d : Nat), q = s.asTaken h (.amend n g v a d) →
    Passes s h (.amend n g v a d) →
    (n = 0 ∨ q.class? n = none → RefusedWith (.amend h n g v a d) s .notFound) ∧
    (∀ segs, n ≠ 0 → q.class? n = some segs →
      (segs.length ≤ g → RefusedWith (.amend h n g v a d) s .notFound) ∧
      (g < segs.length →
        ((within 300 (q.hc.lineMax.getD 0) v && within 50 2000 a && within 50 2000 d) = false →
          RefusedWith (.amend h n g v a d) s .bounds) ∧
        ((within 300 (q.hc.lineMax.getD 0) v && within 50 2000 a && within 50 2000 d) = true →
          (q.classInUse n = true → DoneWith (.amend h n g v a d) s
            { q with hc := { q.hc with amendments := updateAt (n - 1) (fun _ =>
              some { segment := g, ceiling := v, accel := a, decel := d }) q.hc.amendments } }
            (.amended true)) ∧
          (q.classInUse n = false → DoneWith (.amend h n g v a d) s
            { q with hc := { q.hc with
              classes := updateAt (n - 1) (fun c => c.map (updateAt g (fun x =>
                { x with ceiling := v, accel := a, decel := d, falling := none }))) q.hc.classes,
              amendments := updateAt (n - 1) (fun _ => none) q.hc.amendments } }
            (.amended false)))))

/-- BRAKE_TEST (05 R85 to R87). -/
def Obligations.BrakeTestLiftsTheOtherBrakeAndBegins : Prop :=
  ∀ (s q : State) (h : Header) (n m torque duration : Nat), q = s.asTaken h (.brakeTest n m torque duration) →
    Passes s h (.brakeTest n m torque duration) →
    (1 < n ∨ 1 < m ∨ torque < 10 ∨ 150 < torque ∨ duration < 1000 ∨ 10000 < duration →
      RefusedWith (.brakeTest h n m torque duration) s .bounds) ∧
    (∀ (b : Brake) (d : Dir), n = b.index → m = (if d = .up then 0 else 1) → 10 ≤ torque → torque ≤ 150 →
      1000 ≤ duration → duration ≤ 10000 →
      (∀ c, firstRefusal [
          (decide (q.hc.haul = .parked) && q.standstill && q.bl.driveReady, .state),
          (q.windowStop.isSome, .offStop),
          (q.allLocked, .state),
          (!q.ft.presentClass .emergency && !q.ft.presentClass .service, .blockedByFault),
          (decide ((q.bl.brakes.brake b).state = .applied) &&
            (decide ((q.bl.brakes.brake b.other).state = .applied) ||
              decide ((q.bl.brakes.brake b.other).state = .released)), .state)] = some c →
        RefusedWith (.brakeTest h n m torque duration) s c) ∧
      (q.hc.haul = .parked → q.standstill = true → q.bl.driveReady = true → q.windowStop.isSome = true →
      q.allLocked = true → q.ft.presentClass .emergency = false → q.ft.presentClass .service = false →
      (q.bl.brakes.brake b).state = .applied →
      ((q.bl.brakes.brake b.other).state = .applied →
        ∃ t, DoneWith (.brakeTest h n m torque duration) s t .empty ∧ t.hc.haul = .brakeTest ∧
          t.hc.drive = .noTorque ∧ (t.bl.brakes.brake b.other).state = .releasing ∧
          t.bl.brakes.brake b = q.bl.brakes.brake b ∧
          t.bpu = { q.bpu with
            pulseDue := none, test := some { brake := b, dir := d, torque := torque, duration := duration,
                                             phase := .lifting, start := none, slip := none } }) ∧
      ((q.bl.brakes.brake b.other).state = .released →
        ∃ t, DoneWith (.brakeTest h n m torque duration) s t .empty ∧ t.hc.haul = .brakeTest ∧
          t.hc.drive = .test d torque ∧ t.bl = q.bl ∧
          t.bpu = { q.bpu with
            pulseDue := some (q.now + duration * 1000),
            test := some { brake := b, dir := d, torque := torque, duration := duration,
                           phase := .pulse, start := some q.lgp.p, slip := some 0 } })))

/-- FAULTS_ACK (10 R173). -/
def Obligations.FaultsAckRemovesEndedServiceAndBlockSlots : Prop :=
  ∀ (s q : State) (h : Header), q = s.asTaken h .faultsAck → Passes s h .faultsAck → q.tableSound →
    ∃ t n, DoneWith (.faultsAck h) s t (.removed n) ∧ t = { q with ft := t.ft } ∧
      (∀ k ∈ allKeys, t.ft.slot k = (match q.ft.slot k with
        | none => none
        | some r => if (k.code.cls = .service ∨ k.code.cls = .block) ∧ r.state = .ended then none
            else some r)) ∧
      n + t.ft.entries.length = q.ft.entries.length ∧ n ≤ 39

/-- RESTART and RESTART_LINE (09 R164; 08 R149; 03 R46, R63; 04 R83; 06 R109; 10 R176; 11 R186; the order
of the blocks is log 23). -/
def Obligations.RestartEmptiesTheTrafficAndKeepsTheConfiguration : Prop :=
  (∀ (s q : State) (h : Header), q = s.asTaken h .restart → Passes s h .restart →
    (¬((q.hc.haul = .parked ∨ q.hc.haul = .tripped) ∧ q.standstill = true) →
      RefusedWith (.restart h) s .state) ∧
    (q.hc.haul = .parked ∨ q.hc.haul = .tripped → q.standstill = true →
      DoneWith (.restart h) s (lineRestart q) .empty)) ∧
  (∀ s : State, Happens .restartLine s (lineRestart s)) ∧
  (∀ q : State,
    let t := lineRestart q
    (∀ x ∈ t.gqu.queues, x.entries = []) ∧ t.gqu.queues.length = q.gqu.queues.length ∧
    (∀ l ∈ t.gqu.lanes, l.passage = none) ∧ t.gqu.batches = ⟨none, none⟩ ∧
    t.gqu.loads = ⟨none, none⟩ ∧ t.hc.forced = [] ∧
    t.mau.mode = (if q.mau.mode = .automatic then .attended else q.mau.mode) ∧
    t.mau.config = q.mau.config ∧ t.mau.posts = q.mau.posts ∧ t.tt = q.tt ∧
    t.lgp.line = q.lgp.line ∧ t.lgp.markers = q.lgp.markers ∧ t.now = q.now ∧
    t.ll.holding = q.ll.holding ∧ t.ll.replySlot = q.ll.replySlot ∧
    (∃ l, t.ll.notices = [.haul, .mode] ++ l) ∧
    t.hc.trip = { q.hc.trip with
      state := .none,
      cause := if q.hc.trip.state = .active ∨ q.hc.trip.state = .suspended then some .restart
        else q.hc.trip.cause } ∧
    (q.standstill = false ∨ q.hc.haul = .tripped ∨ t.ft.presentClass .emergency = true →
      t.hc.haul = .tripped) ∧
    (q.standstill = true → q.hc.haul ≠ .tripped →
      (t.ft.presentClass .emergency = false → t.hc.haul = .parked) ∧
      (∀ k, q.stop = some k → t.hc.heading
        = if k = 0 then .up else if k + 1 = q.stations then .down else q.hc.heading)) ∧
    (∀ c : Car,
      ((t.ft.slot ⟨.carBrakeTripped, c.index⟩).isSome = true ↔ (q.hc.carLine.car c).brakeApplied = true) ∧
      ((t.ft.slot ⟨.carEmergencyRequest, c.index⟩).isSome = true
        ↔ (q.hc.carLine.car c).buttonPressed = true)) ∧
    (∀ i, i < 8 →
      ((t.ft.slot ⟨.doorUnproven, i⟩).isSome = true ↔ q.doorState? i = some .unproven) ∧
      ((t.ft.slot ⟨.doorObstructed, i⟩).isSome = true
        ↔ ∃ d, q.dc.sets[i]? = some d ∧ 3 ≤ d.reopen ∧ d.state ≠ .locked)) ∧
    (∀ c : Chan,
      ((t.ft.slot ⟨.tensionChannelFault, c.index⟩).isSome = true
        ↔ (q.stu.tension.chan c).state = .silent ∨ (q.stu.tension.chan c).state = .recovering) ∧
      ((t.ft.slot ⟨.ropeTensionLimit, c.index⟩).isSome = true
        ↔ (q.stu.tension.chan c).limitCondition = true)) ∧
    (∀ n, n < 16 → ((t.ft.slot ⟨.gateLaneFault, n⟩).isSome = true
      ↔ ∃ l ∈ q.gqu.lanes, l.id = n ∧ l.jammed = true)) ∧
    (∀ k r, k.code ∈ [FaultCode.carBrakeTripped, .carEmergencyRequest, .doorUnproven, .doorObstructed,
        .tensionChannelFault, .ropeTensionLimit] → k ∈ allKeys → t.ft.slot k = some r →
      r.count = 1 ∧ r.first = q.tt.clock ∧ r.last = q.tt.clock) ∧
    (∀ k ∈ allKeys, k.code ∈ [FaultCode.operatorEmergency, .brakeEscalated, .carLinkLost, .supervisionLost,
        .stopOverrun, .brakeTestFailed, .doorTimeout, .loadDisagree] → t.ft.slot k = none))

/-- ENCODER_EDGE, ESTIMATE_DECAY, EFFECTIVE_CEILING_FALL and LINE_CLOCK_STOP (01 R6, R16, R17; 02 R20; 03
R40, R43, R45; 07 R124; 09 R163). The model's choices: the time comes with the command (log 2), watches
before overtravel (log 45), overtravel before the slip of a brake test and before the commit of a trip (log
44), the rate at which a ceiling falls (log 14), the exact standby travel (log 35). -/
def Obligations.EdgesMoveTheRopeAndTimePasses : Prop :=
  ∀ s : State,
    (∀ (e : Encoder) (d : Dir) (n : Nat), ∃ t, Happens (.encoderEdge e d n) s t ∧ t.now = s.now + n ∧
      (∀ ch, ch = s.stu.speed.encoder e → t.stu.speed.encoder e = { ch with
        lastEdge := some (s.now + n), quiet := false, quietDue := some (s.now + n + 500000),
        history := if s.lgp.line.isSome = true
          then (if ch.sense = some d
            then (ch.history ++ [s.now + n]).drop ((ch.history ++ [s.now + n]).length - 9)
            else [s.now + n])
          else ch.history,
        sense := if s.lgp.line.isSome = true then some d else ch.sense }) ∧
      (∀ e', e' ≠ e → t.stu.speed.encoder e' = s.stu.speed.encoder e') ∧
      t.lgp.p = (if e = .drive ∧ s.lgp.line.isSome = true then s.lgp.p + d.sign * 1000 else s.lgp.p) ∧
      (∀ q, q = followTopSpeed (speedEdge e d (passTime n s)) →
        (e = .sheave → t = q) ∧
        (e = .drive → t = judgeMovement q (standbyEdge d (judgeOvertravel .b (judgeOvertravel .a
          (enterWindow .b (q.carPos .b) (leaveWindow .b
            (enterWindow .a (q.carPos .a) (leaveWindow .a (countEdge d q))))))))))) ∧
    (∀ r, s.hc.trip.state = .active → s.hc.trip.rec? = some r → followTopSpeed s = { s with hc := { s.hc with
      trip := { s.hc.trip with rec? := some { r with topSpeed := max r.topSpeed s.lineSpeed } } } }) ∧
    (s.hc.trip.state ≠ .active → followTopSpeed s = s) ∧
    (∀ (c : Car) (w : Watch) (m : MarkerRec), s.lgp.watch.car c = some w →
      s.lgp.markers[w.marker]? = some m →
      (((s.carPos c - m.position).natAbs ≤ m.window) → leaveWindow c s = s) ∧
      (m.window < (s.carPos c - m.position).natAbs →
        (w.captured = false → (w.fromBelow = true ↔ (m.position : Int) < s.carPos c) →
          leaveWindow c s = raise ⟨.markerMissed, c.index⟩
            { s with lgp := { s.lgp with watch := s.lgp.watch.setCar c none } }) ∧
        (w.captured = true ∨ ¬(w.fromBelow = true ↔ (m.position : Int) < s.carPos c) →
          leaveWindow c s = { s with lgp := { s.lgp with watch := s.lgp.watch.setCar c none } }))) ∧
    (∀ (c : Car) (x : Int),
      (s.lgp.position ≠ .referenced ∨ s.markerAt c (s.carPos c) = none ∨
        (s.lgp.watch.car c).map Watch.marker = s.markerAt c (s.carPos c) → enterWindow c x s = s) ∧
      (∀ j, s.lgp.position = .referenced → s.markerAt c (s.carPos c) = some j →
        (s.lgp.watch.car c).map Watch.marker ≠ some j →
        (enterWindow c x s).lgp = { s.lgp with watch := s.lgp.watch.setCar c (some
          { marker := j, fromBelow := decide (x < s.carPos c), captured := false }) })) ∧
    (∀ (c : Car) (side : Option Side), side = (match s.lgp.line with
        | none => none
        | some r => if s.carPos c < -(r.margin : Int) then some .below
            else if (r.length : Int) + r.margin < s.carPos c then some .above else none) →
      (s.lgp.position = .unknown → judgeOvertravel c s = s) ∧
      (s.lgp.position ≠ .unknown →
        (∀ d, s.lgp.overtravel.car c = none → side = some d → judgeOvertravel c s
          = raise ⟨.overtravel, c.index⟩ { s with lgp := { s.lgp with
              overtravel := s.lgp.overtravel.setCar c (some d) } }) ∧
        (∀ d0, s.lgp.overtravel.car c = some d0 → side = none → judgeOvertravel c s
          = { s with
              lgp := { s.lgp with overtravel := s.lgp.overtravel.setCar c none },
              ft := s.ft.ended ⟨.overtravel, c.index⟩ }) ∧
        (∀ d0 d, s.lgp.overtravel.car c = some d0 → side = some d → judgeOvertravel c s
          = { s with lgp := { s.lgp with overtravel := s.lgp.overtravel.setCar c (some d) } }) ∧
        (s.lgp.overtravel.car c = none → side = none → judgeOvertravel c s = s))) ∧
    (∀ (d : Dir) (x : Int × Nat),
      x = (if s.mau.standbyScale = s.driveCpm then (s.mau.standbyTravel + d.sign * 1000, s.driveCpm)
        else (s.mau.standbyTravel * s.driveCpm + d.sign * 1000 * s.mau.standbyScale,
          s.mau.standbyScale * s.driveCpm)) →
      (s.mau.mode ≠ .off ∨ s.lgp.line = none → standbyEdge d s = s) ∧
      (s.mau.mode = .off → s.lgp.line ≠ none → x.1.natAbs ≤ 50 * x.2 → standbyEdge d s
        = { s with mau := { s.mau with standbyTravel := x.1, standbyScale := x.2 } }) ∧
      (s.mau.mode = .off → s.lgp.line ≠ none → 50 * x.2 < x.1.natAbs →
        (standbyEdge d s).mau.standbyTravel = 0 ∧
        (standbyEdge d s).mau.latestWake = some (.movement, s.tt.clock) ∧
        WakeCause.movement ∈ (standbyEdge d s).mau.wakeSet ∧
        NoticeKey.wake ∈ (standbyEdge d s).ll.notices)) ∧
    (∀ n, Happens (.estimateDecay n) s (passTime n s) ∧
      Happens (.effectiveCeilingFall n) s (passTime n s) ∧
      (passTime n s).now = s.now + n ∧
      (passTime n s).lgp = s.lgp ∧ (passTime n s).stu.speed = s.stu.speed ∧
      (passTime n s).stu.tension = s.stu.tension ∧
      (s.hc.haul ≠ .running → s.hc.haul ≠ .approach → (passTime n s).hc.haul = s.hc.haul ∧
        (passTime n s).gqu = s.gqu ∧ (passTime n s).ll = s.ll ∧
        ((passTime n s).ft = s.ft ∨ (passTime n s).ft = s.ft.ended ⟨.encoderDisagree, 0⟩)) ∧
      (∀ (k : Nat) (segs : List Segment) (g : Segment), s.hc.classes[k]? = some (some segs) →
        segs[activeIndex segs (s.carPos .a)]? = some g →
        (passTime n s).hc.classes[k]? = some (some (segs.map (fun y => match y.falling with
          | none => y
          | some v => if v - g.decel * n ≤ y.ceiling * 1000000 then { y with falling := none }
            else { y with falling := some (v - g.decel * n) })))) ∧
      (s.hc.haul = .running → (passTime n s).hc.haul = .running →
        (passTime n s).hc.ramp = match s.hc.trip.rec? with
          | some r => min (s.hc.ramp + s.classAccel s.kind * n) ((passTime n s).tripCeiling r)
          | none => s.hc.ramp + s.classAccel s.kind * n) ∧
      (s.hc.haul = .approach → (passTime n s).hc.haul = .approach → (passTime n s).hc.ramp
        = if s.hc.unreferencedTrip = true then s.hc.ramp - s.classDecel s.kind * n
          else match s.hc.trip.rec? with
            | some r => min (s.hc.ramp + s.classAccel s.kind * n) ((passTime n s).tripCeiling r)
            | none => s.hc.ramp + s.classAccel s.kind * n) ∧
      (s.hc.haul = .stopping → (passTime n s).hc.ramp = s.hc.ramp - s.classDecel s.kind * n) ∧
      (s.tt.clock < 4294967295 → (passTime n s).tt.clock
        = min 4294967295 (s.tt.clock + (s.tt.clockUs + n) / 1000)) ∧
      (4294967295 ≤ s.tt.clock → (passTime n s).tt = s.tt)) ∧
    (s.tt.clock < 4294967295 → ∃ t, Happens .lineClockStop s t ∧ t.tt.clock = 4294967295)

/-- QUIET_EXPIRY and PRESENCE_CHANGE (01 R4, R9, R10, R11, R16; 02 R22, R23; 03 R46, R56 to R58; 04 R77).
The model's own: the movement judgements after a referencing (log 22), the flag freshNeeded (log 12), an
input that repeats its value (log 17), the end of a stop before the referencing (log 46). -/
def Obligations.QuietChannelsAndPresenceInputsReference : Prop :=
  ∀ s : State,
    (∀ (e : Encoder) (u : Nat), (s.stu.speed.encoder e).quietDue = some u →
      ∃ t, Happens (.quietExpiry e) s t ∧ t.now = max s.now u ∧
        t.stu.speed.encoder e = { s.stu.speed.encoder e with
          history := [], sense := none, quiet := true, quietDue := none } ∧
        (∀ q, q = modSpeed e SpeedChannel.silence (passUntil u s) →
          (q.standstill = true → t = beginStandstill q) ∧ (q.standstill = false → t = q)) ∧
        (∀ k, (∀ e', e' ≠ e → (s.stu.speed.encoder e').quiet = true) → s.completePair = some k →
          s.lgp.position = .unknown →
          t.lgp.position = .referenced ∧ t.lgp.p = (s.stationPos k : Int) * s.driveCpm)) ∧
    beginStandstill s = judgeMovement s (evaluateReferencing ((haulAtStandstill s).modLgp
      fun g => { g with freshNeeded := false })) ∧
    (∀ (t : TripRec) (k : Nat), s.hc.haul = .approach → s.hc.trip.rec? = some t → t.target = some k →
      (s.hc.unreferencedTrip = true →
        (s.pairComplete k = true → haulAtStandstill s = arrive k s) ∧
        (s.pairComplete k = false → (haulAtStandstill s).hc.haul = .parked ∧
          (haulAtStandstill s).hc.trip.state = .abandoned ∧
          (haulAtStandstill s).hc.trip.cause = some .overrun ∧ (haulAtStandstill s).ft = s.ft)) ∧
      (s.hc.unreferencedTrip = false →
        (s.windowStop = some k → s.pairComplete k = true → haulAtStandstill s = arrive k s) ∧
        (s.windowStop ≠ some k ∨ s.pairComplete k = false → ∀ d, s.targetDistance t = some d →
          ((s.stopWindow : Int) < d → d ≤ (s.stopWindow : Int) + 1000 → t.reapproach = false →
            haulAtStandstill s = { s with hc := { s.hc with
              ramp := 0, trip := { s.hc.trip with rec? := some { t with reapproach := true } } } }) ∧
          (d ≤ (s.stopWindow : Int) ∨ (s.stopWindow : Int) + 1000 < d ∨ t.reapproach = true →
            (haulAtStandstill s).hc.haul = .parked ∧
            (haulAtStandstill s).hc.trip.state = .abandoned ∧
            (haulAtStandstill s).hc.trip.cause = some .overrun ∧
            (haulAtStandstill s).ft = s.ft.raised ⟨.stopOverrun,
              if s.carNear .a k s.stopWindow = true ∧ s.lgp.presence.fst = some k then 1 else 0⟩
              s.tt.clock)))) ∧
    (∀ k, (arrive k s).hc.haul = .parked ∧ (arrive k s).hc.trip.state = .completed ∧
      (arrive k s).hc.trip.cause = some .arrival ∧ (arrive k s).hc.drive = .holding ∧
      ((arrive k s).hc.arrivalDue = true ↔ s.mau.mode = .automatic) ∧
      ((arrive k s).bl.brakes.fst.state = .applying ∨ (arrive k s).bl.brakes.fst.state = .applied) ∧
      (arrive k s).bl.brakes.snd = s.bl.brakes.snd ∧ (arrive k s).ft = s.ft ∧
      (arrive k s).hc.heading
        = (if k = 0 then .up else if k + 1 = s.stations then .down else s.hc.heading) ∧
      ∀ c j, j ∈ ((arrive k s).hc.carLine.car c).requests
        ↔ j ≠ s.stationOf c k ∧ j ∈ (s.hc.carLine.car c).requests) ∧
    (∀ r, s.hc.haul = .stopping → s.bl.stop = some r →
      (haulAtStandstill s).hc.haul = .parked ∧ (haulAtStandstill s).bl.stop = none ∧
      (haulAtStandstill s).ft = s.ft ∧
      (∀ k, s.stop = some k → (haulAtStandstill s).hc.heading
        = if k = 0 then .up else if k + 1 = s.stations then .down else s.hc.heading) ∧
      (r.stage = 1 → (haulAtStandstill s).bl.brakes.fst.state = .applying ∨
        (haulAtStandstill s).bl.brakes.fst.state = .applied) ∧
      (r.cause = .hold → (haulAtStandstill s).hc.trip.state = .suspended ∧
        (haulAtStandstill s).hc.trip.cause = some .hold) ∧
      (∀ c, r.cause = .fault c → (haulAtStandstill s).hc.trip.state = .abandoned ∧
        (haulAtStandstill s).hc.trip.cause = some (.fault c))) ∧
    (s.hc.haul ≠ .approach → s.hc.haul ≠ .stopping → haulAtStandstill s = s) ∧
    (s.standstill = false ∨ s.completePair = none → evaluateReferencing s = s) ∧
    (∀ k, s.standstill = true → s.completePair = some k →
      (s.lgp.position = .unknown → evaluateReferencing s = referenceAt k s) ∧
      (s.lgp.position = .doubtful → s.lgp.freshNeeded = false →
        evaluateReferencing s = referenceAt k s) ∧
      (s.lgp.position = .doubtful → s.lgp.freshNeeded = true → evaluateReferencing s = s) ∧
      (s.lgp.position = .referenced →
        ((∀ c, s.carNear c k s.lgp.corrLimit = true) → evaluateReferencing s = referenceAt k s) ∧
        ((∃ c, s.carNear c k s.lgp.corrLimit = false) → ∀ t, t = evaluateReferencing s →
          t.lgp = { s.lgp with position := .doubtful, watch := ⟨none, none⟩, freshNeeded := true } ∧
          t.hc.haul = .tripped ∧
          (s.ft.slots.length = 69 → ∀ c : Car, t.ft.slot ⟨.positionDisagree, c.index⟩
            = (if s.carNear c k s.lgp.corrLimit = true then s.ft.slot ⟨.positionDisagree, c.index⟩
               else (s.ft.raised ⟨.positionDisagree, c.index⟩ s.tt.clock).slot
                 ⟨.positionDisagree, c.index⟩))))) ∧
    (∀ k t, t = referenceAt k s →
      t.lgp.p = (s.stationPos k : Int) * s.driveCpm ∧
      t.lgp.corr = ⟨0, (s.stationPos (s.stations - 1 - k) : Int)
        - ((s.length : Int) - s.stationPos k)⟩ ∧
      t.lgp.position = .referenced ∧ t.lgp.freshNeeded = false ∧ t.lgp.line = s.lgp.line ∧
      (∃ x, x.lgp = { s.lgp with
          p := t.lgp.p, corr := t.lgp.corr, position := .referenced, freshNeeded := false } ∧
        x.ft = s.ft ∧ x.hc = s.hc ∧ x.bl = s.bl ∧
        t = judgeOvertravel .b (judgeOvertravel .a (freshWatches (leaveWindow .b (leaveWindow .a x))))) ∧
      ∀ c : Car, t.lgp.watch.car c = (t.markerAt c (t.carPos c)).map (fun j =>
        { marker := j, fromBelow := decide (c = .a), captured := true })) ∧
    (∀ (i : Fin 6) (v : PresenceReport),
      (s.lgp.presenceIn[i.val]? = some v → exec (.presenceChange i v) s = .next s) ∧
      (s.lgp.presenceIn[i.val]? ≠ some v →
        ((∀ r, s.lgp.line = some r → ∀ x ∈ r.table, x.sensor ≠ i.val) →
          Happens (.presenceChange i v) s { s with lgp := { s.lgp with
            presenceIn := updateAt i.val (fun _ => v) s.lgp.presenceIn } }) ∧
        ((∃ r, s.lgp.line = some r ∧ ∃ x ∈ r.table, x.sensor = i.val) →
          ∃ t, Happens (.presenceChange i v) s t ∧
            t.lgp.presenceIn = updateAt i.val (fun _ => v) s.lgp.presenceIn ∧
            t.lgp.presence = ⟨t.formPresence .a, t.formPresence .b⟩ ∧ t.lgp.line = s.lgp.line ∧
            ∀ q, q = formPresences { s with lgp := { s.lgp with
                presenceIn := updateAt i.val (fun _ => v) s.lgp.presenceIn } } →
              t = judgeMovement s (evaluateReferencing (judgePairSeen s.completePair q)) ∧
              ∀ tr, q.hc.trip.rec? = some tr →
                (∀ k, q.completePair = some k → q.hc.haul = .running → q.hc.unreferencedTrip = true →
                  tr.target = none → s.completePair ≠ some k →
                  judgePairSeen s.completePair q = { q with hc := { q.hc with
                    haul := .approach,
                    trip := { q.hc.trip with rec? := some { tr with target := some k } } } }) ∧
                (q.hc.haul ≠ .running ∨ q.hc.unreferencedTrip = false ∨ q.completePair = none →
                  judgePairSeen s.completePair q = q))))

/-- MARKER_PULSE (01 R11, R13 to R16; the model's choices are log 13, the entry side of a watch that a
pulse sets, log 21, a correction out of range, and log 36, whole millimetres). -/
def Obligations.PulsesAreIgnoredOrAttributedAndApplied : Prop :=
  ∀ (s : State) (j : Fin 24),
    (s.lgp.markers.length ≤ j.val ∨ s.lgp.position = .unknown ∨ s.lgp.position = .doubtful →
      Happens (.markerPulse j) s s) ∧
    (∀ m, s.lgp.position = .referenced → s.lgp.markers[j.val]? = some m →
      (s.attributed m = (if m.track = 1 then some .a else if m.track = 2 then some .b
        else if m.holds (s.carPos .a) = true ∧ m.holds (s.carPos .b) = false then some .a
        else if m.holds (s.carPos .a) = false ∧ m.holds (s.carPos .b) = true then some .b else none)) ∧
      (s.nearer m = (if (s.carPos .a - m.position).natAbs ≤ (s.carPos .b - m.position).natAbs
        then .a else .b)) ∧
      (∀ c, s.attributed m = some c →
        ((m.position : Int) - s.carPos c).natAbs ≤ s.lgp.corrLimit →
        ∃ t, Happens (.markerPulse j) s t ∧
          (-6000000 ≤ s.lgp.corr.car c + ((m.position : Int) - s.carPos c) →
            s.lgp.corr.car c + ((m.position : Int) - s.carPos c) ≤ 6000000 →
            t.lgp.corr.car c = s.lgp.corr.car c + ((m.position : Int) - s.carPos c)) ∧
          -6000000 ≤ t.lgp.corr.car c ∧ t.lgp.corr.car c ≤ 6000000 ∧
          t.lgp.lastMarker.car c = some j.val ∧ t.lgp.position = .referenced ∧ t.lgp.p = s.lgp.p ∧
          (∃ w, t.lgp.watch.car c = some w ∧ w.marker = j.val ∧ w.captured = true ∧
            (∀ w0, s.lgp.watch.car c = some w0 → w0.marker = j.val → w.fromBelow = w0.fromBelow) ∧
            ((∀ w0, s.lgp.watch.car c = some w0 → w0.marker ≠ j.val) →
              s.carPos c ≠ m.position → w.fromBelow = decide (s.carPos c < m.position))) ∧
          (∀ c', c' ≠ c → t.lgp.corr.car c' = s.lgp.corr.car c' ∧
            t.lgp.watch.car c' = s.lgp.watch.car c' ∧
            t.lgp.lastMarker.car c' = s.lgp.lastMarker.car c')) ∧
      ((∀ c, s.attributed m = some c →
          s.lgp.corrLimit < ((m.position : Int) - s.carPos c).natAbs) →
        ∃ t, Happens (.markerPulse j) s t ∧ t.lgp.position = .doubtful ∧ t.lgp.p = s.lgp.p ∧
          t.lgp.corr = s.lgp.corr ∧ t.lgp.watch = ⟨none, none⟩ ∧ t.hc.haul = .tripped ∧
          (s.ft.slots.length = 69 → ∀ c, c = (s.attributed m).getD (s.nearer m) →
            t.ft.slot ⟨.positionDisagree, c.index⟩
              = (s.ft.raised ⟨.positionDisagree, c.index⟩ s.tt.clock).slot
                ⟨.positionDisagree, c.index⟩)))

/-- TENSION_CONVERSION and MISSING_CONVERSION_EXPIRY (02 R29 to R33, R35; 09 R162; the rounding is log 11).
-/
def Obligations.ConversionsFillTheWindowOrFaultTheChannel : Prop :=
  ∀ (s : State) (c : Chan) (ch : TensionChannel), ch = s.stu.tension.chan c →
    (∀ raw : Fin 65536, raw.val = 0 ∨ raw.val = 65535 → ∃ t, Happens (.tensionConversion c raw) s t ∧
      t.stu.tension.chan c = { ch with
        window := [], average := none, outside := 0, state := .recovering,
        latest := some (raw.val, (raw.val : Int) * ch.gain + ch.offset * 1000),
        missingDue := some (s.now + 4000000 / (if s.mau.mode = .off then 5 else ch.rate)) } ∧
      t.ft = s.ft.raised ⟨.tensionChannelFault, c.index⟩ s.tt.clock) ∧
    (∀ (raw : Fin 65536) (x : Int) (w : List Int), raw.val ≠ 0 → raw.val ≠ 65535 →
      x = (raw.val : Int) * ch.gain + ch.offset * 1000 →
      w = (ch.window ++ [x]).drop (ch.window.length + 1 - ch.size) →
      ∃ t, Happens (.tensionConversion c raw) s t ∧
        (t.stu.tension.chan c).window = w ∧ (t.stu.tension.chan c).latest = some (raw.val, x) ∧
        (ch.size ≤ w.length → (t.stu.tension.chan c).state = .valid ∧
          (t.stu.tension.chan c).average = some (roundDiv w.sum ch.size)) ∧
        (w.length < ch.size → (t.stu.tension.chan c).average = none ∧ t.ft = s.ft ∧
          (t.stu.tension.chan c).state = (if ch.state = .silent then .recovering else ch.state)) ∧
        (∀ l, ch.size ≤ w.length → s.mau.mode ≠ .off → ch.limits = some l →
          (withinKg l.min l.max (roundDiv w.sum ch.size) = false → 1 ≤ ch.outside →
            ch.limitCondition = false →
            (t.stu.tension.chan c).limitCondition = true ∧ t.hc.haul = .tripped) ∧
          (withinKg l.min l.max (roundDiv w.sum ch.size) = false → ch.outside = 0 →
            (t.stu.tension.chan c).outside = 1 ∧
            (t.stu.tension.chan c).limitCondition = ch.limitCondition ∧
            t.ft = s.ft.ended ⟨.tensionChannelFault, c.index⟩ ∧ t.hc = s.hc) ∧
          (withinKg l.min l.max (roundDiv w.sum ch.size) = true →
            (t.stu.tension.chan c).outside = 0 ∧ (t.stu.tension.chan c).limitCondition = false ∧
            t.hc = s.hc ∧ t.ft = (if ch.limitCondition = true
              then (s.ft.ended ⟨.tensionChannelFault, c.index⟩).ended ⟨.ropeTensionLimit, c.index⟩
              else s.ft.ended ⟨.tensionChannelFault, c.index⟩))) ∧
        (∀ l, ch.size ≤ w.length → s.mau.mode = .off → ch.limits = some l →
          ((t.stu.tension.chan c).standbyFlag
            = !(withinKg l.standbyMin l.standbyMax (roundDiv w.sum ch.size))) ∧
          t.hc = s.hc ∧ t.bl = s.bl ∧ t.ft = s.ft.ended ⟨.tensionChannelFault, c.index⟩ ∧
          (withinKg l.standbyMin l.standbyMax (roundDiv w.sum ch.size) = false →
            ch.standbyFlag = false → t.mau.latestWake = some (.tension, s.tt.clock) ∧
              WakeCause.tension ∈ t.mau.wakeSet ∧ NoticeKey.wake ∈ t.ll.notices) ∧
          (withinKg l.standbyMin l.standbyMax (roundDiv w.sum ch.size) = true ∨
            ch.standbyFlag = true → t.mau = s.mau))) ∧
    (∀ u, ch.missingDue = some u → ∃ t, Happens (.missingConversionExpiry c) s t ∧
      t.now = max s.now u ∧
      t.stu.tension.chan c = { ch with
        window := [], average := none, outside := 0, state := .silent, missingDue := none } ∧
      t.ft = (passUntil u s).ft.raised ⟨.tensionChannelFault, c.index⟩ (passUntil u s).tt.clock)

/-- BRAKE_FEEDBACK_CHANGE, RELEASE_PROOF_EXPIRY, APPLY_PROOF_EXPIRY, DRIVE_REPORT_CHANGE (04 R65 to R68,
R75; 05 R90). That proofs are judged on every event is log 15. -/
def Obligations.BrakeFeedbackAndDriveReportsAreActedOn : Prop :=
  ∀ s : State,
    (∀ (b : Brake) (x : FeedbackInput) (v : Bool) (r r' : BrakeRec), r = s.bl.brakes.brake b →
      r' = (match x with
        | .applied => { r with appliedIn := v }
        | .released => { r with releasedIn := v }) →
      (r' = r → exec (.brakeFeedbackChange b x v) s = .next s) ∧
      (r' ≠ r → r.agrees = true → r'.agrees = false → ∃ t, Happens (.brakeFeedbackChange b x v) s t ∧
        t.hc.haul = .tripped ∧ t.ft = s.ft.raised ⟨.brakeFeedback, b.index⟩ s.tt.clock ∧
        (r.state = .released → (t.bl.brakes.brake b).state = .applying)) ∧
      (r' ≠ r → r.agrees = false ∨ r'.agrees = true → Happens (.brakeFeedbackChange b x v) s
        { s with bl := { s.bl with brakes := s.bl.brakes.setBrake b r' } })) ∧
    (∀ (b : Brake) (r : BrakeRec), r = s.bl.brakes.brake b →
      (r.state = .releasing → r.releasedIn = true → r.appliedIn = false → proveBrake b s
        = { s with
            bl := { s.bl with
              brakes := s.bl.brakes.setBrake b { r with state := .released, proofDue := none } },
            ft := s.ft.ended ⟨.brakeFeedback, b.index⟩ }) ∧
      (r.state = .applying → r.appliedIn = true → r.releasedIn = false → proveBrake b s
        = { s with
            bl := { s.bl with
              brakes := s.bl.brakes.setBrake b { r with state := .applied, proofDue := none } },
            ft := s.ft.ended ⟨.brakeFeedback, b.index⟩ }) ∧
      (r.state = .applied → r.appliedIn = true → r.releasedIn = false → proveBrake b s
        = { s with ft := s.ft.ended ⟨.brakeFeedback, b.index⟩ }) ∧
      (r.state = .released → r.releasedIn = true → r.appliedIn = false → proveBrake b s
        = { s with ft := s.ft.ended ⟨.brakeFeedback, b.index⟩ }) ∧
      (r.state = .applied → r.appliedIn = false ∨ r.releasedIn = true → proveBrake b s = s) ∧
      (r.state = .released → r.releasedIn = false ∨ r.appliedIn = true → proveBrake b s = s) ∧
      (r.state = .releasing → r.releasedIn = false ∨ r.appliedIn = true → proveBrake b s = s) ∧
      (r.state = .applying → r.appliedIn = false ∨ r.releasedIn = true → proveBrake b s = s)) ∧
    (∀ (b : Brake) (u : Nat), (s.bl.brakes.brake b).state = .releasing →
      (s.bl.brakes.brake b).proofDue = some u → (passUntil u s).bl.brakes = s.bl.brakes → ∃ t, Happens (.releaseProofExpiry b) s t ∧
        t.now = max s.now u ∧ t.hc.haul = .tripped ∧ (t.bl.brakes.brake b).state = .applying ∧
        t.ft = (passUntil u s).ft.raised ⟨.brakeFeedback, b.index⟩ (passUntil u s).tt.clock) ∧
    (∀ (b : Brake) (u : Nat), (s.bl.brakes.brake b).state = .applying →
      (s.bl.brakes.brake b).proofDue = some u → (passUntil u s).bl.brakes = s.bl.brakes → ∃ t, Happens (.applyProofExpiry b) s t ∧
        t.now = max s.now u ∧ t.hc.haul = .tripped ∧ (t.bl.brakes.brake b).state = .applying ∧
        (t.bl.brakes.brake b).proofDue = none ∧
        t.ft = (passUntil u s).ft.raised ⟨.brakeFeedback, b.index⟩ (passUntil u s).tt.clock) ∧
    (∀ u, s.hc.haul ≠ .running → s.hc.haul ≠ .approach → (passUntil u s).bl.brakes = s.bl.brakes) ∧
    (∀ v, s.bl.driveReady = v → exec (.driveReportChange v) s = .next s) ∧
    (s.bl.driveReady = false → Happens (.driveReportChange true) s
      { s with bl := { s.bl with driveReady := true } }) ∧
    (s.bl.driveReady = true →
      (s.hc.haul = .parked ∨ s.hc.haul = .tripped → Happens (.driveReportChange false) s
        { s with bl := { s.bl with driveReady := false } }) ∧
      (s.hc.haul = .running ∨ s.hc.haul = .approach → ∃ t r, Happens (.driveReportChange false) s t ∧
        t.hc.haul = .stopping ∧ t.bl.stop = some r ∧ r.stage = 2 ∧ r.cause = .fault .brakeEscalated ∧
        t.hc.drive = .noTorque ∧ t.bl.brakes.fst.state ≠ .released ∧
        t.bl.brakes.fst.state ≠ .releasing ∧
        t.ft = s.ft.raised ⟨.brakeEscalated, 0⟩ s.tt.clock) ∧
      (∀ r, s.hc.haul = .stopping → s.bl.stop = some r →
        (r.stage = 1 → ∃ t, Happens (.driveReportChange false) s t ∧ t.hc.haul = .stopping ∧
          t.bl.stop = some { r with
            stage := 2, cause := if r.cause = .hold then .fault .brakeEscalated else r.cause } ∧
          t.hc.drive = .noTorque ∧ t.bl.brakes.fst.state ≠ .released ∧
          t.bl.brakes.fst.state ≠ .releasing ∧ t.bl.brakes.snd = s.bl.brakes.snd ∧
          t.ft = s.ft.raised ⟨.brakeEscalated, 0⟩ s.tt.clock) ∧
        (r.stage ≠ 1 → Happens (.driveReportChange false) s
          { s with bl := { s.bl with driveReady := false } })) ∧
      (∀ x, s.hc.haul = .brakeTest → s.bpu.test = some x →
        (x.phase ≠ .restoring → ∃ t, Happens (.driveReportChange false) s t ∧
          t.bpu.test = some { x with phase := .restoring } ∧ t.bpu.pulseDue = none ∧
          t.bpu.records = s.bpu.records ∧ t.hc.drive = .noTorque ∧ t.hc.haul = .brakeTest ∧
          (t.bl.brakes.brake x.brake.other).state ≠ .released ∧
          (t.bl.brakes.brake x.brake.other).state ≠ .releasing ∧ t.ft = s.ft) ∧
        (x.phase = .restoring → Happens (.driveReportChange false) s
          { s with bl := { s.bl with driveReady := false } })) ∧
      (s.hc.haul = .warning ∨ s.hc.haul = .releasing → ∃ t, Happens (.driveReportChange false) s t ∧
        t.hc.haul = .parked ∧ t.hc.trip.state = .abandoned ∧
        t.hc.trip.cause = some (.fault .brakeEscalated)))

/-- ESCALATION_SAMPLE, ESCALATION_CHECK, WARNING_EXPIRY and PULSE_EXPIRY, and the judgements of a trip in
motion (03 R46, R53 to R55; 04 R69, R70, R74 to R76; 05 R87, R88; 08 R143; 10 R174). -/
def Obligations.StopsEscalateAndDeparturesRelease : Prop :=
  ∀ s : State,
    (∀ r q, s.bl.stop = some r → r.sample = none → q = passUntil r.nextDue s → s.hc.haul = .stopping →
      Happens .escalationSample s { q with bl := { q.bl with
        stop := some { r with sample := some q.lineSpeed, nextDue := r.start + 1000000 } } }) ∧
    (∀ r q v, s.bl.stop = some r → r.sample = some v → q = passUntil r.nextDue s →
      s.hc.haul = .stopping →
      (q.slowsEnough v = true ↔ ((min (q.classDecel q.kind * 125000) (v * 100000) : Nat) : Int)
        ≤ ((v : Int) - q.lineSpeed) * 100000) ∧
      (q.slowsEnough v = true → Happens .escalationCheck s { q with bl := { q.bl with
        stop := some { r with sample := some q.lineSpeed, nextDue := r.nextDue + 500000 } } }) ∧
      (q.slowsEnough v = false → r.stage = 1 → ∃ t r', Happens .escalationCheck s t ∧
        t.bl.stop = some r' ∧ r'.stage = 2 ∧ t.hc.haul = .stopping ∧ t.hc.drive = .noTorque ∧
        t.bl.brakes.fst.state ≠ .released ∧ t.bl.brakes.fst.state ≠ .releasing ∧
        t.ft = q.ft.raised ⟨.brakeEscalated, 0⟩ q.tt.clock) ∧
      (q.slowsEnough v = false → r.stage ≠ 1 → ∃ t, Happens .escalationCheck s t ∧
        t.hc.haul = .tripped ∧ t.bl.stop = none ∧ t.hc.drive = .noTorque ∧
        t.hc.trip.state = .abandoned ∧ t.hc.trip.cause = some (.fault .brakeEscalated) ∧
        t.bl.brakes.snd.state ≠ .released ∧ t.bl.brakes.snd.state ≠ .releasing ∧ t.ft = q.ft)) ∧
    (∀ u, s.hc.warnDue = some u → ∃ t, Happens .warningExpiry s t ∧ t.now = max s.now u ∧
      t.hc.haul = .releasing ∧ t.hc.warnDue = none ∧ t.hc.drive = .holding ∧
      (t.bl.brakes.fst.state = .releasing ∨ t.bl.brakes.fst.state = .released) ∧
      ((passUntil u s).ft.presentClass .emergency = false →
        t.bl.brakes.snd.state = .releasing ∨ t.bl.brakes.snd.state = .released) ∧
      t.ft = (passUntil u s).ft) ∧
    (s.nearTarget = true ↔ ∃ t d, s.hc.trip.rec? = some t ∧ s.targetDistance t = some d ∧ d ≤ 3000) ∧
    (s.hc.haul = .releasing →
      (s.bl.brakes.fst.state = .released → s.bl.brakes.snd.state = .released → tellProven s
        = { s with hc := { s.hc with
            haul := if s.nearTarget = true then .approach else .running, commitRef := s.lgp.p,
            ramp := 0 } }) ∧
      (s.bl.brakes.fst.state ≠ .released ∨ s.bl.brakes.snd.state ≠ .released → tellProven s = s)) ∧
    (∀ x, s.hc.haul = .brakeTest → s.bpu.test = some x →
      (x.phase = .lifting → (s.bl.brakes.brake x.brake.other).state = .released → tellProven s
        = { s with
            hc := { s.hc with drive := .test x.dir x.torque },
            bpu := { s.bpu with
              test := some { x with phase := .pulse, start := some s.lgp.p, slip := some 0 },
              pulseDue := some (s.now + x.duration * 1000) } }) ∧
      (x.phase = .restoring → (s.bl.brakes.brake x.brake.other).state = .applied → ∀ t, t = tellProven s →
        t.hc.haul = .parked ∧ t.bpu = { s.bpu with test := none, pulseDue := none } ∧
        t.hc.trip = s.hc.trip ∧ t.hc.drive = s.hc.drive ∧ t.bl = s.bl ∧ t.ft = s.ft ∧
        (∀ k, s.stop = some k → t.hc.heading
          = if k = 0 then .up else if k + 1 = s.stations then .down else s.hc.heading)) ∧
      (x.phase = .pulse ∨
        (x.phase = .lifting ∧ (s.bl.brakes.brake x.brake.other).state ≠ .released) ∨
        (x.phase = .restoring ∧ (s.bl.brakes.brake x.brake.other).state ≠ .applied) →
        tellProven s = s)) ∧
    (∀ t, s.hc.haul = .running ∨ s.hc.haul = .approach → s.hc.trip.rec? = some t →
      s.supervisedCeiling = s.tripCeiling t ∧
      ∀ n c, (enterStopping n c s).supervisedCeiling = s.tripCeiling t) ∧
    (∀ r, s.hc.haul = .stopping → s.bl.stop = some r → s.supervisedCeiling = r.ceiling) ∧
    (s.hc.haul = .tripped → s.supervisedCeiling = s.bl.trippedCeiling) ∧
    (∀ c, (emergencyDemand c s).supervisedCeiling = if s.hc.haul = .tripped then s.bl.trippedCeiling
      else max (s.lineSpeed * 100000) 300000000) ∧
    (s.hc.haul = .parked ∨ s.hc.haul = .warning ∨ s.hc.haul = .releasing ∨ s.hc.haul = .brakeTest →
      s.supervisedCeiling = 300000000) ∧
    (s.hc.haul = .running → s.nearTarget = true →
      judgeApproach s = { s with hc := { s.hc with haul := .approach } }) ∧
    (s.hc.haul ≠ .running ∨ s.nearTarget = false → judgeApproach s = s) ∧
    (∀ t0, s.hc.trip.rec? = some t0 →
      (s.hc.haul = .running ∨ s.hc.haul = .approach ∨ s.hc.haul = .stopping →
        s.hc.trip.state = .active → t0.committed = false →
        500 * s.driveCpm ≤ (s.lgp.p - s.hc.commitRef).natAbs → ∀ t, t = judgeCommit s →
          t.hc = { s.hc with
            trip := { s.hc.trip with rec? := some { t0 with
              committed := true, batches := some ⟨s.batchSize .a, s.batchSize .b⟩ } },
            forced := (match t0.target with
              | some k => s.hc.forced.filter (fun j => decide (j ≠ k))
              | none => s.hc.forced) } ∧
          t.gqu.batches = ⟨none, none⟩ ∧
          (∀ c b x, s.gqu.batches.car c = some b → t.gqu.queues[b.queue]? = some x →
            ∀ e ∈ x.entries, e.batch ≠ some c) ∧
          ∀ c : Car, t.gqu.loads.car c = (s.gqu.loads.car c).map (fun n => n + s.batchSize c)) ∧
      ((s.hc.haul ≠ .running ∧ s.hc.haul ≠ .approach ∧ s.hc.haul ≠ .stopping) ∨
        s.hc.trip.state ≠ .active ∨ t0.committed = true ∨
        (s.lgp.p - s.hc.commitRef).natAbs < 500 * s.driveCpm → judgeCommit s = s)) ∧
    (s.serviceTestNow = true ↔ s.standstill = false ∧
      s.supervisedCeiling * 106 < s.lineSpeed * 100000 * 100 ∧
      s.supervisedCeiling + 150000000 < s.lineSpeed * 100000) ∧
    (s.emergencyTestNow = true ↔ s.standstill = false ∧
      ((s.supervisedCeiling * 112 < s.lineSpeed * 100000 * 100 ∧
        s.supervisedCeiling + 300000000 < s.lineSpeed * 100000) ∨
      ∃ v, s.hc.lineMax = some v ∧ v * 1000000 * 112 < s.lineSpeed * 100000 * 100)) ∧
    (∀ t, t = judgeEnvelope s →
      (s.serviceTestNow = false ∨ s.bl.serviceTest = true →
        s.emergencyTestNow = false ∨ s.bl.emergencyTest = true →
        t = { s with bl := { s.bl with
          serviceTest := s.serviceTestNow, emergencyTest := s.emergencyTestNow } }) ∧
      (s.serviceTestNow = true → s.bl.serviceTest = false →
        s.emergencyTestNow = false ∨ s.bl.emergencyTest = true →
        t.ft = s.ft.raised ⟨.overspeedService, 0⟩ s.tt.clock ∧
        (s.hc.haul = .running ∨ s.hc.haul = .approach → t.hc.haul = .stopping ∧
          ∃ r, t.bl.stop = some r ∧ r.stage = 1 ∧ r.cause = .fault .overspeedService)) ∧
      (s.emergencyTestNow = true → s.bl.emergencyTest = false → t.hc.haul = .tripped ∧
        t.ft = (if s.serviceTestNow = true ∧ s.bl.serviceTest = false
          then (s.ft.raised ⟨.overspeedService, 0⟩ s.tt.clock).raised ⟨.overspeedEmergency, 0⟩ s.tt.clock
          else s.ft.raised ⟨.overspeedEmergency, 0⟩ s.tt.clock))) ∧
    (∀ u x, s.bpu.pulseDue = some u → s.bpu.test = some x → x.phase = .pulse →
      ∃ t, Happens .pulseExpiry s t ∧ t.hc.drive = .noTorque ∧
        t.bpu.records.brake x.brake = some { pass := true, day := s.tt.day,
                                             slip := s.tenths (x.slip.getD 0), torque := x.torque,
                                             dir := x.dir } ∧
        t.bpu.test = some { x with phase := .restoring } ∧ t.bpu.pulseDue = none ∧
        (t.bl.brakes.brake x.brake.other).state ≠ .released ∧
        (t.bl.brakes.brake x.brake.other).state ≠ .releasing ∧
        ((passUntil u s).ft.slots.length = 69 → ∀ k ∈ allKeys, t.ft.slot k
          = if k = ⟨.brakeTestFailed, x.brake.index⟩ then none else (passUntil u s).ft.slot k)) ∧
    (∀ x p0 n, s.bpu.test = some x → x.phase = .pulse → x.start = some p0 →
      n = max (x.slip.getD 0) (s.lgp.p - p0).natAbs → ∀ t, t = judgeSlip s →
      (n ≤ 20 * s.driveCpm →
        t = { s with bpu := { s.bpu with test := some { x with slip := some n } } }) ∧
      (20 * s.driveCpm < n → t.hc.drive = .noTorque ∧
        t.ft = s.ft.raised ⟨.brakeTestFailed, x.brake.index⟩ s.tt.clock ∧
        t.bpu.records.brake x.brake = some { pass := false, day := s.tt.day, slip := s.tenths n,
                                             torque := x.torque, dir := x.dir } ∧
        t.bpu.test = some { x with phase := .restoring, slip := some n } ∧ t.bpu.pulseDue = none ∧
        (t.bl.brakes.brake x.brake.other).state ≠ .released ∧
        (t.bl.brakes.brake x.brake.other).state ≠ .releasing))

/-- CAR_TRACK_BRAKE_REPORT, CAR_EMERGENCY_BUTTON_REPORT, CAR_STOP_REQUEST, CAR_LINE_SILENCE_EXPIRY (03 R62;
09 R162; log 33 for the repeated report). -/
def Obligations.CarLinesReportAndFallSilent : Prop :=
  ∀ (s : State) (c : Car) (l : CarLine) (ft : FaultTable), l = s.hc.carLine.car c →
    ft = (if l.alive = true then s.ft else s.ft.ended ⟨.carLinkLost, c.index⟩) →
    (∀ v, ∃ t, Happens (.carTrackBrakeReport c v) s t ∧
      t.hc.carLine.car c = { l with
        alive := true, silenceDue := some (s.now + 2000000), brakeApplied := v } ∧
      (l.brakeApplied = false → v = true → t.hc.haul = .tripped ∧
        t.ft = ft.raised ⟨.carBrakeTripped, c.index⟩ s.tt.clock) ∧
      (l.brakeApplied = true → v = false → t.ft = ft.ended ⟨.carBrakeTripped, c.index⟩) ∧
      (l.brakeApplied = v → t.ft = ft ∧ t.hc.haul = s.hc.haul)) ∧
    (∀ v, ∃ t, Happens (.carEmergencyButtonReport c v) s t ∧
      t.hc.carLine.car c = { l with
        alive := true, silenceDue := some (s.now + 2000000), buttonPressed := v } ∧
      (l.buttonPressed = false → v = true →
        t.ft = ft.raised ⟨.carEmergencyRequest, c.index⟩ s.tt.clock ∧
        (s.hc.haul = .running → t.hc.haul = .stopping)) ∧
      (l.buttonPressed = true → v = false → t.ft = ft.ended ⟨.carEmergencyRequest, c.index⟩) ∧
      (l.buttonPressed = v → t.ft = ft ∧ t.hc.haul = s.hc.haul) ∧
      (v = true → s.mau.mode = .off → WakeCause.carLine ∈ t.mau.wakeSet ∧
        t.mau.latestWake = some (.carLine, s.tt.clock) ∧
        t.mau.wakeCount = min 65535 (s.mau.wakeCount + 1)) ∧
      (v = false ∨ s.mau.mode ≠ .off → t.mau = s.mau)) ∧
    (∀ station, ∃ t, Happens (.carStopRequest c station) s t ∧
      (t.hc.carLine.car c).alive = true ∧ t.ft = ft ∧
      (t.hc.carLine.car c).silenceDue = some (s.now + 2000000) ∧
      (1 ≤ station → station + 2 ≤ s.stations →
        (∀ k, s.parkedStop = some k → s.stationOf c k ≠ station) →
        ∀ j, j ∈ (t.hc.carLine.car c).requests ↔ j = station ∨ j ∈ l.requests) ∧
      (station < 1 ∨ s.stations < station + 2 ∨ (∃ k, s.parkedStop = some k ∧ s.stationOf c k = station) →
        (t.hc.carLine.car c).requests = l.requests)) ∧
    (∀ u, l.silenceDue = some u → ∃ t, Happens (.carLineSilenceExpiry c) s t ∧ t.now = max s.now u ∧
      t.hc.carLine.car c = { l with alive := false, silenceDue := none } ∧
      t.ft = (passUntil u s).ft.raised ⟨.carLinkLost, c.index⟩ (passUntil u s).tt.clock)

/-- PLATFORM_DOOR_INPUT_CHANGE and CAR_DOOR_REPORT (06 R94, R99, R103, R105, R106, R107; 08 R141, R142,
R144; log 18 for the UNPROVEN set, log 26 for a capacity not configured). -/
def Obligations.DoorInputsMoveTheDoorSets : Prop :=
  (∀ (s : State) (n : Fin 6) (i : Nat), i = n.val + 2 →
    (∀ (x : DoorInput) (v : Bool), v = (match x with
        | .closedAndLocked => (s.doorIn i).closed
        | .fullyOpen => (s.doorIn i).opened
        | .obstruction => (s.doorIn i).obstructed) →
      exec (.platformDoorInputChange n x v) s = .next s) ∧
    (s.doorState? i = some .locked → (s.doorIn i).closed = true →
      ∃ t, Happens (.platformDoorInputChange n .closedAndLocked false) s t ∧
        t.doorState? i = some .unproven ∧ t.ft = s.ft.raised ⟨.doorUnproven, i⟩ s.tt.clock ∧
        t.dc.inputs = updateAt i (fun y => { y with closed := false }) s.dc.inputs) ∧
    (∀ d, s.dc.sets[i]? = some d → d.state = .closing ∨ d.state = .unproven →
      (s.doorIn i).closed = false →
      ∃ t, Happens (.platformDoorInputChange n .closedAndLocked true) s t ∧
        t.dc.sets[i]? = some { state := .locked, command := .none, proof := none, reopen := 0,
                               hold := false, lastProof := some s.tt.clock } ∧
        t.ft = (s.ft.ended ⟨.doorUnproven, i⟩).ended ⟨.doorObstructed, i⟩ ∧
        t.dc.inputs = updateAt i (fun y => { y with closed := true }) s.dc.inputs) ∧
    (∀ d, s.dc.sets[i]? = some d → d.state = .opening → (s.doorIn i).opened = false →
      ((∀ c r, (s.dc.pairs.car c).released = some r → r.closeDemand = false) →
        ∃ t, Happens (.platformDoorInputChange n .fullyOpen true) s t ∧
          t.gqu = s.gqu ∧ t.dc.sets[i]? = some { d with
            state := .open, proof := none, lastProof := some s.tt.clock }) ∧
      (∀ c r, (s.dc.pairs.car c).released = some r → i ∈ s.pairSets c r.stop → r.closeDemand = true →
        (∀ c', c' ≠ c → (s.dc.pairs.car c').released = none) →
        (∀ j ∈ s.pairSets c r.stop, (s.doorIn j).closed = false ∧ (s.doorIn j).obstructed = false) →
        (∀ j ∈ s.pairSets c r.stop, j ≠ i → s.doorState? j = some .open ∨
          s.doorState? j = some .locked ∨ s.doorState? j = some .unproven) →
        ∃ t, Happens (.platformDoorInputChange n .fullyOpen true) s t ∧
          t.dc.sets[i]? = some { d with
            state := .closing, command := .close,
            proof := some { start := s.tt.clock, due := s.now + 6000000 },
            lastProof := some s.tt.clock } ∧
          ∀ j ∈ s.pairSets c r.stop, s.doorState? j = some .open ∨ s.doorState? j = some .unproven →
            t.doorState? j = some .closing)) ∧
    (∀ d c r, s.dc.sets[i]? = some d → d.state = .closing → (s.doorIn i).obstructed = false →
      s.pairOf i = some c → (s.dc.pairs.car c).released = some r →
      (∀ j ∈ s.pairSets c r.stop, (s.doorIn j).opened = false) →
      ∃ t, Happens (.platformDoorInputChange n .obstruction true) s t ∧
        t.dc.sets[i]? = some { d with
          state := .opening, command := .open,
          proof := some { start := s.tt.clock, due := s.now + 4000000 },
          reopen := min 3 (d.reopen + 1) } ∧
        (∀ j ∈ s.pairSets c r.stop, s.doorState? j = some .closing →
          t.doorState? j = some .opening) ∧
        (d.reopen + 1 < 3 → t.ft = s.ft ∧ t.dc.pairs = s.dc.pairs) ∧
        (3 ≤ d.reopen + 1 → t.ft = s.ft.raised ⟨.doorObstructed, i⟩ s.tt.clock ∧
          (t.dc.pairs.car c).released
            = some { r with closeDemand := false, closureStopped := true })) ∧
    (∀ d, s.dc.sets[i]? = some d → d.state = .closing → (s.doorIn i).obstructed = false →
      s.pairOf i = none → (s.doorIn i).opened = false →
      ∃ t, Happens (.platformDoorInputChange n .obstruction true) s t ∧
        t.dc.sets[i]? = some { d with
          state := .opening, command := .open,
          proof := some { start := s.tt.clock, due := s.now + 4000000 },
          reopen := min 3 (d.reopen + 1) } ∧
        t.dc.pairs = s.dc.pairs ∧
        t.ft = if 3 ≤ d.reopen + 1 then s.ft.raised ⟨.doorObstructed, i⟩ s.tt.clock else s.ft)) ∧
  (∀ (s : State) (c : Car) (closed opened obstructed : Bool) (ft : FaultTable), s.dc.inputs.length = 8 →
    ft = (if (s.hc.carLine.car c).alive = true then s.ft else s.ft.ended ⟨.carLinkLost, c.index⟩) →
    ∃ t, Happens (.carDoorReport c closed opened obstructed) s t ∧
      (t.hc.carLine.car c).alive = true ∧
      (t.hc.carLine.car c).silenceDue = some (s.now + 2000000) ∧
      t.doorIn c.index = { closed := closed, opened := opened, obstructed := obstructed } ∧
      (s.doorState? c.index = some .locked → (s.doorIn c.index).closed = true → closed = false →
        t.doorState? c.index = some .unproven ∧ t.ft = ft.raised ⟨.doorUnproven, c.index⟩ s.tt.clock) ∧
      (∀ d, s.dc.sets[c.index]? = some d → d.state = .closing ∨ d.state = .unproven →
        (s.doorIn c.index).closed = false → closed = true →
        t.dc.sets[c.index]? = some { state := .locked, command := .none, proof := none, reopen := 0,
                                     hold := false, lastProof := some s.tt.clock } ∧
        t.ft = (ft.ended ⟨.doorUnproven, c.index⟩).ended ⟨.doorObstructed, c.index⟩ ∧
        (d.state = .unproven → t.gqu = s.gqu) ∧
        (d.state = .closing → ∀ r, (s.dc.pairs.car c).released = some r →
          t.gqu = (boardingClosed c r.stop s).gqu)) ∧
      (∀ d, s.dc.sets[c.index]? = some d → d.state = .opening → (s.doorIn c.index).opened = false →
        opened = true →
        ((∀ c' r, (s.dc.pairs.car c').released = some r → r.closeDemand = false) →
          t.dc.sets[c.index]? = some { d with
            state := .open, proof := none, lastProof := some s.tt.clock } ∧ t.ft = ft ∧
          (∀ r, (s.dc.pairs.car c).released = some r → r.stop = 0 ∨ r.stop + 1 = s.stations →
            t.gqu = { s.gqu with loads := s.gqu.loads.setCar c (some 0) }) ∧
          ((∀ r, (s.dc.pairs.car c).released = some r → r.stop ≠ 0 ∧ r.stop + 1 ≠ s.stations) →
            t.gqu = s.gqu)) ∧
        (∀ r, (s.dc.pairs.car c).released = some r → r.closeDemand = true →
          (∀ c', c' ≠ c → (s.dc.pairs.car c').released = none) →
          closed = false → obstructed = false → (s.doorIn c.index).obstructed = false →
          (∀ j ∈ s.pairSets c r.stop, j ≠ c.index →
            (s.doorIn j).closed = false ∧ (s.doorIn j).obstructed = false) →
          (∀ j ∈ s.pairSets c r.stop, j ≠ c.index → s.doorState? j = some .open ∨
            s.doorState? j = some .locked ∨ s.doorState? j = some .unproven) →
          t.dc.sets[c.index]? = some { d with
            state := .closing, command := .close,
            proof := some { start := s.tt.clock, due := s.now + 6000000 },
            lastProof := some s.tt.clock } ∧
          (r.stop = 0 ∨ r.stop + 1 = s.stations → t.gqu.loads.car c = some 0) ∧
          ∀ j ∈ s.pairSets c r.stop, s.doorState? j = some .open ∨ s.doorState? j = some .unproven →
            t.doorState? j = some .closing)) ∧
      (∀ d r, s.dc.sets[c.index]? = some d → d.state = .closing → (s.dc.pairs.car c).released = some r →
        (s.doorIn c.index).obstructed = false → obstructed = true → closed = false → opened = false →
        (∀ j ∈ s.pairSets c r.stop, j ≠ c.index → (s.doorIn j).opened = false) →
        t.dc.sets[c.index]? = some { d with
          state := .opening, command := .open,
          proof := some { start := s.tt.clock, due := s.now + 4000000 },
          reopen := min 3 (d.reopen + 1) } ∧
        (∀ j ∈ s.pairSets c r.stop, s.doorState? j = some .closing → t.doorState? j = some .opening) ∧
        (d.reopen + 1 < 3 → t.ft = ft ∧ t.dc.pairs = s.dc.pairs) ∧
        (3 ≤ d.reopen + 1 → t.ft = ft.raised ⟨.doorObstructed, c.index⟩ s.tt.clock ∧
          (t.dc.pairs.car c).released
            = some { r with closeDemand := false, closureStopped := true }))) ∧
  (∀ (s : State) (c : Car) (k q cap : Nat) (x : Queue),
    queueIndex s.stations (s.stationOf c k) (s.headingOf c) = some q → s.gqu.batches.car c = none →
    s.gqu.queues[q]? = some x → cap = s.gqu.capacity.getD 0 - (s.gqu.loads.car c).getD 0 →
    ∃ x', (boardingClosed c k s).gqu.queues[q]? = some x' ∧
      (boardingClosed c k s).gqu.batches.car c = some { stop := k, queue := q } ∧
      (boardingClosed c k s).gqu.loads = s.gqu.loads ∧ x'.entries.length = x.entries.length ∧
      ∀ j e, x.entries[j]? = some e → x'.entries[j]? = some
        (if e.admitted.isSome = true ∧ e.batch = none ∧
            ((x.entries.take j).filter (fun y => y.admitted.isSome && y.batch.isNone)).length < cap
          then { e with batch := some c } else e)) ∧
  (∀ (s : State) (c : Car) (reopens : Prop),
    (reopens ↔ s.windowStop ≠ none ∧ ¬(s.hc.trip.state = .active ∧ s.hc.trip.committed = true)) →
    (reopens → boardingReopened c.index s = dissolveBatch c s) ∧
    (¬reopens → boardingReopened c.index s = s) ∧
    (∀ i, 2 ≤ i → boardingReopened i s = s) ∧
    (s.doorState? c.index = some .locked → reopens →
      (enterOpening c.index s).gqu.batches.car c = none ∧
      (enterUnproven c.index s).gqu.batches.car c = none) ∧
    (s.gqu.batches.car c = none → dissolveBatch c s = s) ∧
    (∀ b, s.gqu.batches.car c = some b → ∀ t, t = dissolveBatch c s →
      t.gqu = { s.gqu with
        queues := updateAt b.queue (fun x => { x with entries := x.entries.map (fun e =>
          if e.batch = some c then { e with batch := none } else e) }) s.gqu.queues,
        batches := s.gqu.batches.setCar c none } ∧
      NoticeKey.car c ∈ t.ll.notices ∧ NoticeKey.queue b.queue ∈ t.ll.notices ∧
      t.hc = s.hc ∧ t.dc = s.dc ∧ t.ft = s.ft ∧ t.tt = s.tt))

/-- OPEN_PROOF_EXPIRY, CLOSE_PROOF_EXPIRY and DWELL_EXPIRY (06 R99, R100, R103, R104, R108; 08 R144; log 34
for the load after a close proof, log 6 for the moment of the marks, log 18 for the UNPROVEN set). -/
def Obligations.DoorProofsAndTheDwellExpire : Prop :=
  ∀ s : State,
    (∀ (n : Fin 8) (d : DoorSet) (p : Proof) (q : State) (terminal : State → Prop),
      s.dc.sets[n.val]? = some d → d.proof = some p → q = passUntil p.due s →
      (∀ t, terminal t ↔
        (∀ c r, n.val = c.index → (s.dc.pairs.car c).released = some r →
          r.stop = 0 ∨ r.stop + 1 = s.stations → t.gqu.loads = q.gqu.loads.setCar c (some 0)) ∧
        ((∀ c r, n.val = c.index → (s.dc.pairs.car c).released = some r →
          r.stop ≠ 0 ∧ r.stop + 1 ≠ s.stations) → t.gqu.loads = q.gqu.loads)) →
      (d.state = .opening → (∀ c r, (s.dc.pairs.car c).released = some r → r.closeDemand = false) →
        ∃ t, Happens (.openProofExpiry n) s t ∧
          t.dc.sets[n.val]? = some { d with state := .open, proof := none } ∧
          terminal t ∧ t.ft = q.ft.raised ⟨.doorTimeout, n.val⟩ q.tt.clock) ∧
      (d.state = .opening → ∀ c r, (s.dc.pairs.car c).released = some r →
        n.val ∈ s.pairSets c r.stop → r.closeDemand = true →
        (∀ c', c' ≠ c → (s.dc.pairs.car c').released = none) →
        (∀ j ∈ s.pairSets c r.stop, (s.doorIn j).closed = false ∧ (s.doorIn j).obstructed = false) →
        (∀ j ∈ s.pairSets c r.stop, j ≠ n.val → s.doorState? j = some .open ∨
          s.doorState? j = some .locked ∨ s.doorState? j = some .unproven) →
        ∃ t, Happens (.openProofExpiry n) s t ∧
          t.dc.sets[n.val]? = some { d with
            state := .closing, command := .close,
            proof := some { start := q.tt.clock, due := q.now + 6000000 } } ∧
          terminal t ∧ t.ft = q.ft.raised ⟨.doorTimeout, n.val⟩ q.tt.clock) ∧
      (d.state = .closing →
        ∃ t, Happens (.closeProofExpiry n) s t ∧
          t.dc.sets[n.val]? = some { d with state := .open, proof := none, command := .none } ∧
          terminal t ∧ t.ft = q.ft.raised ⟨.doorTimeout, n.val⟩ q.tt.clock ∧
          ∀ c r, s.pairOf n.val = some c → (s.dc.pairs.car c).released = some r →
            (t.dc.pairs.car c).released
              = some { r with closeDemand := false, closureStopped := true })) ∧
    (s.releasedOpen = true ↔ (∃ c, (s.dc.pairs.car c).released ≠ none) ∧
      ∀ c r, (s.dc.pairs.car c).released = some r →
        ∀ i ∈ s.pairSets c r.stop, s.doorState? i = some .open) ∧
    (s.dc.dwell = .idle →
      (s.mau.mode = .automatic → s.releasePending = false → s.releasedOpen = true → judgeDwell s
        = markAll [.door 0, .door 1] { s with dc := { s.dc with
            dwell := .running s.tt.clock (s.now + s.dc.dwellS * 1000000) } }) ∧
      (s.mau.mode ≠ .automatic ∨ s.releasePending = true ∨ s.releasedOpen = false →
        judgeDwell s = s)) ∧
    (s.dc.dwell ≠ .idle →
      (s.dc.pairs.fst.released = none → s.dc.pairs.snd.released = none → judgeDwell s
        = markAll [.door 0, .door 1] { s with dc := { s.dc with dwell := .idle } }) ∧
      (s.dc.pairs.fst.released ≠ none ∨ s.dc.pairs.snd.released ≠ none → judgeDwell s = s)) ∧
    (∀ start u q, s.dc.dwell = .running start u → q = passUntil u s →
      (s.unheld .a = false → s.unheld .b = false →
        Happens .dwellExpiry s (markAll [.door 0, .door 1]
          { q with dc := { q.dc with dwell := .expired } })) ∧
      ((∀ c r, (s.dc.pairs.car c).released = some r → ∀ i ∈ s.pairSets c r.stop,
          (s.doorIn i).closed = false ∧ (s.doorIn i).obstructed = false) →
        ∃ t, Happens .dwellExpiry s t ∧ t.dc.dwell = .expired ∧
          ∀ c r, s.unheld c = true → (s.dc.pairs.car c).released = some r →
            (t.dc.pairs.car c).released = some { r with closeDemand := true } ∧
            ((∀ c' r', c' ≠ c → (s.dc.pairs.car c').released = some r' →
                s.stationOf c' r'.stop ≠ s.stationOf c r.stop) →
              ((∀ i ∈ s.pairSets c r.stop, s.doorState? i ≠ some .closing) →
                ∀ i ∈ s.pairSets c r.stop, ∀ d, s.dc.sets[i]? = some d → t.dc.sets[i]?
                  = some (if d.state = .locked then d else { d with
                      state := .closing, command := .close,
                      proof := some { start := q.tt.clock, due := q.now + 6000000 } })) ∧
              ((∃ i ∈ s.pairSets c r.stop, s.doorState? i = some .closing) →
                ∀ i ∈ s.pairSets c r.stop, t.dc.sets[i]? = s.dc.sets[i]?))))

/-- LANE_PRESENTATION (07 R113, R115 to R117, R120, R121; 08 R131, R132). That a presentation at an id
without a lane changes nothing is the model's choice of log 17. -/
def Obligations.PresentationsAreAdmittedOrRefused : Prop :=
  ∀ (s : State) (n : Fin 16) (serial : Fin 4294967296),
    (s.lane? n.val = none → Happens (.lanePresentation n serial) s s) ∧
    (∀ l, s.lane? n.val = some l →
      (l.role = .exit → Happens (.lanePresentation n serial) s s) ∧
      (∀ d q x, l.role.dir = some d → queueIndex s.stations l.station d = some q →
        s.gqu.queues[q]? = some x →
        (s.laneState l ≠ .open → Happens (.lanePresentation n serial) s { s with gqu := { s.gqu with
          lanes := s.gqu.lanes.map (fun y => if y.id = l.id then
            Lane.refuse s.tt.day serial.val .laneClosed y else y) } }) ∧
        (s.laneState l = .open → 160 ≤ x.entries.length →
          Happens (.lanePresentation n serial) s { s with gqu := { s.gqu with
            lanes := s.gqu.lanes.map (fun y => if y.id = l.id then
              Lane.refuse s.tt.day serial.val .queueFull y else y) } }) ∧
        (∀ v queued, s.laneState l = .open → x.entries.length < 160 →
          queued = x.entries.any (fun e => decide (e.serial = serial.val)) →
          v = validate serial.val l.station d queued s.tt →
          (v.outcome ≠ .admits → Happens (.lanePresentation n serial) s { s with
            tt := v.tt,
            gqu := { s.gqu with lanes := s.gqu.lanes.map (fun y => if y.id = l.id then
              Lane.refuse s.tt.day serial.val v.outcome y else y) } }) ∧
          (v.outcome = .admits → Happens (.lanePresentation n serial) s { s with
            tt := v.tt,
            gqu := { s.gqu with
              queues := updateAt q (fun y => { y with entries := y.entries ++
                [{ serial := serial.val, cls := v.cls, lane := l.id, admitted := none, batch := none }] })
                s.gqu.queues,
              lanes := s.gqu.lanes.map (fun y => if y.id = l.id then
                Lane.letIn s.tt.day serial.val
                  { serial := serial.val, undo := v.undo, start := s.tt.clock,
                    due := s.now + s.gqu.passageMs * 1000 } y else y) } }) ∧
          (s.tt.find serial.val = none → v.outcome = .unknown ∧ v.tt = s.tt) ∧
          (∀ b, s.tt.find serial.val = some b →
            (b.validOn s.tt.day = false → v.outcome = .notValid ∧ v.tt = s.tt) ∧
            (∀ bit, b.validOn s.tt.day = true →
              (b.cls = .single ∧ bit = serial.val - b.first) ∨
                (b.cls = .return ∧ bit = 2 * (serial.val - b.first) + (if d = .up then 0 else 1)) →
              (b.marks.testBit bit = true → v.outcome = .used ∧ v.tt = s.tt) ∧
              (b.marks.testBit bit = false → v.outcome = .admits ∧ v.cls = b.cls ∧ v.undo = .mark bit ∧
                v.tt = { s.tt with blocks := s.tt.blocks.map (fun y => if y.covers serial.val then
                  (if y.marks.testBit bit then y else { y with marks := y.marks + 2 ^ bit })
                  else y) })) ∧
            (b.validOn s.tt.day = true → b.cls = .staff →
              (queued = true → v.outcome = .passback ∧ v.tt = s.tt) ∧
              (queued = false → v.outcome = .admits ∧ v.tt = s.tt ∧ v.undo = .nothing)) ∧
            (b.validOn s.tt.day = true → b.cls = .day →
              (queued = true → v.outcome = .passback ∧ v.tt = s.tt) ∧
              (queued = false → s.tt.passbackS = 0 →
                v.outcome = .admits ∧ v.tt = s.tt ∧ v.undo = .nothing) ∧
              (∀ kept others, queued = false → s.tt.passbackS ≠ 0 →
                kept = s.tt.passback.filter (fun e =>
                  decide (s.tt.clock - e.time ≤ s.tt.passbackS * 1000)) →
                others = kept.filter (fun e => decide (e.serial ≠ serial.val)) →
                (∀ e, kept.find? (fun e => decide (e.serial = serial.val)) = some e →
                  e.station = l.station → v.outcome = .passback ∧ v.tt = { s.tt with passback := kept }) ∧
                ((∀ e, kept.find? (fun e => decide (e.serial = serial.val)) = some e →
                    e.station ≠ l.station) →
                  v.outcome = .admits ∧ v.undo = .passback l.station s.tt.clock ∧
                  v.tt = { s.tt with passback := (if 64 ≤ others.length then others.drop 1 else others)
                    ++ [{ serial := serial.val, station := l.station, time := s.tt.clock }] })))))))

/-- LANE_PASSAGE, PASSAGE_TIMEOUT, LEAF_JAM and LEAF_JAM_WITHDRAWN (07 R119; 08 R130, R133 to R136). An id
without a lane and a repeated jam are the model's choices of log 17. -/
def Obligations.PassagesTimeoutsAndJamsAreCounted : Prop :=
  ∀ (s : State) (n : Fin 16),
    (s.lane? n.val = none → Happens (.lanePassage n) s s) ∧
    (∀ l, s.lane? n.val = some l →
      (∀ d p q, l.role.dir = some d → l.passage = some p → s.laneQueue l = some q →
        Happens (.lanePassage n) s { s with gqu := { s.gqu with
          queues := updateAt q (Queue.admitEntry p.serial s.tt.clock) s.gqu.queues,
          lanes := s.gqu.lanes.map (fun y => if y.id = n.val then Lane.passed s.tt.day y else y) } }) ∧
      (∀ d, l.role.dir = some d → l.passage = none →
        Happens (.lanePassage n) s { s with gqu := { s.gqu with
          lanes := s.gqu.lanes.map (fun y => if y.id = n.val then
            Lane.unpaidPassage s.tt.day y else y) } }) ∧
      (l.role = .exit → ∃ t, Happens (.lanePassage n) s t ∧
        t.gqu.lanes = s.gqu.lanes.map (fun y => if y.id = n.val then Lane.passed s.tt.day y else y) ∧
        t.gqu.queues = s.gqu.queues ∧ t.tt = s.tt ∧
        (∀ c, s.alighting l.station = some c →
          t.gqu.loads = s.gqu.loads.setCar c ((s.gqu.loads.car c).map (fun x => x - 1))) ∧
        (s.alighting l.station = none → t.gqu.loads = s.gqu.loads)) ∧
      (∀ p q t0, l.passage = some p → s.laneQueue l = some q → t0 = passUntil p.due s →
        Happens (.passageTimeout n) s { t0 with
          tt := undoValidation p.serial p.undo t0.tt,
          gqu := { t0.gqu with
            queues := updateAt q (fun x => { x with entries := x.entries.filter (fun e =>
              !(e.admitted.isNone && decide (e.serial = p.serial))) }) t0.gqu.queues,
            lanes := t0.gqu.lanes.map (fun y => if y.id = n.val then
              { y with lastOutcome := some .timeout, passage := none } else y) } }) ∧
      (∃ t, Happens (.leafJam n) s t ∧
        t.ft = s.ft.raised ⟨.gateLaneFault, n.val⟩ s.tt.clock ∧
        t.gqu = { s.gqu with
          jamIn := updateAt n.val (fun _ => true) s.gqu.jamIn,
          lanes := s.gqu.lanes.map (fun y => if y.id = n.val then { y with jammed := true } else y) } ∧
        t.hc = s.hc ∧ t.bl = s.bl)) ∧
    (s.lane? n.val = none → Happens (.leafJam n) s { s with gqu := { s.gqu with
      jamIn := updateAt n.val (fun _ => true) s.gqu.jamIn } }) ∧
    Happens (.leafJamWithdrawn n) s { s with gqu := { s.gqu with
      jamIn := updateAt n.val (fun _ => false) s.gqu.jamIn } }

/-- DISAGREEMENT_INTERVAL_EXPIRY, SETTLE_INTERVAL_EXPIRY, SUPERVISION_EXPIRY, and the two cross-checks (02
R21, R25, R26; 04 R70; 05 R90; 08 R146; 09 R159, R160; log 3, log 5 and log 26 for the choices of the
model). -/
def Obligations.CrossChecksAndSupervisionExpire : Prop :=
  ∀ (s : State) (u : Nat),
    (∀ d h, d = s.estimate .drive → h = s.estimate .sheave →
      (s.magnitudeTest = true ↔ s.lgp.line ≠ none ∧
        1000 < max d.natAbs h.natAbs - min d.natAbs h.natAbs ∧
        max d.natAbs h.natAbs * 5 < (max d.natAbs h.natAbs - min d.natAbs h.natAbs) * 100) ∧
      (s.directionTest = true ↔ s.lgp.line ≠ none ∧ 1000 < d.natAbs ∧ 1000 < h.natAbs ∧
        ((0 < d ∧ h < 0) ∨ (d < 0 ∧ 0 < h)))) ∧
    (∀ n,
      (s.nextMoment (s.now + n) = none → passTime n s = elapse n s) ∧
      (∀ v, s.nextMoment (s.now + n) = some v → s.now < v ∧ v ≤ s.now + n ∧
        passTime n s = passTime (s.now + n - v) (judgeMoment (elapse (v - s.now) s))) ∧
      (∀ m, m ≤ n → (∀ v, s.nextMoment (s.now + n) = some v → s.now + m < v) →
        (∀ e, (elapse m s).estimate e = s.estimate e) ∧
        (s.hc.haul = .running ∨ s.hc.haul = .approach →
          ((elapse m s).serviceTestNow = true → s.serviceTestNow = true) ∧
          ((elapse m s).emergencyTestNow = true → s.emergencyTestNow = true)))) ∧
    (∀ q, q = noteEncoders s →
      q = { s with
        stu := { s.stu with
          magnitudeHolds := s.magnitudeTest, directionHolds := s.directionTest,
          disagreeDue := q.stu.disagreeDue },
        ft := if s.magnitudeTest = true ∨ s.directionTest = true then s.ft
          else s.ft.ended ⟨.encoderDisagree, 0⟩ } ∧
      (s.hc.haul = .running ∨ s.hc.haul = .approach → judgeMoment s = judgeEnvelope q) ∧
      (s.hc.haul ≠ .running → s.hc.haul ≠ .approach → judgeMoment s = { q with bl := { q.bl with
        serviceTest := s.bl.serviceTest && s.serviceTestNow,
        emergencyTest := s.bl.emergencyTest && s.emergencyTestNow } })) ∧
    (∀ t, t = judgeEncoders s ∨ t = judgeMoment s →
      t.stu.magnitudeHolds = s.magnitudeTest ∧ t.stu.directionHolds = s.directionTest ∧
      (∀ v, s.stu.disagreeDue = some v → v ≤ s.now → t.stu.disagreeDue = some v) ∧
      (∀ v, s.stu.disagreeDue = some v → s.now < v → t.stu.disagreeDue
        = (if s.magnitudeTest = false then none else if s.stu.magnitudeHolds = true then some v
           else some (s.now + 300000))) ∧
      (s.stu.disagreeDue = none → t.stu.disagreeDue
        = (if s.magnitudeTest = true ∧ s.stu.magnitudeHolds = false then some (s.now + 300000)
           else none))) ∧
    (∀ t, t = judgeEncoders s →
      (s.directionTest = true → s.stu.directionHolds = false →
        t.ft = s.ft.raised ⟨.encoderDisagree, 0⟩ s.tt.clock ∧ t.hc.haul = .tripped) ∧
      (s.directionTest = true → s.stu.directionHolds = true → t.ft = s.ft ∧ t.hc = s.hc) ∧
      (s.directionTest = false → t.hc = s.hc ∧
        t.ft = (if s.magnitudeTest = true then s.ft else s.ft.ended ⟨.encoderDisagree, 0⟩))) ∧
    (∀ q, s.stu.disagreeDue = some u → q = passUntil u s → ∃ t, Happens .disagreementIntervalExpiry s t ∧
      t.now = max s.now u ∧
      (∀ v, q.stu.disagreeDue = some v → v ≤ q.now → t.stu.disagreeDue = none ∧ t.hc.haul = .tripped ∧
        t.ft = q.ft.raised ⟨.encoderDisagree, 0⟩ q.tt.clock) ∧
      ((∀ v, q.stu.disagreeDue = some v → q.now < v) → t = q) ∧
      (u ≤ s.now → t.hc.haul = .tripped)) ∧
    (s.farSide = true ↔ s.hc.haul = .parked ∧ s.allLocked = true ∧
      ∃ (a b : Nat) (i : Int) (tol : Nat), s.gqu.loads.fst = some a ∧ s.gqu.loads.snd = some b ∧
        s.imbalance = some i ∧ s.gqu.tolerance = some tol ∧
        (if s.gqu.disagree = true
          then (i - ((a : Int) - b) * s.gqu.mass * 1000).natAbs ≤ tol * 1000
          else tol * 1000 < (i - ((a : Int) - b) * s.gqu.mass * 1000).natAbs)) ∧
    judgeLoads s = { s with gqu := { s.gqu with
      settleDue := if s.farSide = true then some (s.gqu.settleDue.getD (s.now + 3000000))
        else none } } ∧
    (s.gqu.settleDue = some u → ∃ t, Happens .settleIntervalExpiry s t ∧ t.now = max s.now u ∧
      t.gqu = { (passUntil u s).gqu with disagree := !s.gqu.disagree, settleDue := none } ∧
      t.ft = (if s.gqu.disagree = true then (passUntil u s).ft.ended ⟨.loadDisagree, 0⟩
        else (passUntil u s).ft.raised ⟨.loadDisagree, 0⟩ (passUntil u s).tt.clock)) ∧
    (s.mau.supDue = some u → ∃ t, Happens .supervisionExpiry s t ∧ t.now = max s.now u ∧
      t.mau = { s.mau with supervision := .lost, supDue := none } ∧
      t.ft = (passUntil u s).ft.raised ⟨.supervisionLost, 0⟩ (passUntil u s).tt.clock ∧
      (∀ q, q = passUntil u s → q.hc.haul = .running ∨ q.hc.haul = .approach ∨ q.hc.haul = .stopping →
        t.hc.haul = q.hc.haul ∧ t.hc.trip = q.hc.trip) ∧
      (∀ x, s.bpu.test = some x → x.phase ≠ .restoring → t.bpu.test = some { x with phase := .restoring }))

/-- R183: the notice list. That the keys an event changed are marked at its end is the model's deduction of
log 6. -/
def Obligations.AMarkedKeyStandsOnceInTheNoticeList : Prop :=
  (∀ (k : NoticeKey) (s : State), k ∉ s.ll.notices → (mark k s).ll.notices = s.ll.notices ++ [k]) ∧
  (∀ (k : NoticeKey) (s : State), k ∈ s.ll.notices → mark k s = s) ∧
  (∀ (k : NoticeKey) (s : State), s.ll.notices.Nodup → (mark k s).ll.notices.Nodup) ∧
  (∀ l : List NoticeKey, l.Nodup → (∀ k ∈ l, k ∈ noticeKeys) → l.length ≤ 42) ∧
  (∀ (k : NoticeKey) (ks : List NoticeKey) (s : State), s.ll.sending = none → s.ll.replySlot = none →
    s.ll.notices = k :: ks → (transmit s).ll.notices = ks ∧
      (transmit s).ll.sending.map Sending.frame = some (.notice k (s.noticeContent k))) ∧
  (∀ (before s : State) (k : NoticeKey), k ∈ noticeKeys → changed before (settle before s) k = true →
    k ∈ (finish before s).ll.notices) ∧
  (∀ (d : Dwell) (s : State), s.dc.dwell ≠ d →
    NoticeKey.door 0 ∈ (setDwell d s).ll.notices ∧ NoticeKey.door 1 ∈ (setDwell d s).ll.notices) ∧
  (∀ (c : Car) (f : Released → Released) (r : Released) (s : State),
    (s.dc.pairs.car c).released = some r → f r ≠ r → ∀ i ∈ s.pairSets c r.stop,
      NoticeKey.door i ∈ (modReleased c f s).ll.notices) ∧
  (∀ (i : Nat) (s : State), NoticeKey.door i ∈ (startClosing i s).ll.notices) ∧
  (∀ x s : State, (x.parkedStop = s.parkedStop → markStop x s = s) ∧
    (x.parkedStop ≠ s.parkedStop → NoticeKey.haul ∈ (markStop x s).ll.notices)) ∧
  (∀ (r : LineRec) (s u : State), u = stopOvertravel { s with lgp := { s.lgp with
      line := some r, markers := [], corrLimit := 500, lastMarker := ⟨none, none⟩,
      watch := ⟨none, none⟩, position := .unknown, p := 0, corr := ⟨0, 0⟩, freshNeeded := false } } →
    u.parkedStop = none ∧ loadLine r s = evaluateReferencing (formPresences (markStop s u)))

/-- R169: a raise of a present slot. -/
def Obligations.ARaiseOfAPresentSlotKeepsItsFirstTime : Prop :=
  ∀ (s : State) (k : FaultKey) (r : FaultRec), s.ft.slots.length = 69 → k ∈ allKeys →
    s.ft.slot k = some r →
    (raise k s).ft.slot k = some {
      state := if k.code.kind = .event then .ended else .active
      first := r.first, last := s.tt.clock, count := if r.count < 255 then r.count + 1 else 255 } ∧
    (∀ k' ∈ allKeys, k' ≠ k → (raise k s).ft.slot k' = s.ft.slot k') ∧
    raise k s = handOn k.code { s with ft := (raise k s).ft }

/-- R49: the automatic target. -/
def Obligations.TheAutomaticTargetIsTheNextDemandedStop : Prop :=
  ∀ (s : State) (k : Nat),
    (∀ j, s.hc.heading = .up →
      (s.autoTarget k = some j ↔ j ∈ s.demandSet ∧ k < j ∧ ∀ i ∈ s.demandSet, k < i → j ≤ i)) ∧
    (∀ j, s.hc.heading = .down →
      (s.autoTarget k = some j ↔ j ∈ s.demandSet ∧ j < k ∧ ∀ i ∈ s.demandSet, i < k → i ≤ j)) ∧
    (2 ≤ s.stations → k < s.stations → (k = 0 → s.hc.heading = .up) →
      (k + 1 = s.stations → s.hc.heading = .down) → (s.autoTarget k).isSome = true)
end

