-- ==== Sys2Proof/Laws/State.lean ====
section
/-!
SUPPORT. What each update of the state changes and what it leaves: one lemma per update and field, all
true by rfl, so that no later proof unfolds a record update.
-/

namespace Sys2Proof.Machine

variable (s : State)

@[simp] theorem modLgp_pending (f : Lgp → Lgp) : (s.modLgp f).pending = s.pending := rfl
@[simp] theorem modLgp_now (f : Lgp → Lgp) : (s.modLgp f).now = s.now := rfl
@[simp] theorem modLgp_lgp (f : Lgp → Lgp) : (s.modLgp f).lgp = f s.lgp := rfl
@[simp] theorem modLgp_stu (f : Lgp → Lgp) : (s.modLgp f).stu = s.stu := rfl
@[simp] theorem modLgp_hc (f : Lgp → Lgp) : (s.modLgp f).hc = s.hc := rfl
@[simp] theorem modLgp_bl (f : Lgp → Lgp) : (s.modLgp f).bl = s.bl := rfl
@[simp] theorem modLgp_bpu (f : Lgp → Lgp) : (s.modLgp f).bpu = s.bpu := rfl
@[simp] theorem modLgp_dc (f : Lgp → Lgp) : (s.modLgp f).dc = s.dc := rfl
@[simp] theorem modLgp_tt (f : Lgp → Lgp) : (s.modLgp f).tt = s.tt := rfl
@[simp] theorem modLgp_gqu (f : Lgp → Lgp) : (s.modLgp f).gqu = s.gqu := rfl
@[simp] theorem modLgp_mau (f : Lgp → Lgp) : (s.modLgp f).mau = s.mau := rfl
@[simp] theorem modLgp_ft (f : Lgp → Lgp) : (s.modLgp f).ft = s.ft := rfl
@[simp] theorem modLgp_ll (f : Lgp → Lgp) : (s.modLgp f).ll = s.ll := rfl

@[simp] theorem modStu_pending (f : Stu → Stu) : (s.modStu f).pending = s.pending := rfl
@[simp] theorem modStu_now (f : Stu → Stu) : (s.modStu f).now = s.now := rfl
@[simp] theorem modStu_lgp (f : Stu → Stu) : (s.modStu f).lgp = s.lgp := rfl
@[simp] theorem modStu_stu (f : Stu → Stu) : (s.modStu f).stu = f s.stu := rfl
@[simp] theorem modStu_hc (f : Stu → Stu) : (s.modStu f).hc = s.hc := rfl
@[simp] theorem modStu_bl (f : Stu → Stu) : (s.modStu f).bl = s.bl := rfl
@[simp] theorem modStu_bpu (f : Stu → Stu) : (s.modStu f).bpu = s.bpu := rfl
@[simp] theorem modStu_dc (f : Stu → Stu) : (s.modStu f).dc = s.dc := rfl
@[simp] theorem modStu_tt (f : Stu → Stu) : (s.modStu f).tt = s.tt := rfl
@[simp] theorem modStu_gqu (f : Stu → Stu) : (s.modStu f).gqu = s.gqu := rfl
@[simp] theorem modStu_mau (f : Stu → Stu) : (s.modStu f).mau = s.mau := rfl
@[simp] theorem modStu_ft (f : Stu → Stu) : (s.modStu f).ft = s.ft := rfl
@[simp] theorem modStu_ll (f : Stu → Stu) : (s.modStu f).ll = s.ll := rfl

@[simp] theorem modHc_pending (f : Hc → Hc) : (s.modHc f).pending = s.pending := rfl
@[simp] theorem modHc_now (f : Hc → Hc) : (s.modHc f).now = s.now := rfl
@[simp] theorem modHc_lgp (f : Hc → Hc) : (s.modHc f).lgp = s.lgp := rfl
@[simp] theorem modHc_stu (f : Hc → Hc) : (s.modHc f).stu = s.stu := rfl
@[simp] theorem modHc_hc (f : Hc → Hc) : (s.modHc f).hc = f s.hc := rfl
@[simp] theorem modHc_bl (f : Hc → Hc) : (s.modHc f).bl = s.bl := rfl
@[simp] theorem modHc_bpu (f : Hc → Hc) : (s.modHc f).bpu = s.bpu := rfl
@[simp] theorem modHc_dc (f : Hc → Hc) : (s.modHc f).dc = s.dc := rfl
@[simp] theorem modHc_tt (f : Hc → Hc) : (s.modHc f).tt = s.tt := rfl
@[simp] theorem modHc_gqu (f : Hc → Hc) : (s.modHc f).gqu = s.gqu := rfl
@[simp] theorem modHc_mau (f : Hc → Hc) : (s.modHc f).mau = s.mau := rfl
@[simp] theorem modHc_ft (f : Hc → Hc) : (s.modHc f).ft = s.ft := rfl
@[simp] theorem modHc_ll (f : Hc → Hc) : (s.modHc f).ll = s.ll := rfl

@[simp] theorem modBl_pending (f : Bl → Bl) : (s.modBl f).pending = s.pending := rfl
@[simp] theorem modBl_now (f : Bl → Bl) : (s.modBl f).now = s.now := rfl
@[simp] theorem modBl_lgp (f : Bl → Bl) : (s.modBl f).lgp = s.lgp := rfl
@[simp] theorem modBl_stu (f : Bl → Bl) : (s.modBl f).stu = s.stu := rfl
@[simp] theorem modBl_hc (f : Bl → Bl) : (s.modBl f).hc = s.hc := rfl
@[simp] theorem modBl_bl (f : Bl → Bl) : (s.modBl f).bl = f s.bl := rfl
@[simp] theorem modBl_bpu (f : Bl → Bl) : (s.modBl f).bpu = s.bpu := rfl
@[simp] theorem modBl_dc (f : Bl → Bl) : (s.modBl f).dc = s.dc := rfl
@[simp] theorem modBl_tt (f : Bl → Bl) : (s.modBl f).tt = s.tt := rfl
@[simp] theorem modBl_gqu (f : Bl → Bl) : (s.modBl f).gqu = s.gqu := rfl
@[simp] theorem modBl_mau (f : Bl → Bl) : (s.modBl f).mau = s.mau := rfl
@[simp] theorem modBl_ft (f : Bl → Bl) : (s.modBl f).ft = s.ft := rfl
@[simp] theorem modBl_ll (f : Bl → Bl) : (s.modBl f).ll = s.ll := rfl

@[simp] theorem modBpu_pending (f : Bpu → Bpu) : (s.modBpu f).pending = s.pending := rfl
@[simp] theorem modBpu_now (f : Bpu → Bpu) : (s.modBpu f).now = s.now := rfl
@[simp] theorem modBpu_lgp (f : Bpu → Bpu) : (s.modBpu f).lgp = s.lgp := rfl
@[simp] theorem modBpu_stu (f : Bpu → Bpu) : (s.modBpu f).stu = s.stu := rfl
@[simp] theorem modBpu_hc (f : Bpu → Bpu) : (s.modBpu f).hc = s.hc := rfl
@[simp] theorem modBpu_bl (f : Bpu → Bpu) : (s.modBpu f).bl = s.bl := rfl
@[simp] theorem modBpu_bpu (f : Bpu → Bpu) : (s.modBpu f).bpu = f s.bpu := rfl
@[simp] theorem modBpu_dc (f : Bpu → Bpu) : (s.modBpu f).dc = s.dc := rfl
@[simp] theorem modBpu_tt (f : Bpu → Bpu) : (s.modBpu f).tt = s.tt := rfl
@[simp] theorem modBpu_gqu (f : Bpu → Bpu) : (s.modBpu f).gqu = s.gqu := rfl
@[simp] theorem modBpu_mau (f : Bpu → Bpu) : (s.modBpu f).mau = s.mau := rfl
@[simp] theorem modBpu_ft (f : Bpu → Bpu) : (s.modBpu f).ft = s.ft := rfl
@[simp] theorem modBpu_ll (f : Bpu → Bpu) : (s.modBpu f).ll = s.ll := rfl

@[simp] theorem modDc_pending (f : Dc → Dc) : (s.modDc f).pending = s.pending := rfl
@[simp] theorem modDc_now (f : Dc → Dc) : (s.modDc f).now = s.now := rfl
@[simp] theorem modDc_lgp (f : Dc → Dc) : (s.modDc f).lgp = s.lgp := rfl
@[simp] theorem modDc_stu (f : Dc → Dc) : (s.modDc f).stu = s.stu := rfl
@[simp] theorem modDc_hc (f : Dc → Dc) : (s.modDc f).hc = s.hc := rfl
@[simp] theorem modDc_bl (f : Dc → Dc) : (s.modDc f).bl = s.bl := rfl
@[simp] theorem modDc_bpu (f : Dc → Dc) : (s.modDc f).bpu = s.bpu := rfl
@[simp] theorem modDc_dc (f : Dc → Dc) : (s.modDc f).dc = f s.dc := rfl
@[simp] theorem modDc_tt (f : Dc → Dc) : (s.modDc f).tt = s.tt := rfl
@[simp] theorem modDc_gqu (f : Dc → Dc) : (s.modDc f).gqu = s.gqu := rfl
@[simp] theorem modDc_mau (f : Dc → Dc) : (s.modDc f).mau = s.mau := rfl
@[simp] theorem modDc_ft (f : Dc → Dc) : (s.modDc f).ft = s.ft := rfl
@[simp] theorem modDc_ll (f : Dc → Dc) : (s.modDc f).ll = s.ll := rfl

@[simp] theorem modTt_pending (f : Tt → Tt) : (s.modTt f).pending = s.pending := rfl
@[simp] theorem modTt_now (f : Tt → Tt) : (s.modTt f).now = s.now := rfl
@[simp] theorem modTt_lgp (f : Tt → Tt) : (s.modTt f).lgp = s.lgp := rfl
@[simp] theorem modTt_stu (f : Tt → Tt) : (s.modTt f).stu = s.stu := rfl
@[simp] theorem modTt_hc (f : Tt → Tt) : (s.modTt f).hc = s.hc := rfl
@[simp] theorem modTt_bl (f : Tt → Tt) : (s.modTt f).bl = s.bl := rfl
@[simp] theorem modTt_bpu (f : Tt → Tt) : (s.modTt f).bpu = s.bpu := rfl
@[simp] theorem modTt_dc (f : Tt → Tt) : (s.modTt f).dc = s.dc := rfl
@[simp] theorem modTt_tt (f : Tt → Tt) : (s.modTt f).tt = f s.tt := rfl
@[simp] theorem modTt_gqu (f : Tt → Tt) : (s.modTt f).gqu = s.gqu := rfl
@[simp] theorem modTt_mau (f : Tt → Tt) : (s.modTt f).mau = s.mau := rfl
@[simp] theorem modTt_ft (f : Tt → Tt) : (s.modTt f).ft = s.ft := rfl
@[simp] theorem modTt_ll (f : Tt → Tt) : (s.modTt f).ll = s.ll := rfl

@[simp] theorem modGqu_pending (f : Gqu → Gqu) : (s.modGqu f).pending = s.pending := rfl
@[simp] theorem modGqu_now (f : Gqu → Gqu) : (s.modGqu f).now = s.now := rfl
@[simp] theorem modGqu_lgp (f : Gqu → Gqu) : (s.modGqu f).lgp = s.lgp := rfl
@[simp] theorem modGqu_stu (f : Gqu → Gqu) : (s.modGqu f).stu = s.stu := rfl
@[simp] theorem modGqu_hc (f : Gqu → Gqu) : (s.modGqu f).hc = s.hc := rfl
@[simp] theorem modGqu_bl (f : Gqu → Gqu) : (s.modGqu f).bl = s.bl := rfl
@[simp] theorem modGqu_bpu (f : Gqu → Gqu) : (s.modGqu f).bpu = s.bpu := rfl
@[simp] theorem modGqu_dc (f : Gqu → Gqu) : (s.modGqu f).dc = s.dc := rfl
@[simp] theorem modGqu_tt (f : Gqu → Gqu) : (s.modGqu f).tt = s.tt := rfl
@[simp] theorem modGqu_gqu (f : Gqu → Gqu) : (s.modGqu f).gqu = f s.gqu := rfl
@[simp] theorem modGqu_mau (f : Gqu → Gqu) : (s.modGqu f).mau = s.mau := rfl
@[simp] theorem modGqu_ft (f : Gqu → Gqu) : (s.modGqu f).ft = s.ft := rfl
@[simp] theorem modGqu_ll (f : Gqu → Gqu) : (s.modGqu f).ll = s.ll := rfl

@[simp] theorem modMau_pending (f : Mau → Mau) : (s.modMau f).pending = s.pending := rfl
@[simp] theorem modMau_now (f : Mau → Mau) : (s.modMau f).now = s.now := rfl
@[simp] theorem modMau_lgp (f : Mau → Mau) : (s.modMau f).lgp = s.lgp := rfl
@[simp] theorem modMau_stu (f : Mau → Mau) : (s.modMau f).stu = s.stu := rfl
@[simp] theorem modMau_hc (f : Mau → Mau) : (s.modMau f).hc = s.hc := rfl
@[simp] theorem modMau_bl (f : Mau → Mau) : (s.modMau f).bl = s.bl := rfl
@[simp] theorem modMau_bpu (f : Mau → Mau) : (s.modMau f).bpu = s.bpu := rfl
@[simp] theorem modMau_dc (f : Mau → Mau) : (s.modMau f).dc = s.dc := rfl
@[simp] theorem modMau_tt (f : Mau → Mau) : (s.modMau f).tt = s.tt := rfl
@[simp] theorem modMau_gqu (f : Mau → Mau) : (s.modMau f).gqu = s.gqu := rfl
@[simp] theorem modMau_mau (f : Mau → Mau) : (s.modMau f).mau = f s.mau := rfl
@[simp] theorem modMau_ft (f : Mau → Mau) : (s.modMau f).ft = s.ft := rfl
@[simp] theorem modMau_ll (f : Mau → Mau) : (s.modMau f).ll = s.ll := rfl

@[simp] theorem modFt_pending (f : FaultTable → FaultTable) : (s.modFt f).pending = s.pending := rfl
@[simp] theorem modFt_now (f : FaultTable → FaultTable) : (s.modFt f).now = s.now := rfl
@[simp] theorem modFt_lgp (f : FaultTable → FaultTable) : (s.modFt f).lgp = s.lgp := rfl
@[simp] theorem modFt_stu (f : FaultTable → FaultTable) : (s.modFt f).stu = s.stu := rfl
@[simp] theorem modFt_hc (f : FaultTable → FaultTable) : (s.modFt f).hc = s.hc := rfl
@[simp] theorem modFt_bl (f : FaultTable → FaultTable) : (s.modFt f).bl = s.bl := rfl
@[simp] theorem modFt_bpu (f : FaultTable → FaultTable) : (s.modFt f).bpu = s.bpu := rfl
@[simp] theorem modFt_dc (f : FaultTable → FaultTable) : (s.modFt f).dc = s.dc := rfl
@[simp] theorem modFt_tt (f : FaultTable → FaultTable) : (s.modFt f).tt = s.tt := rfl
@[simp] theorem modFt_gqu (f : FaultTable → FaultTable) : (s.modFt f).gqu = s.gqu := rfl
@[simp] theorem modFt_mau (f : FaultTable → FaultTable) : (s.modFt f).mau = s.mau := rfl
@[simp] theorem modFt_ft (f : FaultTable → FaultTable) : (s.modFt f).ft = f s.ft := rfl
@[simp] theorem modFt_ll (f : FaultTable → FaultTable) : (s.modFt f).ll = s.ll := rfl

@[simp] theorem modLl_pending (f : Ll → Ll) : (s.modLl f).pending = s.pending := rfl
@[simp] theorem modLl_now (f : Ll → Ll) : (s.modLl f).now = s.now := rfl
@[simp] theorem modLl_lgp (f : Ll → Ll) : (s.modLl f).lgp = s.lgp := rfl
@[simp] theorem modLl_stu (f : Ll → Ll) : (s.modLl f).stu = s.stu := rfl
@[simp] theorem modLl_hc (f : Ll → Ll) : (s.modLl f).hc = s.hc := rfl
@[simp] theorem modLl_bl (f : Ll → Ll) : (s.modLl f).bl = s.bl := rfl
@[simp] theorem modLl_bpu (f : Ll → Ll) : (s.modLl f).bpu = s.bpu := rfl
@[simp] theorem modLl_dc (f : Ll → Ll) : (s.modLl f).dc = s.dc := rfl
@[simp] theorem modLl_tt (f : Ll → Ll) : (s.modLl f).tt = s.tt := rfl
@[simp] theorem modLl_gqu (f : Ll → Ll) : (s.modLl f).gqu = s.gqu := rfl
@[simp] theorem modLl_mau (f : Ll → Ll) : (s.modLl f).mau = s.mau := rfl
@[simp] theorem modLl_ft (f : Ll → Ll) : (s.modLl f).ft = s.ft := rfl
@[simp] theorem modLl_ll (f : Ll → Ll) : (s.modLl f).ll = f s.ll := rfl

@[simp] theorem setNow_pending (t : Nat) : (s.setNow t).pending = s.pending := rfl
@[simp] theorem setNow_now (t : Nat) : (s.setNow t).now = t := rfl
@[simp] theorem setNow_lgp (t : Nat) : (s.setNow t).lgp = s.lgp := rfl
@[simp] theorem setNow_stu (t : Nat) : (s.setNow t).stu = s.stu := rfl
@[simp] theorem setNow_hc (t : Nat) : (s.setNow t).hc = s.hc := rfl
@[simp] theorem setNow_bl (t : Nat) : (s.setNow t).bl = s.bl := rfl
@[simp] theorem setNow_bpu (t : Nat) : (s.setNow t).bpu = s.bpu := rfl
@[simp] theorem setNow_dc (t : Nat) : (s.setNow t).dc = s.dc := rfl
@[simp] theorem setNow_tt (t : Nat) : (s.setNow t).tt = s.tt := rfl
@[simp] theorem setNow_gqu (t : Nat) : (s.setNow t).gqu = s.gqu := rfl
@[simp] theorem setNow_mau (t : Nat) : (s.setNow t).mau = s.mau := rfl
@[simp] theorem setNow_ft (t : Nat) : (s.setNow t).ft = s.ft := rfl
@[simp] theorem setNow_ll (t : Nat) : (s.setNow t).ll = s.ll := rfl

@[simp] theorem setPending_pending (q : List Instr) : (s.setPending q).pending = q := rfl
@[simp] theorem setPending_now (q : List Instr) : (s.setPending q).now = s.now := rfl
@[simp] theorem setPending_lgp (q : List Instr) : (s.setPending q).lgp = s.lgp := rfl
@[simp] theorem setPending_stu (q : List Instr) : (s.setPending q).stu = s.stu := rfl
@[simp] theorem setPending_hc (q : List Instr) : (s.setPending q).hc = s.hc := rfl
@[simp] theorem setPending_bl (q : List Instr) : (s.setPending q).bl = s.bl := rfl
@[simp] theorem setPending_bpu (q : List Instr) : (s.setPending q).bpu = s.bpu := rfl
@[simp] theorem setPending_dc (q : List Instr) : (s.setPending q).dc = s.dc := rfl
@[simp] theorem setPending_tt (q : List Instr) : (s.setPending q).tt = s.tt := rfl
@[simp] theorem setPending_gqu (q : List Instr) : (s.setPending q).gqu = s.gqu := rfl
@[simp] theorem setPending_mau (q : List Instr) : (s.setPending q).mau = s.mau := rfl
@[simp] theorem setPending_ft (q : List Instr) : (s.setPending q).ft = s.ft := rfl
@[simp] theorem setPending_ll (q : List Instr) : (s.setPending q).ll = s.ll := rfl

end Sys2Proof.Machine
end

