-- ==== Sys2Proof/Laws/Ops.lean ====
section
/-!
SUPPORT. What each shared operation leaves alone: for every operation of Ops.lean and every part of the
state that it does not touch, one lemma. `outer` is the part that no block's rule touches: the commands
waiting, the time, and the line link less its notice list.
-/

namespace Sys2Proof.Machine

/-- The line link less its notice list. -/
def Ll.base (l : Ll) : Ll := { l with notices := [] }

/-- The commands waiting, the time, and the line link less its notice list. -/
def State.outer (s : State) : List Instr × Nat × Ll := (s.pending, s.now, s.ll.base)

variable (s : State)

@[simp] theorem modLgp_outer (f : Lgp → Lgp) : (s.modLgp f).outer = s.outer := rfl
@[simp] theorem modStu_outer (f : Stu → Stu) : (s.modStu f).outer = s.outer := rfl
@[simp] theorem modHc_outer (f : Hc → Hc) : (s.modHc f).outer = s.outer := rfl
@[simp] theorem modBl_outer (f : Bl → Bl) : (s.modBl f).outer = s.outer := rfl
@[simp] theorem modBpu_outer (f : Bpu → Bpu) : (s.modBpu f).outer = s.outer := rfl
@[simp] theorem modDc_outer (f : Dc → Dc) : (s.modDc f).outer = s.outer := rfl
@[simp] theorem modTt_outer (f : Tt → Tt) : (s.modTt f).outer = s.outer := rfl
@[simp] theorem modGqu_outer (f : Gqu → Gqu) : (s.modGqu f).outer = s.outer := rfl
@[simp] theorem modMau_outer (f : Mau → Mau) : (s.modMau f).outer = s.outer := rfl
@[simp] theorem modFt_outer (f : FaultTable → FaultTable) : (s.modFt f).outer = s.outer := rfl

theorem outer_pending {s t : State} (h : t.outer = s.outer) : t.pending = s.pending := congrArg (·.1) h
theorem outer_now {s t : State} (h : t.outer = s.outer) : t.now = s.now := congrArg (·.2.1) h
theorem outer_holding {s t : State} (h : t.outer = s.outer) : t.ll.holding = s.ll.holding :=
  congrArg (·.2.2.holding) h
theorem outer_replySlot {s t : State} (h : t.outer = s.outer) : t.ll.replySlot = s.ll.replySlot :=
  congrArg (·.2.2.replySlot) h
theorem outer_sending {s t : State} (h : t.outer = s.outer) : t.ll.sending = s.ll.sending :=
  congrArg (·.2.2.sending) h
theorem outer_rx {s t : State} (h : t.outer = s.outer) : t.ll.rx = s.ll.rx := congrArg (·.2.2.rx) h
theorem outer_gapDue {s t : State} (h : t.outer = s.outer) : t.ll.gapDue = s.ll.gapDue :=
  congrArg (·.2.2.gapDue) h

@[simp] theorem endCondition_outer (k : FaultKey) : (endCondition k s).outer = s.outer := rfl
@[simp] theorem endCondition_lgp (k : FaultKey) : (endCondition k s).lgp = s.lgp := rfl
@[simp] theorem endCondition_stu (k : FaultKey) : (endCondition k s).stu = s.stu := rfl
@[simp] theorem endCondition_hc (k : FaultKey) : (endCondition k s).hc = s.hc := rfl
@[simp] theorem endCondition_bl (k : FaultKey) : (endCondition k s).bl = s.bl := rfl
@[simp] theorem endCondition_bpu (k : FaultKey) : (endCondition k s).bpu = s.bpu := rfl
@[simp] theorem endCondition_dc (k : FaultKey) : (endCondition k s).dc = s.dc := rfl
@[simp] theorem endCondition_tt (k : FaultKey) : (endCondition k s).tt = s.tt := rfl
@[simp] theorem endCondition_gqu (k : FaultKey) : (endCondition k s).gqu = s.gqu := rfl
@[simp] theorem endCondition_mau (k : FaultKey) : (endCondition k s).mau = s.mau := rfl
@[simp] theorem mark_outer (k : NoticeKey) : (mark k s).outer = s.outer := rfl

@[simp] theorem mark_lgp (k : NoticeKey) : (mark k s).lgp = s.lgp := by
  simp [mark]
@[simp] theorem mark_stu (k : NoticeKey) : (mark k s).stu = s.stu := by
  simp [mark]
@[simp] theorem mark_hc (k : NoticeKey) : (mark k s).hc = s.hc := by
  simp [mark]
@[simp] theorem mark_bl (k : NoticeKey) : (mark k s).bl = s.bl := by
  simp [mark]
@[simp] theorem mark_bpu (k : NoticeKey) : (mark k s).bpu = s.bpu := by
  simp [mark]
@[simp] theorem mark_dc (k : NoticeKey) : (mark k s).dc = s.dc := by
  simp [mark]
@[simp] theorem mark_tt (k : NoticeKey) : (mark k s).tt = s.tt := by
  simp [mark]
@[simp] theorem mark_gqu (k : NoticeKey) : (mark k s).gqu = s.gqu := by
  simp [mark]
@[simp] theorem mark_mau (k : NoticeKey) : (mark k s).mau = s.mau := by
  simp [mark]
@[simp] theorem mark_ft (k : NoticeKey) : (mark k s).ft = s.ft := by
  simp [mark]
@[simp] theorem emptySlots_outer (g : FaultTable → FaultTable) : (emptySlots g s).outer = s.outer := by
  simp only [emptySlots]; split <;> simp
@[simp] theorem emptySlots_lgp (g : FaultTable → FaultTable) : (emptySlots g s).lgp = s.lgp := by
  simp only [emptySlots]; split <;> simp
@[simp] theorem emptySlots_stu (g : FaultTable → FaultTable) : (emptySlots g s).stu = s.stu := by
  simp only [emptySlots]; split <;> simp
@[simp] theorem emptySlots_hc (g : FaultTable → FaultTable) : (emptySlots g s).hc = s.hc := by
  simp only [emptySlots]; split <;> simp
@[simp] theorem emptySlots_bl (g : FaultTable → FaultTable) : (emptySlots g s).bl = s.bl := by
  simp only [emptySlots]; split <;> simp
@[simp] theorem emptySlots_bpu (g : FaultTable → FaultTable) : (emptySlots g s).bpu = s.bpu := by
  simp only [emptySlots]; split <;> simp
@[simp] theorem emptySlots_dc (g : FaultTable → FaultTable) : (emptySlots g s).dc = s.dc := by
  simp only [emptySlots]; split <;> simp
@[simp] theorem emptySlots_tt (g : FaultTable → FaultTable) : (emptySlots g s).tt = s.tt := by
  simp only [emptySlots]; split <;> simp
@[simp] theorem emptySlots_gqu (g : FaultTable → FaultTable) : (emptySlots g s).gqu = s.gqu := by
  simp only [emptySlots]; split <;> simp
@[simp] theorem emptySlots_mau (g : FaultTable → FaultTable) : (emptySlots g s).mau = s.mau := by
  simp only [emptySlots]; split <;> simp
/-- The table after slots were emptied. -/
@[simp] theorem emptySlots_ft (g : FaultTable → FaultTable) : (emptySlots g s).ft = g s.ft := by
  simp only [emptySlots]; split <;> simp [*]
@[simp] theorem markAll_outer : ∀ l s, (markAll l s).outer = s.outer
  | [], _ => rfl
  | k :: ks, s => by rw [markAll, markAll_outer ks, mark_outer]
@[simp] theorem markAll_lgp : ∀ l s, (markAll l s).lgp = s.lgp
  | [], _ => rfl
  | k :: ks, s => by rw [markAll, markAll_lgp ks, mark_lgp]
@[simp] theorem markAll_stu : ∀ l s, (markAll l s).stu = s.stu
  | [], _ => rfl
  | k :: ks, s => by rw [markAll, markAll_stu ks, mark_stu]
@[simp] theorem markAll_hc : ∀ l s, (markAll l s).hc = s.hc
  | [], _ => rfl
  | k :: ks, s => by rw [markAll, markAll_hc ks, mark_hc]
@[simp] theorem markAll_bl : ∀ l s, (markAll l s).bl = s.bl
  | [], _ => rfl
  | k :: ks, s => by rw [markAll, markAll_bl ks, mark_bl]
@[simp] theorem markAll_bpu : ∀ l s, (markAll l s).bpu = s.bpu
  | [], _ => rfl
  | k :: ks, s => by rw [markAll, markAll_bpu ks, mark_bpu]
@[simp] theorem markAll_dc : ∀ l s, (markAll l s).dc = s.dc
  | [], _ => rfl
  | k :: ks, s => by rw [markAll, markAll_dc ks, mark_dc]
@[simp] theorem markAll_tt : ∀ l s, (markAll l s).tt = s.tt
  | [], _ => rfl
  | k :: ks, s => by rw [markAll, markAll_tt ks, mark_tt]
@[simp] theorem markAll_gqu : ∀ l s, (markAll l s).gqu = s.gqu
  | [], _ => rfl
  | k :: ks, s => by rw [markAll, markAll_gqu ks, mark_gqu]
@[simp] theorem markAll_mau : ∀ l s, (markAll l s).mau = s.mau
  | [], _ => rfl
  | k :: ks, s => by rw [markAll, markAll_mau ks, mark_mau]
@[simp] theorem markAll_ft : ∀ l s, (markAll l s).ft = s.ft
  | [], _ => rfl
  | k :: ks, s => by rw [markAll, markAll_ft ks, mark_ft]
@[simp] theorem wake_outer (c : WakeCause) : (wake c s).outer = s.outer := by
  simp only [wake]; (repeat' split) <;> simp [*]
@[simp] theorem wake_lgp (c : WakeCause) : (wake c s).lgp = s.lgp := by
  simp only [wake]; (repeat' split) <;> simp [*]
@[simp] theorem wake_stu (c : WakeCause) : (wake c s).stu = s.stu := by
  simp only [wake]; (repeat' split) <;> simp [*]
@[simp] theorem wake_hc (c : WakeCause) : (wake c s).hc = s.hc := by
  simp only [wake]; (repeat' split) <;> simp [*]
@[simp] theorem wake_bl (c : WakeCause) : (wake c s).bl = s.bl := by
  simp only [wake]; (repeat' split) <;> simp [*]
@[simp] theorem wake_bpu (c : WakeCause) : (wake c s).bpu = s.bpu := by
  simp only [wake]; (repeat' split) <;> simp [*]
@[simp] theorem wake_dc (c : WakeCause) : (wake c s).dc = s.dc := by
  simp only [wake]; (repeat' split) <;> simp [*]
@[simp] theorem wake_tt (c : WakeCause) : (wake c s).tt = s.tt := by
  simp only [wake]; (repeat' split) <;> simp [*]
@[simp] theorem wake_gqu (c : WakeCause) : (wake c s).gqu = s.gqu := by
  simp only [wake]; (repeat' split) <;> simp [*]
@[simp] theorem wake_ft (c : WakeCause) : (wake c s).ft = s.ft := by
  simp only [wake]; (repeat' split) <;> simp [*]
@[simp] theorem dissolveBatch_outer (c : Car) : (dissolveBatch c s).outer = s.outer := by
  simp only [dissolveBatch]; (repeat' split) <;> simp [*]
@[simp] theorem dissolveBatch_lgp (c : Car) : (dissolveBatch c s).lgp = s.lgp := by
  simp only [dissolveBatch]; (repeat' split) <;> simp [*]
@[simp] theorem dissolveBatch_stu (c : Car) : (dissolveBatch c s).stu = s.stu := by
  simp only [dissolveBatch]; (repeat' split) <;> simp [*]
@[simp] theorem dissolveBatch_hc (c : Car) : (dissolveBatch c s).hc = s.hc := by
  simp only [dissolveBatch]; (repeat' split) <;> simp [*]
@[simp] theorem dissolveBatch_bl (c : Car) : (dissolveBatch c s).bl = s.bl := by
  simp only [dissolveBatch]; (repeat' split) <;> simp [*]
@[simp] theorem dissolveBatch_bpu (c : Car) : (dissolveBatch c s).bpu = s.bpu := by
  simp only [dissolveBatch]; (repeat' split) <;> simp [*]
@[simp] theorem dissolveBatch_dc (c : Car) : (dissolveBatch c s).dc = s.dc := by
  simp only [dissolveBatch]; (repeat' split) <;> simp [*]
@[simp] theorem dissolveBatch_tt (c : Car) : (dissolveBatch c s).tt = s.tt := by
  simp only [dissolveBatch]; (repeat' split) <;> simp [*]
@[simp] theorem dissolveBatch_mau (c : Car) : (dissolveBatch c s).mau = s.mau := by
  simp only [dissolveBatch]; (repeat' split) <;> simp [*]
@[simp] theorem dissolveBatch_ft (c : Car) : (dissolveBatch c s).ft = s.ft := by
  simp only [dissolveBatch]; (repeat' split) <;> simp [*]
@[simp] theorem dissolveBoth_outer : (dissolveBoth s).outer = s.outer := by
  simp [dissolveBoth]
@[simp] theorem dissolveBoth_lgp : (dissolveBoth s).lgp = s.lgp := by
  simp [dissolveBoth]
@[simp] theorem dissolveBoth_stu : (dissolveBoth s).stu = s.stu := by
  simp [dissolveBoth]
@[simp] theorem dissolveBoth_hc : (dissolveBoth s).hc = s.hc := by
  simp [dissolveBoth]
@[simp] theorem dissolveBoth_bl : (dissolveBoth s).bl = s.bl := by
  simp [dissolveBoth]
@[simp] theorem dissolveBoth_bpu : (dissolveBoth s).bpu = s.bpu := by
  simp [dissolveBoth]
@[simp] theorem dissolveBoth_dc : (dissolveBoth s).dc = s.dc := by
  simp [dissolveBoth]
@[simp] theorem dissolveBoth_tt : (dissolveBoth s).tt = s.tt := by
  simp [dissolveBoth]
@[simp] theorem dissolveBoth_mau : (dissolveBoth s).mau = s.mau := by
  simp [dissolveBoth]
@[simp] theorem dissolveBoth_ft : (dissolveBoth s).ft = s.ft := by
  simp [dissolveBoth]
@[simp] theorem modBrake_outer (b : Brake) (f : BrakeRec → BrakeRec) : (modBrake b f s).outer = s.outer := by
  simp [modBrake]
@[simp] theorem modBrake_lgp (b : Brake) (f : BrakeRec → BrakeRec) : (modBrake b f s).lgp = s.lgp := by
  simp [modBrake]
@[simp] theorem modBrake_stu (b : Brake) (f : BrakeRec → BrakeRec) : (modBrake b f s).stu = s.stu := by
  simp [modBrake]
@[simp] theorem modBrake_hc (b : Brake) (f : BrakeRec → BrakeRec) : (modBrake b f s).hc = s.hc := by
  simp [modBrake]
@[simp] theorem modBrake_bpu (b : Brake) (f : BrakeRec → BrakeRec) : (modBrake b f s).bpu = s.bpu := by
  simp [modBrake]
@[simp] theorem modBrake_dc (b : Brake) (f : BrakeRec → BrakeRec) : (modBrake b f s).dc = s.dc := by
  simp [modBrake]
@[simp] theorem modBrake_tt (b : Brake) (f : BrakeRec → BrakeRec) : (modBrake b f s).tt = s.tt := by
  simp [modBrake]
@[simp] theorem modBrake_gqu (b : Brake) (f : BrakeRec → BrakeRec) : (modBrake b f s).gqu = s.gqu := by
  simp [modBrake]
@[simp] theorem modBrake_mau (b : Brake) (f : BrakeRec → BrakeRec) : (modBrake b f s).mau = s.mau := by
  simp [modBrake]
@[simp] theorem modBrake_ft (b : Brake) (f : BrakeRec → BrakeRec) : (modBrake b f s).ft = s.ft := by
  simp [modBrake]
@[simp] theorem applyBrake_outer (b : Brake) : (applyBrake b s).outer = s.outer := by
  simp [applyBrake]
@[simp] theorem applyBrake_lgp (b : Brake) : (applyBrake b s).lgp = s.lgp := by
  simp [applyBrake]
@[simp] theorem applyBrake_stu (b : Brake) : (applyBrake b s).stu = s.stu := by
  simp [applyBrake]
@[simp] theorem applyBrake_hc (b : Brake) : (applyBrake b s).hc = s.hc := by
  simp [applyBrake]
@[simp] theorem applyBrake_bpu (b : Brake) : (applyBrake b s).bpu = s.bpu := by
  simp [applyBrake]
@[simp] theorem applyBrake_dc (b : Brake) : (applyBrake b s).dc = s.dc := by
  simp [applyBrake]
@[simp] theorem applyBrake_tt (b : Brake) : (applyBrake b s).tt = s.tt := by
  simp [applyBrake]
@[simp] theorem applyBrake_gqu (b : Brake) : (applyBrake b s).gqu = s.gqu := by
  simp [applyBrake]
@[simp] theorem applyBrake_mau (b : Brake) : (applyBrake b s).mau = s.mau := by
  simp [applyBrake]
@[simp] theorem applyBrake_ft (b : Brake) : (applyBrake b s).ft = s.ft := by
  simp [applyBrake]
@[simp] theorem releaseBrake_outer (b : Brake) : (releaseBrake b s).outer = s.outer := by
  simp only [releaseBrake]; (repeat' split) <;> simp [*]
@[simp] theorem releaseBrake_lgp (b : Brake) : (releaseBrake b s).lgp = s.lgp := by
  simp only [releaseBrake]; (repeat' split) <;> simp [*]
@[simp] theorem releaseBrake_stu (b : Brake) : (releaseBrake b s).stu = s.stu := by
  simp only [releaseBrake]; (repeat' split) <;> simp [*]
@[simp] theorem releaseBrake_hc (b : Brake) : (releaseBrake b s).hc = s.hc := by
  simp only [releaseBrake]; (repeat' split) <;> simp [*]
@[simp] theorem releaseBrake_bpu (b : Brake) : (releaseBrake b s).bpu = s.bpu := by
  simp only [releaseBrake]; (repeat' split) <;> simp [*]
@[simp] theorem releaseBrake_dc (b : Brake) : (releaseBrake b s).dc = s.dc := by
  simp only [releaseBrake]; (repeat' split) <;> simp [*]
@[simp] theorem releaseBrake_tt (b : Brake) : (releaseBrake b s).tt = s.tt := by
  simp only [releaseBrake]; (repeat' split) <;> simp [*]
@[simp] theorem releaseBrake_gqu (b : Brake) : (releaseBrake b s).gqu = s.gqu := by
  simp only [releaseBrake]; (repeat' split) <;> simp [*]
@[simp] theorem releaseBrake_mau (b : Brake) : (releaseBrake b s).mau = s.mau := by
  simp only [releaseBrake]; (repeat' split) <;> simp [*]
@[simp] theorem releaseBrake_ft (b : Brake) : (releaseBrake b s).ft = s.ft := by
  simp only [releaseBrake]; (repeat' split) <;> simp [*]
@[simp] theorem command_outer (d : DriveCommand) : (command d s).outer = s.outer := by
  simp [command]
@[simp] theorem command_lgp (d : DriveCommand) : (command d s).lgp = s.lgp := by
  simp [command]
@[simp] theorem command_stu (d : DriveCommand) : (command d s).stu = s.stu := by
  simp [command]
@[simp] theorem command_bl (d : DriveCommand) : (command d s).bl = s.bl := by
  simp [command]
@[simp] theorem command_bpu (d : DriveCommand) : (command d s).bpu = s.bpu := by
  simp [command]
@[simp] theorem command_dc (d : DriveCommand) : (command d s).dc = s.dc := by
  simp [command]
@[simp] theorem command_tt (d : DriveCommand) : (command d s).tt = s.tt := by
  simp [command]
@[simp] theorem command_gqu (d : DriveCommand) : (command d s).gqu = s.gqu := by
  simp [command]
@[simp] theorem command_mau (d : DriveCommand) : (command d s).mau = s.mau := by
  simp [command]
@[simp] theorem command_ft (d : DriveCommand) : (command d s).ft = s.ft := by
  simp [command]
@[simp] theorem setHaul_outer (x : HaulState) : (setHaul x s).outer = s.outer := by
  simp [setHaul]
@[simp] theorem setHaul_lgp (x : HaulState) : (setHaul x s).lgp = s.lgp := by
  simp [setHaul]
@[simp] theorem setHaul_stu (x : HaulState) : (setHaul x s).stu = s.stu := by
  simp [setHaul]
@[simp] theorem setHaul_bl (x : HaulState) : (setHaul x s).bl = s.bl := by
  simp [setHaul]
@[simp] theorem setHaul_bpu (x : HaulState) : (setHaul x s).bpu = s.bpu := by
  simp [setHaul]
@[simp] theorem setHaul_dc (x : HaulState) : (setHaul x s).dc = s.dc := by
  simp [setHaul]
@[simp] theorem setHaul_tt (x : HaulState) : (setHaul x s).tt = s.tt := by
  simp [setHaul]
@[simp] theorem setHaul_gqu (x : HaulState) : (setHaul x s).gqu = s.gqu := by
  simp [setHaul]
@[simp] theorem setHaul_mau (x : HaulState) : (setHaul x s).mau = s.mau := by
  simp [setHaul]
@[simp] theorem setHaul_ft (x : HaulState) : (setHaul x s).ft = s.ft := by
  simp [setHaul]
@[simp] theorem abandonTrip_outer (cause : EndCause) : (abandonTrip cause s).outer = s.outer := by
  simp only [abandonTrip]; (repeat' split) <;> simp [*]
@[simp] theorem abandonTrip_lgp (cause : EndCause) : (abandonTrip cause s).lgp = s.lgp := by
  simp only [abandonTrip]; (repeat' split) <;> simp [*]
@[simp] theorem abandonTrip_stu (cause : EndCause) : (abandonTrip cause s).stu = s.stu := by
  simp only [abandonTrip]; (repeat' split) <;> simp [*]
@[simp] theorem abandonTrip_bl (cause : EndCause) : (abandonTrip cause s).bl = s.bl := by
  simp only [abandonTrip]; (repeat' split) <;> simp [*]
@[simp] theorem abandonTrip_bpu (cause : EndCause) : (abandonTrip cause s).bpu = s.bpu := by
  simp only [abandonTrip]; (repeat' split) <;> simp [*]
@[simp] theorem abandonTrip_dc (cause : EndCause) : (abandonTrip cause s).dc = s.dc := by
  simp only [abandonTrip]; (repeat' split) <;> simp [*]
@[simp] theorem abandonTrip_tt (cause : EndCause) : (abandonTrip cause s).tt = s.tt := by
  simp only [abandonTrip]; (repeat' split) <;> simp [*]
@[simp] theorem abandonTrip_mau (cause : EndCause) : (abandonTrip cause s).mau = s.mau := by
  simp only [abandonTrip]; (repeat' split) <;> simp [*]
@[simp] theorem abandonTrip_ft (cause : EndCause) : (abandonTrip cause s).ft = s.ft := by
  simp only [abandonTrip]; (repeat' split) <;> simp [*]
@[simp] theorem parkedCycle_outer (held : Bool) : (parkedCycle held s).outer = s.outer := by
  simp only [parkedCycle]; (repeat' split) <;> simp [*]
@[simp] theorem parkedCycle_lgp (held : Bool) : (parkedCycle held s).lgp = s.lgp := by
  simp only [parkedCycle]; (repeat' split) <;> simp [*]
@[simp] theorem parkedCycle_stu (held : Bool) : (parkedCycle held s).stu = s.stu := by
  simp only [parkedCycle]; (repeat' split) <;> simp [*]
@[simp] theorem parkedCycle_bl (held : Bool) : (parkedCycle held s).bl = s.bl := by
  simp only [parkedCycle]; (repeat' split) <;> simp [*]
@[simp] theorem parkedCycle_bpu (held : Bool) : (parkedCycle held s).bpu = s.bpu := by
  simp only [parkedCycle]; (repeat' split) <;> simp [*]
@[simp] theorem parkedCycle_dc (held : Bool) : (parkedCycle held s).dc = s.dc := by
  simp only [parkedCycle]; (repeat' split) <;> simp [*]
@[simp] theorem parkedCycle_tt (held : Bool) : (parkedCycle held s).tt = s.tt := by
  simp only [parkedCycle]; (repeat' split) <;> simp [*]
@[simp] theorem parkedCycle_gqu (held : Bool) : (parkedCycle held s).gqu = s.gqu := by
  simp only [parkedCycle]; (repeat' split) <;> simp [*]
@[simp] theorem parkedCycle_mau (held : Bool) : (parkedCycle held s).mau = s.mau := by
  simp only [parkedCycle]; (repeat' split) <;> simp [*]
@[simp] theorem parkedCycle_ft (held : Bool) : (parkedCycle held s).ft = s.ft := by
  simp only [parkedCycle]; (repeat' split) <;> simp [*]
@[simp] theorem abandonDeparture_outer (cause : EndCause) : (abandonDeparture cause s).outer = s.outer := by
  simp only [abandonDeparture]; (repeat' split) <;> simp [*]
@[simp] theorem abandonDeparture_lgp (cause : EndCause) : (abandonDeparture cause s).lgp = s.lgp := by
  simp only [abandonDeparture]; (repeat' split) <;> simp [*]
@[simp] theorem abandonDeparture_stu (cause : EndCause) : (abandonDeparture cause s).stu = s.stu := by
  simp only [abandonDeparture]; (repeat' split) <;> simp [*]
@[simp] theorem abandonDeparture_bpu (cause : EndCause) : (abandonDeparture cause s).bpu = s.bpu := by
  simp only [abandonDeparture]; (repeat' split) <;> simp [*]
@[simp] theorem abandonDeparture_dc (cause : EndCause) : (abandonDeparture cause s).dc = s.dc := by
  simp only [abandonDeparture]; (repeat' split) <;> simp [*]
@[simp] theorem abandonDeparture_tt (cause : EndCause) : (abandonDeparture cause s).tt = s.tt := by
  simp only [abandonDeparture]; (repeat' split) <;> simp [*]
@[simp] theorem abandonDeparture_mau (cause : EndCause) : (abandonDeparture cause s).mau = s.mau := by
  simp only [abandonDeparture]; (repeat' split) <;> simp [*]
@[simp] theorem abandonDeparture_ft (cause : EndCause) : (abandonDeparture cause s).ft = s.ft := by
  simp only [abandonDeparture]; (repeat' split) <;> simp [*]
@[simp] theorem emergencyDemand_outer (code : Option FaultCode) : (emergencyDemand code s).outer = s.outer := by
  simp only [emergencyDemand]; (repeat' split) <;> simp [*]
@[simp] theorem emergencyDemand_lgp (code : Option FaultCode) : (emergencyDemand code s).lgp = s.lgp := by
  simp only [emergencyDemand]; (repeat' split) <;> simp [*]
@[simp] theorem emergencyDemand_stu (code : Option FaultCode) : (emergencyDemand code s).stu = s.stu := by
  simp only [emergencyDemand]; (repeat' split) <;> simp [*]
@[simp] theorem emergencyDemand_dc (code : Option FaultCode) : (emergencyDemand code s).dc = s.dc := by
  simp only [emergencyDemand]; (repeat' split) <;> simp [*]
@[simp] theorem emergencyDemand_tt (code : Option FaultCode) : (emergencyDemand code s).tt = s.tt := by
  simp only [emergencyDemand]; (repeat' split) <;> simp [*]
@[simp] theorem emergencyDemand_mau (code : Option FaultCode) : (emergencyDemand code s).mau = s.mau := by
  simp only [emergencyDemand]; (repeat' split) <;> simp [*]
@[simp] theorem emergencyDemand_ft (code : Option FaultCode) : (emergencyDemand code s).ft = s.ft := by
  simp only [emergencyDemand]; (repeat' split) <;> simp [*]
@[simp] theorem enterStopping_outer (stage : Nat) (cause : StopCause) : (enterStopping stage cause s).outer = s.outer := by
  simp [enterStopping]
@[simp] theorem enterStopping_lgp (stage : Nat) (cause : StopCause) : (enterStopping stage cause s).lgp = s.lgp := by
  simp [enterStopping]
@[simp] theorem enterStopping_stu (stage : Nat) (cause : StopCause) : (enterStopping stage cause s).stu = s.stu := by
  simp [enterStopping]
@[simp] theorem enterStopping_bpu (stage : Nat) (cause : StopCause) : (enterStopping stage cause s).bpu = s.bpu := by
  simp [enterStopping]
@[simp] theorem enterStopping_dc (stage : Nat) (cause : StopCause) : (enterStopping stage cause s).dc = s.dc := by
  simp [enterStopping]
@[simp] theorem enterStopping_tt (stage : Nat) (cause : StopCause) : (enterStopping stage cause s).tt = s.tt := by
  simp [enterStopping]
@[simp] theorem enterStopping_gqu (stage : Nat) (cause : StopCause) : (enterStopping stage cause s).gqu = s.gqu := by
  simp [enterStopping]
@[simp] theorem enterStopping_mau (stage : Nat) (cause : StopCause) : (enterStopping stage cause s).mau = s.mau := by
  simp [enterStopping]
@[simp] theorem enterStopping_ft (stage : Nat) (cause : StopCause) : (enterStopping stage cause s).ft = s.ft := by
  simp [enterStopping]
@[simp] theorem stopCauseFault_outer (c : FaultCode) : (stopCauseFault c s).outer = s.outer := by
  simp [stopCauseFault]
@[simp] theorem stopCauseFault_lgp (c : FaultCode) : (stopCauseFault c s).lgp = s.lgp := by
  simp [stopCauseFault]
@[simp] theorem stopCauseFault_stu (c : FaultCode) : (stopCauseFault c s).stu = s.stu := by
  simp [stopCauseFault]
@[simp] theorem stopCauseFault_hc (c : FaultCode) : (stopCauseFault c s).hc = s.hc := by
  simp [stopCauseFault]
@[simp] theorem stopCauseFault_bpu (c : FaultCode) : (stopCauseFault c s).bpu = s.bpu := by
  simp [stopCauseFault]
@[simp] theorem stopCauseFault_dc (c : FaultCode) : (stopCauseFault c s).dc = s.dc := by
  simp [stopCauseFault]
@[simp] theorem stopCauseFault_tt (c : FaultCode) : (stopCauseFault c s).tt = s.tt := by
  simp [stopCauseFault]
@[simp] theorem stopCauseFault_gqu (c : FaultCode) : (stopCauseFault c s).gqu = s.gqu := by
  simp [stopCauseFault]
@[simp] theorem stopCauseFault_mau (c : FaultCode) : (stopCauseFault c s).mau = s.mau := by
  simp [stopCauseFault]
@[simp] theorem stopCauseFault_ft (c : FaultCode) : (stopCauseFault c s).ft = s.ft := by
  simp [stopCauseFault]
@[simp] theorem serviceDemand_outer (c : FaultCode) : (serviceDemand c s).outer = s.outer := by
  simp only [serviceDemand]; (repeat' split) <;> simp [*]
@[simp] theorem serviceDemand_lgp (c : FaultCode) : (serviceDemand c s).lgp = s.lgp := by
  simp only [serviceDemand]; (repeat' split) <;> simp [*]
@[simp] theorem serviceDemand_stu (c : FaultCode) : (serviceDemand c s).stu = s.stu := by
  simp only [serviceDemand]; (repeat' split) <;> simp [*]
@[simp] theorem serviceDemand_bpu (c : FaultCode) : (serviceDemand c s).bpu = s.bpu := by
  simp only [serviceDemand]; (repeat' split) <;> simp [*]
@[simp] theorem serviceDemand_dc (c : FaultCode) : (serviceDemand c s).dc = s.dc := by
  simp only [serviceDemand]; (repeat' split) <;> simp [*]
@[simp] theorem serviceDemand_tt (c : FaultCode) : (serviceDemand c s).tt = s.tt := by
  simp only [serviceDemand]; (repeat' split) <;> simp [*]
@[simp] theorem serviceDemand_gqu (c : FaultCode) : (serviceDemand c s).gqu = s.gqu := by
  simp only [serviceDemand]; (repeat' split) <;> simp [*]
@[simp] theorem serviceDemand_mau (c : FaultCode) : (serviceDemand c s).mau = s.mau := by
  simp only [serviceDemand]; (repeat' split) <;> simp [*]
@[simp] theorem serviceDemand_ft (c : FaultCode) : (serviceDemand c s).ft = s.ft := by
  simp only [serviceDemand]; (repeat' split) <;> simp [*]
@[simp] theorem handOn_outer (c : FaultCode) : (handOn c s).outer = s.outer := by
  simp only [handOn]; (repeat' split) <;> simp [*]
@[simp] theorem handOn_lgp (c : FaultCode) : (handOn c s).lgp = s.lgp := by
  simp only [handOn]; (repeat' split) <;> simp [*]
@[simp] theorem handOn_stu (c : FaultCode) : (handOn c s).stu = s.stu := by
  simp only [handOn]; (repeat' split) <;> simp [*]
@[simp] theorem handOn_dc (c : FaultCode) : (handOn c s).dc = s.dc := by
  simp only [handOn]; (repeat' split) <;> simp [*]
@[simp] theorem handOn_tt (c : FaultCode) : (handOn c s).tt = s.tt := by
  simp only [handOn]; (repeat' split) <;> simp [*]
@[simp] theorem handOn_mau (c : FaultCode) : (handOn c s).mau = s.mau := by
  simp only [handOn]; (repeat' split) <;> simp [*]
@[simp] theorem handOn_ft (c : FaultCode) : (handOn c s).ft = s.ft := by
  simp only [handOn]; (repeat' split) <;> simp [*]
@[simp] theorem raise_outer (k : FaultKey) : (raise k s).outer = s.outer := by
  simp [raise]
@[simp] theorem raise_lgp (k : FaultKey) : (raise k s).lgp = s.lgp := by
  simp [raise]
@[simp] theorem raise_stu (k : FaultKey) : (raise k s).stu = s.stu := by
  simp [raise]
@[simp] theorem raise_dc (k : FaultKey) : (raise k s).dc = s.dc := by
  simp [raise]
@[simp] theorem raise_tt (k : FaultKey) : (raise k s).tt = s.tt := by
  simp [raise]
@[simp] theorem raise_mau (k : FaultKey) : (raise k s).mau = s.mau := by
  simp [raise]
@[simp] theorem moveStage2_outer : (moveStage2 s).outer = s.outer := by
  simp [moveStage2]
@[simp] theorem moveStage2_lgp : (moveStage2 s).lgp = s.lgp := by
  simp [moveStage2]
@[simp] theorem moveStage2_stu : (moveStage2 s).stu = s.stu := by
  simp [moveStage2]
@[simp] theorem moveStage2_dc : (moveStage2 s).dc = s.dc := by
  simp [moveStage2]
@[simp] theorem moveStage2_tt : (moveStage2 s).tt = s.tt := by
  simp [moveStage2]
@[simp] theorem moveStage2_mau : (moveStage2 s).mau = s.mau := by
  simp [moveStage2]
@[simp] theorem moveStage3_outer : (moveStage3 s).outer = s.outer := by
  simp [moveStage3]
@[simp] theorem moveStage3_lgp : (moveStage3 s).lgp = s.lgp := by
  simp [moveStage3]
@[simp] theorem moveStage3_stu : (moveStage3 s).stu = s.stu := by
  simp [moveStage3]
@[simp] theorem moveStage3_bpu : (moveStage3 s).bpu = s.bpu := by
  simp [moveStage3]
@[simp] theorem moveStage3_dc : (moveStage3 s).dc = s.dc := by
  simp [moveStage3]
@[simp] theorem moveStage3_tt : (moveStage3 s).tt = s.tt := by
  simp [moveStage3]
@[simp] theorem moveStage3_mau : (moveStage3 s).mau = s.mau := by
  simp [moveStage3]
@[simp] theorem moveStage3_ft : (moveStage3 s).ft = s.ft := by
  simp [moveStage3]
/-! ### Passing time with nothing judged -/

@[simp] theorem elapse_pending (dt : Nat) : (elapse dt s).pending = s.pending := rfl
@[simp] theorem elapse_now (dt : Nat) : (elapse dt s).now = s.now + dt := rfl
@[simp] theorem elapse_ll (dt : Nat) : (elapse dt s).ll = s.ll := rfl
@[simp] theorem elapse_lgp (dt : Nat) : (elapse dt s).lgp = s.lgp := rfl
@[simp] theorem elapse_stu (dt : Nat) : (elapse dt s).stu = s.stu := rfl
@[simp] theorem elapse_bl (dt : Nat) : (elapse dt s).bl = s.bl := rfl
@[simp] theorem elapse_bpu (dt : Nat) : (elapse dt s).bpu = s.bpu := rfl
@[simp] theorem elapse_dc (dt : Nat) : (elapse dt s).dc = s.dc := rfl
@[simp] theorem elapse_tt (dt : Nat) : (elapse dt s).tt = s.tt.pass dt := rfl
@[simp] theorem elapse_gqu (dt : Nat) : (elapse dt s).gqu = s.gqu := rfl
@[simp] theorem elapse_mau (dt : Nat) : (elapse dt s).mau = s.mau := rfl
@[simp] theorem elapse_ft (dt : Nat) : (elapse dt s).ft = s.ft := rfl
@[simp] theorem elapse_hc (dt : Nat) : (elapse dt s).hc
    = { s.hc with classes := s.fallenClasses dt, ramp := s.rampAfter dt } := rfl

/-- The line clock counts two intervals as it counts their sum. -/
theorem pass_pass (t : Tt) (a b : Nat) : (t.pass a).pass b = t.pass (a + b) := by
  obtain ⟨_, _, _, _, c, u⟩ := t
  simp only [Tt.pass]
  have e : (u + a) / 1000 + ((u + a) % 1000 + b) / 1000 = (u + (a + b)) / 1000 := by omega
  have m : ((u + a) % 1000 + b) % 1000 = (u + (a + b)) % 1000 := by omega
  (repeat' split) <;> dsimp only at * <;>
    first | (exfalso; omega) | (simp only [Tt.mk.injEq, true_and]; refine ⟨?_, ?_⟩ <;> omega) | rfl

/-- A ceiling falls over two intervals as over their sum. -/
theorem fall_fall (d a b : Nat) (g : Segment) : (g.fall d a).fall d b = g.fall d (a + b) := by
  obtain ⟨start, ceiling, accel, decel, falling⟩ := g
  have le : d * (a + b) = d * a + d * b := Nat.mul_add ..
  cases falling with
  | none => rfl
  | some v =>
    simp only [Segment.fall]
    by_cases h1 : v - d * a ≤ ceiling * 1000000
    · have h2 : v - d * (a + b) ≤ ceiling * 1000000 := by omega
      rw [if_pos h1, if_pos h2]
    · have e : v - d * a - d * b = v - d * (a + b) := by omega
      rw [if_neg h1]
      simp only [e]

/-- The fall of its ceiling changes no other field of a segment. -/
theorem fall_fields (d a : Nat) (g : Segment) :
    (g.fall d a).start = g.start ∧ (g.fall d a).ceiling = g.ceiling ∧ (g.fall d a).decel = g.decel := by
  simp only [Segment.fall]
  (repeat' split) <;> simp

/-- Car positions are of the geometry alone. -/
theorem carPos_congr {s t : State} (hl : t.lgp = s.lgp) (c : Car) : t.carPos c = s.carPos c := by
  simp only [State.carPos, State.carFine, State.driveCpm, State.length, hl]

/-- What passing time makes of the classes at a car position (03 R40). -/
theorem fallenClasses_eq {s t : State} (hc : t.hc.classes = s.hc.classes) (hl : t.lgp = s.lgp) (dt : Nat) :
    t.fallenClasses dt = s.fallenClasses dt := by
  simp only [State.fallenClasses, hc, carPos_congr hl]

/-- The active segment of a class keeps its place while ceilings fall. -/
theorem activeIndex_map_fall (d a : Nat) (segs : List Segment) (x : Int) :
    activeIndex (segs.map (Segment.fall d a)) x = activeIndex segs x := by
  simp only [activeIndex, List.filter_map, List.length_map]
  congr 3
  funext g
  simp [fall_fields]

/-- The classes fall over two intervals as over their sum. -/
theorem fallenClasses_add {s t : State} (a b : Nat) (hc : t.hc.classes = s.fallenClasses a)
    (hl : t.lgp = s.lgp) : t.fallenClasses b = s.fallenClasses (a + b) := by
  have pos : t.carPos .a = s.carPos .a := carPos_congr hl .a
  simp only [State.fallenClasses] at hc ⊢
  rw [hc, pos, List.map_map]
  apply List.map_congr_left
  intro c _
  cases c with
  | none => rfl
  | some segs =>
    simp only [Function.comp_apply, Option.map_some, activeIndex_map_fall, List.map_map, List.getElem?_map]
    congr 1
    apply List.map_congr_left
    intro g _
    simp only [Function.comp_apply]
    cases segs[activeIndex segs (s.carPos .a)]? with
    | none => exact fall_fall 0 a b g
    | some x => simp only [Option.map_some, (fall_fields _ a x).2.2, fall_fall]

/-! ### The classes and the raise of a fault -/

@[simp] theorem abandonTrip_classes (cause : EndCause) : (abandonTrip cause s).hc.classes = s.hc.classes := by
  simp only [abandonTrip]; split <;> simp
@[simp] theorem parkedCycle_classes (held : Bool) : (parkedCycle held s).hc.classes = s.hc.classes := by
  simp only [parkedCycle]; split <;> simp
@[simp] theorem abandonDeparture_classes (cause : EndCause) :
    (abandonDeparture cause s).hc.classes = s.hc.classes := by
  simp only [abandonDeparture]; (repeat' split) <;> simp [setHaul]
@[simp] theorem emergencyDemand_classes (code : Option FaultCode) :
    (emergencyDemand code s).hc.classes = s.hc.classes := by
  simp only [emergencyDemand]; (repeat' split) <;> simp [command]
@[simp] theorem serviceDemand_classes (c : FaultCode) : (serviceDemand c s).hc.classes = s.hc.classes := by
  simp only [serviceDemand]; (repeat' split) <;> simp [enterStopping]
@[simp] theorem handOn_classes (c : FaultCode) : (handOn c s).hc.classes = s.hc.classes := by
  simp only [handOn]; (repeat' split) <;> simp
@[simp] theorem raise_classes (k : FaultKey) : (raise k s).hc.classes = s.hc.classes := by
  simp [raise]

/-- A raise outside BRAKE_TEST leaves the proving unit alone. -/
theorem raise_bpu (k : FaultKey) (h : s.hc.haul ≠ .brakeTest) : (raise k s).bpu = s.bpu := by
  have sd : ∀ (c : FaultCode) (s : State), (serviceDemand c s).bpu = s.bpu := fun c s => by simp
  simp only [raise, handOn]
  split
  · simp only [emergencyDemand]
    simp only [modFt_hc, h, if_false]
    (repeat' split) <;> simp
  · simp
  · split <;> simp
  · simp

/-- A raise from a state other than BRAKE_TEST does not lead into it. -/
theorem raise_not_brakeTest (k : FaultKey) (h : s.hc.haul ≠ .brakeTest) :
    (raise k s).hc.haul ≠ .brakeTest := by
  have sd : ∀ (c : FaultCode) (s : State), s.hc.haul ≠ .brakeTest → (serviceDemand c s).hc.haul ≠ .brakeTest := by
    intro c s h
    simp only [serviceDemand]
    split <;> simp_all [enterStopping]
  have ad : ∀ (c : EndCause) (s : State), s.hc.haul ≠ .brakeTest → (abandonDeparture c s).hc.haul ≠ .brakeTest := by
    intro c s h
    simp only [abandonDeparture]
    split
    · simp only [parkedCycle, abandonTrip]; (repeat' split) <;> simp
    · simp only [parkedCycle, abandonTrip]; (repeat' split) <;> simp [setHaul]
    · exact h
  simp only [raise, handOn]
  split
  · simp only [emergencyDemand, abandonTrip, modFt_hc, h, if_false, command]
    (repeat' split) <;> simp_all
  · exact ad _ _ (sd _ _ h)
  · split
    · exact ad _ _ h
    · exact h
  · exact h

/-! ### Envelope supervision -/

@[simp] theorem judgeEnvelope_outer : (judgeEnvelope s).outer = s.outer := by
  simp only [judgeEnvelope]; (repeat' split) <;> simp [*]
@[simp] theorem judgeEnvelope_lgp : (judgeEnvelope s).lgp = s.lgp := by
  simp only [judgeEnvelope]; (repeat' split) <;> simp [*]
@[simp] theorem judgeEnvelope_stu : (judgeEnvelope s).stu = s.stu := by
  simp only [judgeEnvelope]; (repeat' split) <;> simp [*]
@[simp] theorem judgeEnvelope_dc : (judgeEnvelope s).dc = s.dc := by
  simp only [judgeEnvelope]; (repeat' split) <;> simp [*]
@[simp] theorem judgeEnvelope_tt : (judgeEnvelope s).tt = s.tt := by
  simp only [judgeEnvelope]; (repeat' split) <;> simp [*]
@[simp] theorem judgeEnvelope_mau : (judgeEnvelope s).mau = s.mau := by
  simp only [judgeEnvelope]; (repeat' split) <;> simp [*]
@[simp] theorem judgeEnvelope_classes : (judgeEnvelope s).hc.classes = s.hc.classes := by
  simp only [judgeEnvelope]; (repeat' split) <;> simp [*]
/-- Envelope supervision outside BRAKE_TEST leaves the proving unit alone. -/
theorem judgeEnvelope_bpu (h : s.hc.haul ≠ .brakeTest) : (judgeEnvelope s).bpu = s.bpu := by
  have h1 := fun k => raise_not_brakeTest s k h
  simp only [judgeEnvelope]
  (repeat' split) <;> simp [raise_bpu, h, h1]

/-! ### What is judged at a moment -/

@[simp] theorem noteEncoders_outer : (noteEncoders s).outer = s.outer := by
  simp only [noteEncoders]; split <;> simp
@[simp] theorem noteEncoders_ll : (noteEncoders s).ll = s.ll := by
  simp only [noteEncoders]; split <;> rfl
@[simp] theorem noteEncoders_lgp : (noteEncoders s).lgp = s.lgp := by
  simp only [noteEncoders]; split <;> simp
@[simp] theorem noteEncoders_hc : (noteEncoders s).hc = s.hc := by
  simp only [noteEncoders]; split <;> simp
@[simp] theorem noteEncoders_bl : (noteEncoders s).bl = s.bl := by
  simp only [noteEncoders]; split <;> simp
@[simp] theorem noteEncoders_bpu : (noteEncoders s).bpu = s.bpu := by
  simp only [noteEncoders]; split <;> simp
@[simp] theorem noteEncoders_dc : (noteEncoders s).dc = s.dc := by
  simp only [noteEncoders]; split <;> simp
@[simp] theorem noteEncoders_tt : (noteEncoders s).tt = s.tt := by
  simp only [noteEncoders]; split <;> simp
@[simp] theorem noteEncoders_gqu : (noteEncoders s).gqu = s.gqu := by
  simp only [noteEncoders]; split <;> simp
@[simp] theorem noteEncoders_mau : (noteEncoders s).mau = s.mau := by
  simp only [noteEncoders]; split <;> simp
@[simp] theorem noteEncoders_speed : (noteEncoders s).stu.speed = s.stu.speed := by
  simp only [noteEncoders]; split <;> simp
@[simp] theorem noteEncoders_tension : (noteEncoders s).stu.tension = s.stu.tension := by
  simp only [noteEncoders]; split <;> simp

/-- A haul that moves under the ceiling of its trip is in RUNNING or APPROACH. -/
theorem underTripCeiling_iff : s.underTripCeiling = true ↔ s.hc.haul = .running ∨ s.hc.haul = .approach := by
  simp [State.underTripCeiling]

@[simp] theorem noteEnvelope_outer : (noteEnvelope s).outer = s.outer := by
  simp only [noteEnvelope]; split <;> simp
@[simp] theorem noteEnvelope_lgp : (noteEnvelope s).lgp = s.lgp := by
  simp only [noteEnvelope]; split <;> simp
@[simp] theorem noteEnvelope_stu : (noteEnvelope s).stu = s.stu := by
  simp only [noteEnvelope]; split <;> simp
@[simp] theorem noteEnvelope_dc : (noteEnvelope s).dc = s.dc := by
  simp only [noteEnvelope]; split <;> simp
@[simp] theorem noteEnvelope_tt : (noteEnvelope s).tt = s.tt := by
  simp only [noteEnvelope]; split <;> simp
@[simp] theorem noteEnvelope_mau : (noteEnvelope s).mau = s.mau := by
  simp only [noteEnvelope]; split <;> simp
@[simp] theorem noteEnvelope_classes : (noteEnvelope s).hc.classes = s.hc.classes := by
  simp only [noteEnvelope]; split <;> simp
@[simp] theorem noteEnvelope_bpu : (noteEnvelope s).bpu = s.bpu := by
  simp only [noteEnvelope]
  split
  · rename_i h
    rw [underTripCeiling_iff] at h
    exact judgeEnvelope_bpu s (by rcases h with h | h <;> simp [h])
  · simp

@[simp] theorem judgeMoment_outer : (judgeMoment s).outer = s.outer := by simp [judgeMoment]
@[simp] theorem judgeMoment_now : (judgeMoment s).now = s.now := outer_now (judgeMoment_outer s)
@[simp] theorem judgeMoment_pending : (judgeMoment s).pending = s.pending := outer_pending (judgeMoment_outer s)
@[simp] theorem judgeMoment_base : (judgeMoment s).ll.base = s.ll.base :=
  congrArg (·.2.2) (judgeMoment_outer s)
@[simp] theorem judgeMoment_lgp : (judgeMoment s).lgp = s.lgp := by simp [judgeMoment]
@[simp] theorem judgeMoment_bpu : (judgeMoment s).bpu = s.bpu := by simp [judgeMoment]
@[simp] theorem judgeMoment_dc : (judgeMoment s).dc = s.dc := by simp [judgeMoment]
@[simp] theorem judgeMoment_tt : (judgeMoment s).tt = s.tt := by simp [judgeMoment]
@[simp] theorem judgeMoment_mau : (judgeMoment s).mau = s.mau := by simp [judgeMoment]
@[simp] theorem judgeMoment_classes : (judgeMoment s).hc.classes = s.hc.classes := by simp [judgeMoment]
@[simp] theorem judgeMoment_speed : (judgeMoment s).stu.speed = s.stu.speed := by simp [judgeMoment]
@[simp] theorem judgeMoment_tension : (judgeMoment s).stu.tension = s.stu.tension := by simp [judgeMoment]

/-- Where no trip ceiling supervises, what is judged at a moment changes in HC and GQU nothing, in LL no
notice, and in BL only the two test flags. -/
theorem judgeMoment_still (h : s.underTripCeiling = false) :
    (judgeMoment s).hc = s.hc ∧ (judgeMoment s).gqu = s.gqu ∧ (judgeMoment s).ll = s.ll
      ∧ (judgeMoment s).bl = { s.bl with
          serviceTest := (judgeMoment s).bl.serviceTest, emergencyTest := (judgeMoment s).bl.emergencyTest } := by
  have h1 : (noteEncoders s).underTripCeiling = false := by
    simpa [State.underTripCeiling] using h
  simp [judgeMoment, noteEnvelope, h1]

/-! ### The judged moments of passing time -/

/-- A halving search ends above its lower bound and at most at its upper one. -/
theorem bisect_bounds (p : Nat → Bool) : ∀ n lo hi, lo < hi → lo < bisect p n lo hi ∧ bisect p n lo hi ≤ hi
  | 0, _, _, h => ⟨h, Nat.le_refl _⟩
  | n + 1, lo, hi, h => by
    simp only [bisect]
    split
    · exact ⟨h, Nat.le_refl _⟩
    · split
      · have := bisect_bounds p n lo ((lo + hi) / 2) (by omega)
        omega
      · have := bisect_bounds p n ((lo + hi) / 2) hi (by omega)
        omega

/-- A halving search ends where the predicate holds, when it holds at the upper bound. -/
theorem bisect_holds (p : Nat → Bool) : ∀ n lo hi, p hi = true → p (bisect p n lo hi) = true
  | 0, _, _, h => h
  | n + 1, lo, hi, h => by
    simp only [bisect]
    split
    · exact h
    · split
      · rename_i m
        exact bisect_holds p n lo _ m
      · exact bisect_holds p n _ hi h

/-- Where a test begins to hold by a fall, it lies within the span. -/
theorem risesWithin_bounds {s : State} {test : State → Bool} {d x : Nat} (h : s.risesWithin test d = some x) :
    0 < x ∧ x ≤ d ∧ test (elapse x s) = true := by
  simp only [State.risesWithin] at h
  split at h
  · simp at h
  · rename_i c
    simp only [Bool.or_eq_true, Bool.not_eq_true', not_or, decide_eq_true_eq, Bool.not_eq_false] at c
    cases h
    have b := bisect_bounds (fun m => test (elapse m s)) (d.log2 + 1) 0 d (by omega)
    exact ⟨b.1, b.2, bisect_holds (fun m => test (elapse m s)) _ _ _ c.2⟩

/-- Where an overspeed test begins to hold by a fall, it lies within the span. -/
theorem overspeedWithin_bounds {s : State} {d x : Nat} (h : s.overspeedWithin d = some x) : 0 < x ∧ x ≤ d := by
  simp only [State.overspeedWithin] at h
  split at h
  · revert h
    generalize h1 : s.risesWithin State.serviceTestNow d = a
    generalize h2 : s.risesWithin State.emergencyTestNow d = b
    intro h
    cases a with
    | none =>
      simp only at h
      subst h
      have := risesWithin_bounds h2
      omega
    | some y =>
      have := risesWithin_bounds h1
      cases b with
      | none => cases h; omega
      | some z =>
        have := risesWithin_bounds h2
        cases h
        omega
  · simp at h

/-- A change of an estimate on the way to t lies after now and at t at the latest. -/
theorem estimateChange_bounds {s : State} {t u : Nat} (h : s.estimateChange t = some u) :
    s.now < u ∧ u ≤ t := by
  simp only [State.estimateChange, Option.filter_eq_some_iff, Bool.and_eq_true, decide_eq_true_eq] at h
  exact h.2

/-- The steady span ends at t at the latest. -/
theorem steadyUntil_le (s : State) (t : Nat) : s.steadyUntil t ≤ t := by
  simp only [State.steadyUntil]
  split
  · rename_i u h
    have := estimateChange_bounds h
    omega
  · exact Nat.le_refl _

/-- The next judged moment is still to come and lies at t at the latest. -/
theorem nextMoment_bounds {s : State} {t u : Nat} (h : s.nextMoment t = some u) : s.now < u ∧ u ≤ t := by
  simp only [State.nextMoment] at h
  split at h
  · rename_i d hd
    cases h
    have b := overspeedWithin_bounds hd
    have := steadyUntil_le s t
    omega
  · exact estimateChange_bounds h

/-- A part of the state that neither passing time nor a judged moment changes stays as time is followed. -/
theorem followMoments_keeps {α : Type} (p : State → α) (h1 : ∀ dt s, p (elapse dt s) = p s)
    (h2 : ∀ s, p (judgeMoment s) = p s) : ∀ n t s, p (followMoments n t s) = p s
  | 0, _, _ => h1 _ _
  | n + 1, t, s => by
    simp only [followMoments]
    split
    · exact h1 _ _
    · rw [followMoments_keeps p h1 h2 n, h2, h1]

/-- The time after the moments were followed. -/
theorem followMoments_now : ∀ n t s, s.now ≤ t → (followMoments n t s).now = t
  | 0, t, s, h => by simp only [followMoments, elapse_now]; omega
  | n + 1, t, s, h => by
    simp only [followMoments]
    split
    · simp only [elapse_now]; omega
    · rename_i u hu
      have b := nextMoment_bounds hu
      exact followMoments_now n t _ (by simp only [judgeMoment_now, elapse_now]; omega)

/-- The line clock after the moments were followed. -/
theorem followMoments_tt : ∀ n t s, s.now ≤ t → (followMoments n t s).tt = s.tt.pass (t - s.now)
  | 0, _, _, _ => rfl
  | n + 1, t, s, h => by
    simp only [followMoments]
    split
    · rfl
    · rename_i u hu
      have b := nextMoment_bounds hu
      rw [followMoments_tt n t _ (by simp only [judgeMoment_now, elapse_now]; omega)]
      simp only [judgeMoment_tt, judgeMoment_now, elapse_tt, elapse_now, pass_pass]
      congr 1
      omega

/-- The classes after the moments were followed. -/
theorem followMoments_classes : ∀ n t s, s.now ≤ t →
    (followMoments n t s).hc.classes = s.fallenClasses (t - s.now)
  | 0, _, _, _ => rfl
  | n + 1, t, s, h => by
    simp only [followMoments]
    split
    · rfl
    · rename_i u hu
      have b := nextMoment_bounds hu
      rw [followMoments_classes n t _ (by simp only [judgeMoment_now, elapse_now]; omega),
        fallenClasses_add (s := s) (u - s.now) _ (by simp) (by simp)]
      simp only [judgeMoment_now, elapse_now]
      congr 1
      omega

/-- More rounds than there are microseconds left change nothing. -/
theorem followMoments_fuel : ∀ n m t s, t - s.now ≤ n → t - s.now ≤ m →
    followMoments n t s = followMoments m t s
  | 0, 0, _, _, _, _ => rfl
  | 0, m + 1, t, s, hn, _ => by
    simp only [followMoments]
    split
    · rfl
    · rename_i u hu
      have := nextMoment_bounds hu
      omega
  | n + 1, 0, t, s, _, hm => by
    simp only [followMoments]
    split
    · rfl
    · rename_i u hu
      have := nextMoment_bounds hu
      omega
  | n + 1, m + 1, t, s, hn, hm => by
    simp only [followMoments]
    split
    · rfl
    · rename_i u hu
      have := nextMoment_bounds hu
      exact followMoments_fuel n m t _ (by simp only [judgeMoment_now, elapse_now]; omega)
        (by simp only [judgeMoment_now, elapse_now]; omega)

@[simp] theorem passTime_pending (dt : Nat) : (passTime dt s).pending = s.pending :=
  followMoments_keeps (fun s => s.pending) (fun _ _ => rfl) judgeMoment_pending _ _ s
@[simp] theorem passTime_base (dt : Nat) : (passTime dt s).ll.base = s.ll.base :=
  followMoments_keeps (fun s => s.ll.base) (fun _ _ => rfl) judgeMoment_base _ _ s
@[simp] theorem passTime_lgp (dt : Nat) : (passTime dt s).lgp = s.lgp :=
  followMoments_keeps (fun s => s.lgp) (fun _ _ => rfl) judgeMoment_lgp _ _ s
@[simp] theorem passTime_bpu (dt : Nat) : (passTime dt s).bpu = s.bpu :=
  followMoments_keeps (fun s => s.bpu) (fun _ _ => rfl) judgeMoment_bpu _ _ s
@[simp] theorem passTime_dc (dt : Nat) : (passTime dt s).dc = s.dc :=
  followMoments_keeps (fun s => s.dc) (fun _ _ => rfl) judgeMoment_dc _ _ s
@[simp] theorem passTime_mau (dt : Nat) : (passTime dt s).mau = s.mau :=
  followMoments_keeps (fun s => s.mau) (fun _ _ => rfl) judgeMoment_mau _ _ s
@[simp] theorem passTime_speed (dt : Nat) : (passTime dt s).stu.speed = s.stu.speed :=
  followMoments_keeps (fun s => s.stu.speed) (fun _ _ => rfl) judgeMoment_speed _ _ s
@[simp] theorem passTime_tension (dt : Nat) : (passTime dt s).stu.tension = s.stu.tension :=
  followMoments_keeps (fun s => s.stu.tension) (fun _ _ => rfl) judgeMoment_tension _ _ s
/-- The time after dt microseconds. -/
@[simp] theorem passTime_now (dt : Nat) : (passTime dt s).now = s.now + dt :=
  followMoments_now _ _ s (by omega)
/-- The line clock after dt microseconds (07 R124). -/
theorem passTime_tt (dt : Nat) : (passTime dt s).tt = s.tt.pass dt := by
  simpa [passTime] using followMoments_tt dt (s.now + dt) s (by omega)
/-- The classes after dt microseconds (03 R40). -/
theorem passTime_classes (dt : Nat) : (passTime dt s).hc.classes = s.fallenClasses dt := by
  simpa [passTime] using followMoments_classes dt (s.now + dt) s (by omega)

/-- Time that meets no judged moment passes with nothing judged. -/
theorem passTime_still {dt : Nat} {s : State} (h : s.nextMoment (s.now + dt) = none) :
    passTime dt s = elapse dt s := by
  cases dt with
  | zero => simp [passTime, followMoments]
  | succ n => simp [passTime, followMoments, h]

/-- Time that meets a judged moment passes to it; the moment is judged and the rest of the time passes. -/
theorem passTime_moment {dt u : Nat} {s : State} (h : s.nextMoment (s.now + dt) = some u) :
    passTime dt s = passTime (s.now + dt - u) (judgeMoment (elapse (u - s.now) s)) := by
  have b := nextMoment_bounds h
  cases dt with
  | zero => omega
  | succ n =>
    simp only [passTime, followMoments, h]
    rw [show (judgeMoment (elapse (u - s.now) s)).now + (s.now + (n + 1) - u) = s.now + (n + 1) by
      simp only [judgeMoment_now, elapse_now]; omega]
    exact followMoments_fuel _ _ _ _ (by simp only [judgeMoment_now, elapse_now]; omega)
      (by simp only [judgeMoment_now, elapse_now]; omega)

@[simp] theorem passUntil_pending (t : Nat) : (passUntil t s).pending = s.pending := by
  simp [passUntil]
@[simp] theorem passUntil_base (t : Nat) : (passUntil t s).ll.base = s.ll.base := by
  simp [passUntil]
@[simp] theorem passUntil_lgp (t : Nat) : (passUntil t s).lgp = s.lgp := by
  simp [passUntil]
@[simp] theorem passUntil_bpu (t : Nat) : (passUntil t s).bpu = s.bpu := by
  simp [passUntil]
@[simp] theorem passUntil_dc (t : Nat) : (passUntil t s).dc = s.dc := by
  simp [passUntil]
@[simp] theorem passUntil_mau (t : Nat) : (passUntil t s).mau = s.mau := by
  simp [passUntil]
@[simp] theorem passUntil_speed (t : Nat) : (passUntil t s).stu.speed = s.stu.speed := by
  simp [passUntil]
@[simp] theorem passUntil_tension (t : Nat) : (passUntil t s).stu.tension = s.stu.tension := by
  simp [passUntil]

theorem raise_ft (k : FaultKey) : (raise k s).ft = s.ft.raised k s.tt.clock := by simp [raise]

/-! ### The stop (01 R5, 03 R44, 04 R81) -/

theorem stop_overtravelled (h : s.overtravelled = true) : s.stop = none := by simp [State.stop, h]

theorem stop_within_range (h : s.overtravelled = false) : s.stop = s.windowStop := by simp [State.stop, h]

theorem windowStop_of_stop {k : Nat} (h : s.stop = some k) : s.windowStop = some k := by
  cases o : s.overtravelled
  · rw [← stop_within_range s o]; exact h
  · rw [stop_overtravelled s o] at h; exact absurd h (by simp)

end Sys2Proof.Machine
end

