-- ==== Sys2Proof/Laws/Blocks.lean ====
section
/-!
SUPPORT. What the operations of the gate and queue unit, of LGP and of STU leave alone.
-/

namespace Sys2Proof.Machine

variable (s : State)

@[simp] theorem modLane_outer (id : Nat) (f : Lane → Lane) : (modLane id f s).outer = s.outer := by
  simp [modLane]
@[simp] theorem modLane_lgp (id : Nat) (f : Lane → Lane) : (modLane id f s).lgp = s.lgp := by
  simp [modLane]
@[simp] theorem modLane_stu (id : Nat) (f : Lane → Lane) : (modLane id f s).stu = s.stu := by
  simp [modLane]
@[simp] theorem modLane_hc (id : Nat) (f : Lane → Lane) : (modLane id f s).hc = s.hc := by
  simp [modLane]
@[simp] theorem modLane_bl (id : Nat) (f : Lane → Lane) : (modLane id f s).bl = s.bl := by
  simp [modLane]
@[simp] theorem modLane_bpu (id : Nat) (f : Lane → Lane) : (modLane id f s).bpu = s.bpu := by
  simp [modLane]
@[simp] theorem modLane_dc (id : Nat) (f : Lane → Lane) : (modLane id f s).dc = s.dc := by
  simp [modLane]
@[simp] theorem modLane_tt (id : Nat) (f : Lane → Lane) : (modLane id f s).tt = s.tt := by
  simp [modLane]
@[simp] theorem modLane_mau (id : Nat) (f : Lane → Lane) : (modLane id f s).mau = s.mau := by
  simp [modLane]
@[simp] theorem modLane_ft (id : Nat) (f : Lane → Lane) : (modLane id f s).ft = s.ft := by
  simp [modLane]
@[simp] theorem modQueue_outer (q : Nat) (f : Queue → Queue) : (modQueue q f s).outer = s.outer := by
  simp [modQueue]
@[simp] theorem modQueue_lgp (q : Nat) (f : Queue → Queue) : (modQueue q f s).lgp = s.lgp := by
  simp [modQueue]
@[simp] theorem modQueue_stu (q : Nat) (f : Queue → Queue) : (modQueue q f s).stu = s.stu := by
  simp [modQueue]
@[simp] theorem modQueue_hc (q : Nat) (f : Queue → Queue) : (modQueue q f s).hc = s.hc := by
  simp [modQueue]
@[simp] theorem modQueue_bl (q : Nat) (f : Queue → Queue) : (modQueue q f s).bl = s.bl := by
  simp [modQueue]
@[simp] theorem modQueue_bpu (q : Nat) (f : Queue → Queue) : (modQueue q f s).bpu = s.bpu := by
  simp [modQueue]
@[simp] theorem modQueue_dc (q : Nat) (f : Queue → Queue) : (modQueue q f s).dc = s.dc := by
  simp [modQueue]
@[simp] theorem modQueue_tt (q : Nat) (f : Queue → Queue) : (modQueue q f s).tt = s.tt := by
  simp [modQueue]
@[simp] theorem modQueue_mau (q : Nat) (f : Queue → Queue) : (modQueue q f s).mau = s.mau := by
  simp [modQueue]
@[simp] theorem modQueue_ft (q : Nat) (f : Queue → Queue) : (modQueue q f s).ft = s.ft := by
  simp [modQueue]
@[simp] theorem removeLaneFaults_outer : (removeLaneFaults s).outer = s.outer := by
  simp [removeLaneFaults]
@[simp] theorem removeLaneFaults_lgp : (removeLaneFaults s).lgp = s.lgp := by
  simp [removeLaneFaults]
@[simp] theorem removeLaneFaults_stu : (removeLaneFaults s).stu = s.stu := by
  simp [removeLaneFaults]
@[simp] theorem removeLaneFaults_hc : (removeLaneFaults s).hc = s.hc := by
  simp [removeLaneFaults]
@[simp] theorem removeLaneFaults_bl : (removeLaneFaults s).bl = s.bl := by
  simp [removeLaneFaults]
@[simp] theorem removeLaneFaults_bpu : (removeLaneFaults s).bpu = s.bpu := by
  simp [removeLaneFaults]
@[simp] theorem removeLaneFaults_dc : (removeLaneFaults s).dc = s.dc := by
  simp [removeLaneFaults]
@[simp] theorem removeLaneFaults_tt : (removeLaneFaults s).tt = s.tt := by
  simp [removeLaneFaults]
@[simp] theorem removeLaneFaults_gqu : (removeLaneFaults s).gqu = s.gqu := by
  simp [removeLaneFaults]
@[simp] theorem removeLaneFaults_mau : (removeLaneFaults s).mau = s.mau := by
  simp [removeLaneFaults]
@[simp] theorem raiseJams_outer : ∀ l s, (raiseJams l s).outer = s.outer
  | [], _ => rfl
  | k :: ks, s => by rw [raiseJams, raiseJams_outer ks]; split <;> simp
@[simp] theorem raiseJams_lgp : ∀ l s, (raiseJams l s).lgp = s.lgp
  | [], _ => rfl
  | k :: ks, s => by rw [raiseJams, raiseJams_lgp ks]; split <;> simp
@[simp] theorem raiseJams_stu : ∀ l s, (raiseJams l s).stu = s.stu
  | [], _ => rfl
  | k :: ks, s => by rw [raiseJams, raiseJams_stu ks]; split <;> simp
@[simp] theorem raiseJams_dc : ∀ l s, (raiseJams l s).dc = s.dc
  | [], _ => rfl
  | k :: ks, s => by rw [raiseJams, raiseJams_dc ks]; split <;> simp
@[simp] theorem raiseJams_tt : ∀ l s, (raiseJams l s).tt = s.tt
  | [], _ => rfl
  | k :: ks, s => by rw [raiseJams, raiseJams_tt ks]; split <;> simp
@[simp] theorem raiseJams_mau : ∀ l s, (raiseJams l s).mau = s.mau
  | [], _ => rfl
  | k :: ks, s => by rw [raiseJams, raiseJams_mau ks]; split <;> simp
@[simp] theorem jamLane_outer (id : Nat) : (jamLane id s).outer = s.outer := by
  simp only [jamLane]; (repeat' split) <;> simp [*]
@[simp] theorem jamLane_lgp (id : Nat) : (jamLane id s).lgp = s.lgp := by
  simp only [jamLane]; (repeat' split) <;> simp [*]
@[simp] theorem jamLane_stu (id : Nat) : (jamLane id s).stu = s.stu := by
  simp only [jamLane]; (repeat' split) <;> simp [*]
@[simp] theorem jamLane_dc (id : Nat) : (jamLane id s).dc = s.dc := by
  simp only [jamLane]; (repeat' split) <;> simp [*]
@[simp] theorem jamLane_tt (id : Nat) : (jamLane id s).tt = s.tt := by
  simp only [jamLane]; (repeat' split) <;> simp [*]
@[simp] theorem jamLane_mau (id : Nat) : (jamLane id s).mau = s.mau := by
  simp only [jamLane]; (repeat' split) <;> simp [*]
@[simp] theorem unjamLane_outer (id : Nat) : (unjamLane id s).outer = s.outer := by
  simp [unjamLane]
@[simp] theorem unjamLane_lgp (id : Nat) : (unjamLane id s).lgp = s.lgp := by
  simp [unjamLane]
@[simp] theorem unjamLane_stu (id : Nat) : (unjamLane id s).stu = s.stu := by
  simp [unjamLane]
@[simp] theorem unjamLane_hc (id : Nat) : (unjamLane id s).hc = s.hc := by
  simp [unjamLane]
@[simp] theorem unjamLane_bl (id : Nat) : (unjamLane id s).bl = s.bl := by
  simp [unjamLane]
@[simp] theorem unjamLane_bpu (id : Nat) : (unjamLane id s).bpu = s.bpu := by
  simp [unjamLane]
@[simp] theorem unjamLane_dc (id : Nat) : (unjamLane id s).dc = s.dc := by
  simp [unjamLane]
@[simp] theorem unjamLane_tt (id : Nat) : (unjamLane id s).tt = s.tt := by
  simp [unjamLane]
@[simp] theorem unjamLane_mau (id : Nat) : (unjamLane id s).mau = s.mau := by
  simp [unjamLane]
@[simp] theorem unjamLane_ft (id : Nat) : (unjamLane id s).ft = s.ft := by
  simp [unjamLane]
@[simp] theorem presentAt_outer (l : Lane) (d : Dir) (q serial : Nat) : (presentAt l d q serial s).outer = s.outer := by
  simp only [presentAt]; (repeat' split) <;> simp [*]
@[simp] theorem presentAt_lgp (l : Lane) (d : Dir) (q serial : Nat) : (presentAt l d q serial s).lgp = s.lgp := by
  simp only [presentAt]; (repeat' split) <;> simp [*]
@[simp] theorem presentAt_stu (l : Lane) (d : Dir) (q serial : Nat) : (presentAt l d q serial s).stu = s.stu := by
  simp only [presentAt]; (repeat' split) <;> simp [*]
@[simp] theorem presentAt_hc (l : Lane) (d : Dir) (q serial : Nat) : (presentAt l d q serial s).hc = s.hc := by
  simp only [presentAt]; (repeat' split) <;> simp [*]
@[simp] theorem presentAt_bl (l : Lane) (d : Dir) (q serial : Nat) : (presentAt l d q serial s).bl = s.bl := by
  simp only [presentAt]; (repeat' split) <;> simp [*]
@[simp] theorem presentAt_bpu (l : Lane) (d : Dir) (q serial : Nat) : (presentAt l d q serial s).bpu = s.bpu := by
  simp only [presentAt]; (repeat' split) <;> simp [*]
@[simp] theorem presentAt_dc (l : Lane) (d : Dir) (q serial : Nat) : (presentAt l d q serial s).dc = s.dc := by
  simp only [presentAt]; (repeat' split) <;> simp [*]
@[simp] theorem presentAt_mau (l : Lane) (d : Dir) (q serial : Nat) : (presentAt l d q serial s).mau = s.mau := by
  simp only [presentAt]; (repeat' split) <;> simp [*]
@[simp] theorem presentAt_ft (l : Lane) (d : Dir) (q serial : Nat) : (presentAt l d q serial s).ft = s.ft := by
  simp only [presentAt]; (repeat' split) <;> simp [*]
@[simp] theorem present_outer (id serial : Nat) : (present id serial s).outer = s.outer := by
  simp only [present]; (repeat' split) <;> simp [*]
@[simp] theorem present_lgp (id serial : Nat) : (present id serial s).lgp = s.lgp := by
  simp only [present]; (repeat' split) <;> simp [*]
@[simp] theorem present_stu (id serial : Nat) : (present id serial s).stu = s.stu := by
  simp only [present]; (repeat' split) <;> simp [*]
@[simp] theorem present_hc (id serial : Nat) : (present id serial s).hc = s.hc := by
  simp only [present]; (repeat' split) <;> simp [*]
@[simp] theorem present_bl (id serial : Nat) : (present id serial s).bl = s.bl := by
  simp only [present]; (repeat' split) <;> simp [*]
@[simp] theorem present_bpu (id serial : Nat) : (present id serial s).bpu = s.bpu := by
  simp only [present]; (repeat' split) <;> simp [*]
@[simp] theorem present_dc (id serial : Nat) : (present id serial s).dc = s.dc := by
  simp only [present]; (repeat' split) <;> simp [*]
@[simp] theorem present_mau (id serial : Nat) : (present id serial s).mau = s.mau := by
  simp only [present]; (repeat' split) <;> simp [*]
@[simp] theorem present_ft (id serial : Nat) : (present id serial s).ft = s.ft := by
  simp only [present]; (repeat' split) <;> simp [*]
@[simp] theorem modLaneQueue_outer (l : Lane) (f : Queue → Queue) : (modLaneQueue l f s).outer = s.outer := by
  simp only [modLaneQueue]; (repeat' split) <;> simp [*]
@[simp] theorem modLaneQueue_lgp (l : Lane) (f : Queue → Queue) : (modLaneQueue l f s).lgp = s.lgp := by
  simp only [modLaneQueue]; (repeat' split) <;> simp [*]
@[simp] theorem modLaneQueue_stu (l : Lane) (f : Queue → Queue) : (modLaneQueue l f s).stu = s.stu := by
  simp only [modLaneQueue]; (repeat' split) <;> simp [*]
@[simp] theorem modLaneQueue_hc (l : Lane) (f : Queue → Queue) : (modLaneQueue l f s).hc = s.hc := by
  simp only [modLaneQueue]; (repeat' split) <;> simp [*]
@[simp] theorem modLaneQueue_bl (l : Lane) (f : Queue → Queue) : (modLaneQueue l f s).bl = s.bl := by
  simp only [modLaneQueue]; (repeat' split) <;> simp [*]
@[simp] theorem modLaneQueue_bpu (l : Lane) (f : Queue → Queue) : (modLaneQueue l f s).bpu = s.bpu := by
  simp only [modLaneQueue]; (repeat' split) <;> simp [*]
@[simp] theorem modLaneQueue_dc (l : Lane) (f : Queue → Queue) : (modLaneQueue l f s).dc = s.dc := by
  simp only [modLaneQueue]; (repeat' split) <;> simp [*]
@[simp] theorem modLaneQueue_tt (l : Lane) (f : Queue → Queue) : (modLaneQueue l f s).tt = s.tt := by
  simp only [modLaneQueue]; (repeat' split) <;> simp [*]
@[simp] theorem modLaneQueue_mau (l : Lane) (f : Queue → Queue) : (modLaneQueue l f s).mau = s.mau := by
  simp only [modLaneQueue]; (repeat' split) <;> simp [*]
@[simp] theorem modLaneQueue_ft (l : Lane) (f : Queue → Queue) : (modLaneQueue l f s).ft = s.ft := by
  simp only [modLaneQueue]; (repeat' split) <;> simp [*]
@[simp] theorem modLoad_outer (c : Car) (f : Option Nat → Option Nat) : (modLoad c f s).outer = s.outer := by
  simp [modLoad]
@[simp] theorem modLoad_lgp (c : Car) (f : Option Nat → Option Nat) : (modLoad c f s).lgp = s.lgp := by
  simp [modLoad]
@[simp] theorem modLoad_stu (c : Car) (f : Option Nat → Option Nat) : (modLoad c f s).stu = s.stu := by
  simp [modLoad]
@[simp] theorem modLoad_hc (c : Car) (f : Option Nat → Option Nat) : (modLoad c f s).hc = s.hc := by
  simp [modLoad]
@[simp] theorem modLoad_bl (c : Car) (f : Option Nat → Option Nat) : (modLoad c f s).bl = s.bl := by
  simp [modLoad]
@[simp] theorem modLoad_bpu (c : Car) (f : Option Nat → Option Nat) : (modLoad c f s).bpu = s.bpu := by
  simp [modLoad]
@[simp] theorem modLoad_dc (c : Car) (f : Option Nat → Option Nat) : (modLoad c f s).dc = s.dc := by
  simp [modLoad]
@[simp] theorem modLoad_tt (c : Car) (f : Option Nat → Option Nat) : (modLoad c f s).tt = s.tt := by
  simp [modLoad]
@[simp] theorem modLoad_mau (c : Car) (f : Option Nat → Option Nat) : (modLoad c f s).mau = s.mau := by
  simp [modLoad]
@[simp] theorem modLoad_ft (c : Car) (f : Option Nat → Option Nat) : (modLoad c f s).ft = s.ft := by
  simp [modLoad]
@[simp] theorem passLane_outer (id : Nat) : (passLane id s).outer = s.outer := by
  simp only [passLane]; (repeat' split) <;> simp [*]
@[simp] theorem passLane_lgp (id : Nat) : (passLane id s).lgp = s.lgp := by
  simp only [passLane]; (repeat' split) <;> simp [*]
@[simp] theorem passLane_stu (id : Nat) : (passLane id s).stu = s.stu := by
  simp only [passLane]; (repeat' split) <;> simp [*]
@[simp] theorem passLane_hc (id : Nat) : (passLane id s).hc = s.hc := by
  simp only [passLane]; (repeat' split) <;> simp [*]
@[simp] theorem passLane_bl (id : Nat) : (passLane id s).bl = s.bl := by
  simp only [passLane]; (repeat' split) <;> simp [*]
@[simp] theorem passLane_bpu (id : Nat) : (passLane id s).bpu = s.bpu := by
  simp only [passLane]; (repeat' split) <;> simp [*]
@[simp] theorem passLane_dc (id : Nat) : (passLane id s).dc = s.dc := by
  simp only [passLane]; (repeat' split) <;> simp [*]
@[simp] theorem passLane_tt (id : Nat) : (passLane id s).tt = s.tt := by
  simp only [passLane]; (repeat' split) <;> simp [*]
@[simp] theorem passLane_mau (id : Nat) : (passLane id s).mau = s.mau := by
  simp only [passLane]; (repeat' split) <;> simp [*]
@[simp] theorem passLane_ft (id : Nat) : (passLane id s).ft = s.ft := by
  simp only [passLane]; (repeat' split) <;> simp [*]
@[simp] theorem timeoutLane_outer (id : Nat) : (timeoutLane id s).outer = s.outer := by
  simp only [timeoutLane]; (repeat' split) <;> simp [*]
@[simp] theorem timeoutLane_lgp (id : Nat) : (timeoutLane id s).lgp = s.lgp := by
  simp only [timeoutLane]; (repeat' split) <;> simp [*]
@[simp] theorem timeoutLane_stu (id : Nat) : (timeoutLane id s).stu = s.stu := by
  simp only [timeoutLane]; (repeat' split) <;> simp [*]
@[simp] theorem timeoutLane_hc (id : Nat) : (timeoutLane id s).hc = s.hc := by
  simp only [timeoutLane]; (repeat' split) <;> simp [*]
@[simp] theorem timeoutLane_bl (id : Nat) : (timeoutLane id s).bl = s.bl := by
  simp only [timeoutLane]; (repeat' split) <;> simp [*]
@[simp] theorem timeoutLane_bpu (id : Nat) : (timeoutLane id s).bpu = s.bpu := by
  simp only [timeoutLane]; (repeat' split) <;> simp [*]
@[simp] theorem timeoutLane_dc (id : Nat) : (timeoutLane id s).dc = s.dc := by
  simp only [timeoutLane]; (repeat' split) <;> simp [*]
@[simp] theorem timeoutLane_mau (id : Nat) : (timeoutLane id s).mau = s.mau := by
  simp only [timeoutLane]; (repeat' split) <;> simp [*]
@[simp] theorem timeoutLane_ft (id : Nat) : (timeoutLane id s).ft = s.ft := by
  simp only [timeoutLane]; (repeat' split) <;> simp [*]
@[simp] theorem boardingClosed_outer (c : Car) (k : Nat) : (boardingClosed c k s).outer = s.outer := by
  simp only [boardingClosed]; (repeat' split) <;> simp [*]
@[simp] theorem boardingClosed_lgp (c : Car) (k : Nat) : (boardingClosed c k s).lgp = s.lgp := by
  simp only [boardingClosed]; (repeat' split) <;> simp [*]
@[simp] theorem boardingClosed_stu (c : Car) (k : Nat) : (boardingClosed c k s).stu = s.stu := by
  simp only [boardingClosed]; (repeat' split) <;> simp [*]
@[simp] theorem boardingClosed_hc (c : Car) (k : Nat) : (boardingClosed c k s).hc = s.hc := by
  simp only [boardingClosed]; (repeat' split) <;> simp [*]
@[simp] theorem boardingClosed_bl (c : Car) (k : Nat) : (boardingClosed c k s).bl = s.bl := by
  simp only [boardingClosed]; (repeat' split) <;> simp [*]
@[simp] theorem boardingClosed_bpu (c : Car) (k : Nat) : (boardingClosed c k s).bpu = s.bpu := by
  simp only [boardingClosed]; (repeat' split) <;> simp [*]
@[simp] theorem boardingClosed_dc (c : Car) (k : Nat) : (boardingClosed c k s).dc = s.dc := by
  simp only [boardingClosed]; (repeat' split) <;> simp [*]
@[simp] theorem boardingClosed_tt (c : Car) (k : Nat) : (boardingClosed c k s).tt = s.tt := by
  simp only [boardingClosed]; (repeat' split) <;> simp [*]
@[simp] theorem boardingClosed_mau (c : Car) (k : Nat) : (boardingClosed c k s).mau = s.mau := by
  simp only [boardingClosed]; (repeat' split) <;> simp [*]
@[simp] theorem boardingClosed_ft (c : Car) (k : Nat) : (boardingClosed c k s).ft = s.ft := by
  simp only [boardingClosed]; (repeat' split) <;> simp [*]
@[simp] theorem commitBatch_outer (c : Car) : (commitBatch c s).outer = s.outer := by
  simp only [commitBatch]; (repeat' split) <;> simp [*]
@[simp] theorem commitBatch_lgp (c : Car) : (commitBatch c s).lgp = s.lgp := by
  simp only [commitBatch]; (repeat' split) <;> simp [*]
@[simp] theorem commitBatch_stu (c : Car) : (commitBatch c s).stu = s.stu := by
  simp only [commitBatch]; (repeat' split) <;> simp [*]
@[simp] theorem commitBatch_hc (c : Car) : (commitBatch c s).hc = s.hc := by
  simp only [commitBatch]; (repeat' split) <;> simp [*]
@[simp] theorem commitBatch_bl (c : Car) : (commitBatch c s).bl = s.bl := by
  simp only [commitBatch]; (repeat' split) <;> simp [*]
@[simp] theorem commitBatch_bpu (c : Car) : (commitBatch c s).bpu = s.bpu := by
  simp only [commitBatch]; (repeat' split) <;> simp [*]
@[simp] theorem commitBatch_dc (c : Car) : (commitBatch c s).dc = s.dc := by
  simp only [commitBatch]; (repeat' split) <;> simp [*]
@[simp] theorem commitBatch_tt (c : Car) : (commitBatch c s).tt = s.tt := by
  simp only [commitBatch]; (repeat' split) <;> simp [*]
@[simp] theorem commitBatch_mau (c : Car) : (commitBatch c s).mau = s.mau := by
  simp only [commitBatch]; (repeat' split) <;> simp [*]
@[simp] theorem commitBatch_ft (c : Car) : (commitBatch c s).ft = s.ft := by
  simp only [commitBatch]; (repeat' split) <;> simp [*]
@[simp] theorem judgeLoads_outer : (judgeLoads s).outer = s.outer := by
  simp [judgeLoads]
@[simp] theorem judgeLoads_lgp : (judgeLoads s).lgp = s.lgp := by
  simp [judgeLoads]
@[simp] theorem judgeLoads_stu : (judgeLoads s).stu = s.stu := by
  simp [judgeLoads]
@[simp] theorem judgeLoads_hc : (judgeLoads s).hc = s.hc := by
  simp [judgeLoads]
@[simp] theorem judgeLoads_bl : (judgeLoads s).bl = s.bl := by
  simp [judgeLoads]
@[simp] theorem judgeLoads_bpu : (judgeLoads s).bpu = s.bpu := by
  simp [judgeLoads]
@[simp] theorem judgeLoads_dc : (judgeLoads s).dc = s.dc := by
  simp [judgeLoads]
@[simp] theorem judgeLoads_tt : (judgeLoads s).tt = s.tt := by
  simp [judgeLoads]
@[simp] theorem judgeLoads_mau : (judgeLoads s).mau = s.mau := by
  simp [judgeLoads]
@[simp] theorem judgeLoads_ft : (judgeLoads s).ft = s.ft := by
  simp [judgeLoads]
@[simp] theorem settleExpires_outer : (settleExpires s).outer = s.outer := by
  simp only [settleExpires]; (repeat' split) <;> simp [*]
@[simp] theorem settleExpires_lgp : (settleExpires s).lgp = s.lgp := by
  simp only [settleExpires]; (repeat' split) <;> simp [*]
@[simp] theorem settleExpires_stu : (settleExpires s).stu = s.stu := by
  simp only [settleExpires]; (repeat' split) <;> simp [*]
@[simp] theorem settleExpires_dc : (settleExpires s).dc = s.dc := by
  simp only [settleExpires]; (repeat' split) <;> simp [*]
@[simp] theorem settleExpires_tt : (settleExpires s).tt = s.tt := by
  simp only [settleExpires]; (repeat' split) <;> simp [*]
@[simp] theorem settleExpires_mau : (settleExpires s).mau = s.mau := by
  simp only [settleExpires]; (repeat' split) <;> simp [*]
@[simp] theorem restartGates_outer : (restartGates s).outer = s.outer := by
  simp [restartGates]
@[simp] theorem restartGates_lgp : (restartGates s).lgp = s.lgp := by
  simp [restartGates]
@[simp] theorem restartGates_stu : (restartGates s).stu = s.stu := by
  simp [restartGates]
@[simp] theorem restartGates_dc : (restartGates s).dc = s.dc := by
  simp [restartGates]
@[simp] theorem restartGates_tt : (restartGates s).tt = s.tt := by
  simp [restartGates]
@[simp] theorem restartGates_mau : (restartGates s).mau = s.mau := by
  simp [restartGates]
@[simp] theorem setWatch_outer (c : Car) (w : Option Watch) : (setWatch c w s).outer = s.outer := by
  simp [setWatch]
@[simp] theorem setWatch_stu (c : Car) (w : Option Watch) : (setWatch c w s).stu = s.stu := by
  simp [setWatch]
@[simp] theorem setWatch_hc (c : Car) (w : Option Watch) : (setWatch c w s).hc = s.hc := by
  simp [setWatch]
@[simp] theorem setWatch_bl (c : Car) (w : Option Watch) : (setWatch c w s).bl = s.bl := by
  simp [setWatch]
@[simp] theorem setWatch_bpu (c : Car) (w : Option Watch) : (setWatch c w s).bpu = s.bpu := by
  simp [setWatch]
@[simp] theorem setWatch_dc (c : Car) (w : Option Watch) : (setWatch c w s).dc = s.dc := by
  simp [setWatch]
@[simp] theorem setWatch_tt (c : Car) (w : Option Watch) : (setWatch c w s).tt = s.tt := by
  simp [setWatch]
@[simp] theorem setWatch_gqu (c : Car) (w : Option Watch) : (setWatch c w s).gqu = s.gqu := by
  simp [setWatch]
@[simp] theorem setWatch_mau (c : Car) (w : Option Watch) : (setWatch c w s).mau = s.mau := by
  simp [setWatch]
@[simp] theorem setWatch_ft (c : Car) (w : Option Watch) : (setWatch c w s).ft = s.ft := by
  simp [setWatch]
@[simp] theorem freshWatch_outer (c : Car) : (freshWatch c s).outer = s.outer := by
  simp [freshWatch]
@[simp] theorem freshWatch_stu (c : Car) : (freshWatch c s).stu = s.stu := by
  simp [freshWatch]
@[simp] theorem freshWatch_hc (c : Car) : (freshWatch c s).hc = s.hc := by
  simp [freshWatch]
@[simp] theorem freshWatch_bl (c : Car) : (freshWatch c s).bl = s.bl := by
  simp [freshWatch]
@[simp] theorem freshWatch_bpu (c : Car) : (freshWatch c s).bpu = s.bpu := by
  simp [freshWatch]
@[simp] theorem freshWatch_dc (c : Car) : (freshWatch c s).dc = s.dc := by
  simp [freshWatch]
@[simp] theorem freshWatch_tt (c : Car) : (freshWatch c s).tt = s.tt := by
  simp [freshWatch]
@[simp] theorem freshWatch_gqu (c : Car) : (freshWatch c s).gqu = s.gqu := by
  simp [freshWatch]
@[simp] theorem freshWatch_mau (c : Car) : (freshWatch c s).mau = s.mau := by
  simp [freshWatch]
@[simp] theorem freshWatch_ft (c : Car) : (freshWatch c s).ft = s.ft := by
  simp [freshWatch]
@[simp] theorem freshWatches_outer : (freshWatches s).outer = s.outer := by
  simp [freshWatches]
@[simp] theorem freshWatches_stu : (freshWatches s).stu = s.stu := by
  simp [freshWatches]
@[simp] theorem freshWatches_hc : (freshWatches s).hc = s.hc := by
  simp [freshWatches]
@[simp] theorem freshWatches_bl : (freshWatches s).bl = s.bl := by
  simp [freshWatches]
@[simp] theorem freshWatches_bpu : (freshWatches s).bpu = s.bpu := by
  simp [freshWatches]
@[simp] theorem freshWatches_dc : (freshWatches s).dc = s.dc := by
  simp [freshWatches]
@[simp] theorem freshWatches_tt : (freshWatches s).tt = s.tt := by
  simp [freshWatches]
@[simp] theorem freshWatches_gqu : (freshWatches s).gqu = s.gqu := by
  simp [freshWatches]
@[simp] theorem freshWatches_mau : (freshWatches s).mau = s.mau := by
  simp [freshWatches]
@[simp] theorem freshWatches_ft : (freshWatches s).ft = s.ft := by
  simp [freshWatches]
@[simp] theorem leaveWindow_outer (c : Car) : (leaveWindow c s).outer = s.outer := by
  simp only [leaveWindow]; (repeat' split) <;> simp [*]
@[simp] theorem leaveWindow_stu (c : Car) : (leaveWindow c s).stu = s.stu := by
  simp only [leaveWindow]; (repeat' split) <;> simp [*]
@[simp] theorem leaveWindow_dc (c : Car) : (leaveWindow c s).dc = s.dc := by
  simp only [leaveWindow]; (repeat' split) <;> simp [*]
@[simp] theorem leaveWindow_tt (c : Car) : (leaveWindow c s).tt = s.tt := by
  simp only [leaveWindow]; (repeat' split) <;> simp [*]
@[simp] theorem leaveWindow_mau (c : Car) : (leaveWindow c s).mau = s.mau := by
  simp only [leaveWindow]; (repeat' split) <;> simp [*]
@[simp] theorem enterWindow_outer (c : Car) (xOld : Int) : (enterWindow c xOld s).outer = s.outer := by
  simp only [enterWindow]; (repeat' split) <;> simp [*]
@[simp] theorem enterWindow_stu (c : Car) (xOld : Int) : (enterWindow c xOld s).stu = s.stu := by
  simp only [enterWindow]; (repeat' split) <;> simp [*]
@[simp] theorem enterWindow_hc (c : Car) (xOld : Int) : (enterWindow c xOld s).hc = s.hc := by
  simp only [enterWindow]; (repeat' split) <;> simp [*]
@[simp] theorem enterWindow_bl (c : Car) (xOld : Int) : (enterWindow c xOld s).bl = s.bl := by
  simp only [enterWindow]; (repeat' split) <;> simp [*]
@[simp] theorem enterWindow_bpu (c : Car) (xOld : Int) : (enterWindow c xOld s).bpu = s.bpu := by
  simp only [enterWindow]; (repeat' split) <;> simp [*]
@[simp] theorem enterWindow_dc (c : Car) (xOld : Int) : (enterWindow c xOld s).dc = s.dc := by
  simp only [enterWindow]; (repeat' split) <;> simp [*]
@[simp] theorem enterWindow_tt (c : Car) (xOld : Int) : (enterWindow c xOld s).tt = s.tt := by
  simp only [enterWindow]; (repeat' split) <;> simp [*]
@[simp] theorem enterWindow_gqu (c : Car) (xOld : Int) : (enterWindow c xOld s).gqu = s.gqu := by
  simp only [enterWindow]; (repeat' split) <;> simp [*]
@[simp] theorem enterWindow_mau (c : Car) (xOld : Int) : (enterWindow c xOld s).mau = s.mau := by
  simp only [enterWindow]; (repeat' split) <;> simp [*]
@[simp] theorem enterWindow_ft (c : Car) (xOld : Int) : (enterWindow c xOld s).ft = s.ft := by
  simp only [enterWindow]; (repeat' split) <;> simp [*]
@[simp] theorem followWatch_outer (c : Car) (xOld : Int) : (followWatch c xOld s).outer = s.outer := by
  simp [followWatch]
@[simp] theorem followWatch_stu (c : Car) (xOld : Int) : (followWatch c xOld s).stu = s.stu := by
  simp [followWatch]
@[simp] theorem followWatch_dc (c : Car) (xOld : Int) : (followWatch c xOld s).dc = s.dc := by
  simp [followWatch]
@[simp] theorem followWatch_tt (c : Car) (xOld : Int) : (followWatch c xOld s).tt = s.tt := by
  simp [followWatch]
@[simp] theorem followWatch_mau (c : Car) (xOld : Int) : (followWatch c xOld s).mau = s.mau := by
  simp [followWatch]
@[simp] theorem setOvertravel_outer (c : Car) (o : Option Side) : (setOvertravel c o s).outer = s.outer := by
  simp [setOvertravel]
@[simp] theorem setOvertravel_stu (c : Car) (o : Option Side) : (setOvertravel c o s).stu = s.stu := by
  simp [setOvertravel]
@[simp] theorem setOvertravel_hc (c : Car) (o : Option Side) : (setOvertravel c o s).hc = s.hc := by
  simp [setOvertravel]
@[simp] theorem setOvertravel_bl (c : Car) (o : Option Side) : (setOvertravel c o s).bl = s.bl := by
  simp [setOvertravel]
@[simp] theorem setOvertravel_bpu (c : Car) (o : Option Side) : (setOvertravel c o s).bpu = s.bpu := by
  simp [setOvertravel]
@[simp] theorem setOvertravel_dc (c : Car) (o : Option Side) : (setOvertravel c o s).dc = s.dc := by
  simp [setOvertravel]
@[simp] theorem setOvertravel_tt (c : Car) (o : Option Side) : (setOvertravel c o s).tt = s.tt := by
  simp [setOvertravel]
@[simp] theorem setOvertravel_gqu (c : Car) (o : Option Side) : (setOvertravel c o s).gqu = s.gqu := by
  simp [setOvertravel]
@[simp] theorem setOvertravel_mau (c : Car) (o : Option Side) : (setOvertravel c o s).mau = s.mau := by
  simp [setOvertravel]
@[simp] theorem setOvertravel_ft (c : Car) (o : Option Side) : (setOvertravel c o s).ft = s.ft := by
  simp [setOvertravel]
@[simp] theorem judgeOvertravel_outer (c : Car) : (judgeOvertravel c s).outer = s.outer := by
  simp only [judgeOvertravel]; (repeat' split) <;> simp [*]
@[simp] theorem judgeOvertravel_stu (c : Car) : (judgeOvertravel c s).stu = s.stu := by
  simp only [judgeOvertravel]; (repeat' split) <;> simp [*]
@[simp] theorem judgeOvertravel_dc (c : Car) : (judgeOvertravel c s).dc = s.dc := by
  simp only [judgeOvertravel]; (repeat' split) <;> simp [*]
@[simp] theorem judgeOvertravel_tt (c : Car) : (judgeOvertravel c s).tt = s.tt := by
  simp only [judgeOvertravel]; (repeat' split) <;> simp [*]
@[simp] theorem judgeOvertravel_mau (c : Car) : (judgeOvertravel c s).mau = s.mau := by
  simp only [judgeOvertravel]; (repeat' split) <;> simp [*]
@[simp] theorem judgeOvertravels_outer : (judgeOvertravels s).outer = s.outer := by
  simp [judgeOvertravels]
@[simp] theorem judgeOvertravels_stu : (judgeOvertravels s).stu = s.stu := by
  simp [judgeOvertravels]
@[simp] theorem judgeOvertravels_dc : (judgeOvertravels s).dc = s.dc := by
  simp [judgeOvertravels]
@[simp] theorem judgeOvertravels_tt : (judgeOvertravels s).tt = s.tt := by
  simp [judgeOvertravels]
@[simp] theorem judgeOvertravels_mau : (judgeOvertravels s).mau = s.mau := by
  simp [judgeOvertravels]
@[simp] theorem stopOvertravel_outer : (stopOvertravel s).outer = s.outer := by
  simp [stopOvertravel]
@[simp] theorem stopOvertravel_stu : (stopOvertravel s).stu = s.stu := by
  simp [stopOvertravel]
@[simp] theorem stopOvertravel_hc : (stopOvertravel s).hc = s.hc := by
  simp [stopOvertravel]
@[simp] theorem stopOvertravel_bl : (stopOvertravel s).bl = s.bl := by
  simp [stopOvertravel]
@[simp] theorem stopOvertravel_bpu : (stopOvertravel s).bpu = s.bpu := by
  simp [stopOvertravel]
@[simp] theorem stopOvertravel_dc : (stopOvertravel s).dc = s.dc := by
  simp [stopOvertravel]
@[simp] theorem stopOvertravel_tt : (stopOvertravel s).tt = s.tt := by
  simp [stopOvertravel]
@[simp] theorem stopOvertravel_gqu : (stopOvertravel s).gqu = s.gqu := by
  simp [stopOvertravel]
@[simp] theorem stopOvertravel_mau : (stopOvertravel s).mau = s.mau := by
  simp [stopOvertravel]
@[simp] theorem raiseAll_outer (cs : List Car) : ∀ s,
    (cs.foldl (fun t c => raise ⟨.positionDisagree, c.index⟩ t) s).outer = s.outer := by
  induction cs with
  | nil => intro s; rfl
  | cons c cs ih => intro s; simp only [List.foldl_cons]; rw [ih, raise_outer]
@[simp] theorem raiseAll_lgp (cs : List Car) : ∀ s,
    (cs.foldl (fun t c => raise ⟨.positionDisagree, c.index⟩ t) s).lgp = s.lgp := by
  induction cs with
  | nil => intro s; rfl
  | cons c cs ih => intro s; simp only [List.foldl_cons]; rw [ih, raise_lgp]
@[simp] theorem raiseAll_stu (cs : List Car) : ∀ s,
    (cs.foldl (fun t c => raise ⟨.positionDisagree, c.index⟩ t) s).stu = s.stu := by
  induction cs with
  | nil => intro s; rfl
  | cons c cs ih => intro s; simp only [List.foldl_cons]; rw [ih, raise_stu]
@[simp] theorem raiseAll_dc (cs : List Car) : ∀ s,
    (cs.foldl (fun t c => raise ⟨.positionDisagree, c.index⟩ t) s).dc = s.dc := by
  induction cs with
  | nil => intro s; rfl
  | cons c cs ih => intro s; simp only [List.foldl_cons]; rw [ih, raise_dc]
@[simp] theorem raiseAll_tt (cs : List Car) : ∀ s,
    (cs.foldl (fun t c => raise ⟨.positionDisagree, c.index⟩ t) s).tt = s.tt := by
  induction cs with
  | nil => intro s; rfl
  | cons c cs ih => intro s; simp only [List.foldl_cons]; rw [ih, raise_tt]
@[simp] theorem raiseAll_mau (cs : List Car) : ∀ s,
    (cs.foldl (fun t c => raise ⟨.positionDisagree, c.index⟩ t) s).mau = s.mau := by
  induction cs with
  | nil => intro s; rfl
  | cons c cs ih => intro s; simp only [List.foldl_cons]; rw [ih, raise_mau]
@[simp] theorem doubt_outer (cars : List Car) : (doubt cars s).outer = s.outer := by
  simp [doubt]
@[simp] theorem doubt_stu (cars : List Car) : (doubt cars s).stu = s.stu := by
  simp [doubt]
@[simp] theorem doubt_dc (cars : List Car) : (doubt cars s).dc = s.dc := by
  simp [doubt]
@[simp] theorem doubt_tt (cars : List Car) : (doubt cars s).tt = s.tt := by
  simp [doubt]
@[simp] theorem doubt_mau (cars : List Car) : (doubt cars s).mau = s.mau := by
  simp [doubt]
@[simp] theorem referenceAt_outer (k : Nat) : (referenceAt k s).outer = s.outer := by
  simp only [referenceAt]; split <;> simp
@[simp] theorem referenceAt_stu (k : Nat) : (referenceAt k s).stu = s.stu := by
  simp only [referenceAt]; split <;> simp
@[simp] theorem referenceAt_dc (k : Nat) : (referenceAt k s).dc = s.dc := by
  simp only [referenceAt]; split <;> simp
@[simp] theorem referenceAt_tt (k : Nat) : (referenceAt k s).tt = s.tt := by
  simp only [referenceAt]; split <;> simp
@[simp] theorem referenceAt_mau (k : Nat) : (referenceAt k s).mau = s.mau := by
  simp only [referenceAt]; split <;> simp
@[simp] theorem evaluateReferencing_outer : (evaluateReferencing s).outer = s.outer := by
  simp only [evaluateReferencing]; (repeat' split) <;> simp [*]
@[simp] theorem evaluateReferencing_stu : (evaluateReferencing s).stu = s.stu := by
  simp only [evaluateReferencing]; (repeat' split) <;> simp [*]
@[simp] theorem evaluateReferencing_dc : (evaluateReferencing s).dc = s.dc := by
  simp only [evaluateReferencing]; (repeat' split) <;> simp [*]
@[simp] theorem evaluateReferencing_tt : (evaluateReferencing s).tt = s.tt := by
  simp only [evaluateReferencing]; (repeat' split) <;> simp [*]
@[simp] theorem evaluateReferencing_mau : (evaluateReferencing s).mau = s.mau := by
  simp only [evaluateReferencing]; (repeat' split) <;> simp [*]
@[simp] theorem formPresences_outer : (formPresences s).outer = s.outer := by
  simp [formPresences]
@[simp] theorem formPresences_stu : (formPresences s).stu = s.stu := by
  simp [formPresences]
@[simp] theorem formPresences_hc : (formPresences s).hc = s.hc := by
  simp [formPresences]
@[simp] theorem formPresences_bl : (formPresences s).bl = s.bl := by
  simp [formPresences]
@[simp] theorem formPresences_bpu : (formPresences s).bpu = s.bpu := by
  simp [formPresences]
@[simp] theorem formPresences_dc : (formPresences s).dc = s.dc := by
  simp [formPresences]
@[simp] theorem formPresences_tt : (formPresences s).tt = s.tt := by
  simp [formPresences]
@[simp] theorem formPresences_gqu : (formPresences s).gqu = s.gqu := by
  simp [formPresences]
@[simp] theorem formPresences_mau : (formPresences s).mau = s.mau := by
  simp [formPresences]
@[simp] theorem formPresences_ft : (formPresences s).ft = s.ft := by
  simp [formPresences]
@[simp] theorem capture_outer (j : Nat) (m : MarkerRec) (c : Car) : (capture j m c s).outer = s.outer := by
  simp only [capture]; (repeat' split) <;> simp [*]
@[simp] theorem capture_stu (j : Nat) (m : MarkerRec) (c : Car) : (capture j m c s).stu = s.stu := by
  simp only [capture]; (repeat' split) <;> simp [*]
@[simp] theorem capture_dc (j : Nat) (m : MarkerRec) (c : Car) : (capture j m c s).dc = s.dc := by
  simp only [capture]; (repeat' split) <;> simp [*]
@[simp] theorem capture_tt (j : Nat) (m : MarkerRec) (c : Car) : (capture j m c s).tt = s.tt := by
  simp only [capture]; (repeat' split) <;> simp [*]
@[simp] theorem capture_mau (j : Nat) (m : MarkerRec) (c : Car) : (capture j m c s).mau = s.mau := by
  simp only [capture]; (repeat' split) <;> simp [*]
@[simp] theorem pulse_outer (j : Nat) : (pulse j s).outer = s.outer := by
  simp only [pulse]; (repeat' split) <;> simp [*]
@[simp] theorem pulse_stu (j : Nat) : (pulse j s).stu = s.stu := by
  simp only [pulse]; (repeat' split) <;> simp [*]
@[simp] theorem pulse_dc (j : Nat) : (pulse j s).dc = s.dc := by
  simp only [pulse]; (repeat' split) <;> simp [*]
@[simp] theorem pulse_tt (j : Nat) : (pulse j s).tt = s.tt := by
  simp only [pulse]; (repeat' split) <;> simp [*]
@[simp] theorem pulse_mau (j : Nat) : (pulse j s).mau = s.mau := by
  simp only [pulse]; (repeat' split) <;> simp [*]
@[simp] theorem countEdge_outer (d : Dir) : (countEdge d s).outer = s.outer := by
  simp only [countEdge]; (repeat' split) <;> simp [*]
@[simp] theorem countEdge_stu (d : Dir) : (countEdge d s).stu = s.stu := by
  simp only [countEdge]; (repeat' split) <;> simp [*]
@[simp] theorem countEdge_hc (d : Dir) : (countEdge d s).hc = s.hc := by
  simp only [countEdge]; (repeat' split) <;> simp [*]
@[simp] theorem countEdge_bl (d : Dir) : (countEdge d s).bl = s.bl := by
  simp only [countEdge]; (repeat' split) <;> simp [*]
@[simp] theorem countEdge_bpu (d : Dir) : (countEdge d s).bpu = s.bpu := by
  simp only [countEdge]; (repeat' split) <;> simp [*]
@[simp] theorem countEdge_dc (d : Dir) : (countEdge d s).dc = s.dc := by
  simp only [countEdge]; (repeat' split) <;> simp [*]
@[simp] theorem countEdge_tt (d : Dir) : (countEdge d s).tt = s.tt := by
  simp only [countEdge]; (repeat' split) <;> simp [*]
@[simp] theorem countEdge_gqu (d : Dir) : (countEdge d s).gqu = s.gqu := by
  simp only [countEdge]; (repeat' split) <;> simp [*]
@[simp] theorem countEdge_mau (d : Dir) : (countEdge d s).mau = s.mau := by
  simp only [countEdge]; (repeat' split) <;> simp [*]
@[simp] theorem countEdge_ft (d : Dir) : (countEdge d s).ft = s.ft := by
  simp only [countEdge]; (repeat' split) <;> simp [*]
@[simp] theorem followCars_outer (xA xB : Int) : (followCars xA xB s).outer = s.outer := by
  simp [followCars]
@[simp] theorem followCars_stu (xA xB : Int) : (followCars xA xB s).stu = s.stu := by
  simp [followCars]
@[simp] theorem followCars_dc (xA xB : Int) : (followCars xA xB s).dc = s.dc := by
  simp [followCars]
@[simp] theorem followCars_tt (xA xB : Int) : (followCars xA xB s).tt = s.tt := by
  simp [followCars]
@[simp] theorem followCars_mau (xA xB : Int) : (followCars xA xB s).mau = s.mau := by
  simp [followCars]
@[simp] theorem restartPosition_outer : (restartPosition s).outer = s.outer := by
  simp [restartPosition]
@[simp] theorem restartPosition_stu : (restartPosition s).stu = s.stu := by
  simp [restartPosition]
@[simp] theorem restartPosition_dc : (restartPosition s).dc = s.dc := by
  simp [restartPosition]
@[simp] theorem restartPosition_tt : (restartPosition s).tt = s.tt := by
  simp [restartPosition]
@[simp] theorem restartPosition_mau : (restartPosition s).mau = s.mau := by
  simp [restartPosition]
@[simp] theorem modSpeed_outer (e : Encoder) (f : SpeedChannel → SpeedChannel) : (modSpeed e f s).outer = s.outer := by
  simp [modSpeed]
@[simp] theorem modSpeed_lgp (e : Encoder) (f : SpeedChannel → SpeedChannel) : (modSpeed e f s).lgp = s.lgp := by
  simp [modSpeed]
@[simp] theorem modSpeed_hc (e : Encoder) (f : SpeedChannel → SpeedChannel) : (modSpeed e f s).hc = s.hc := by
  simp [modSpeed]
@[simp] theorem modSpeed_bl (e : Encoder) (f : SpeedChannel → SpeedChannel) : (modSpeed e f s).bl = s.bl := by
  simp [modSpeed]
@[simp] theorem modSpeed_bpu (e : Encoder) (f : SpeedChannel → SpeedChannel) : (modSpeed e f s).bpu = s.bpu := by
  simp [modSpeed]
@[simp] theorem modSpeed_dc (e : Encoder) (f : SpeedChannel → SpeedChannel) : (modSpeed e f s).dc = s.dc := by
  simp [modSpeed]
@[simp] theorem modSpeed_tt (e : Encoder) (f : SpeedChannel → SpeedChannel) : (modSpeed e f s).tt = s.tt := by
  simp [modSpeed]
@[simp] theorem modSpeed_gqu (e : Encoder) (f : SpeedChannel → SpeedChannel) : (modSpeed e f s).gqu = s.gqu := by
  simp [modSpeed]
@[simp] theorem modSpeed_mau (e : Encoder) (f : SpeedChannel → SpeedChannel) : (modSpeed e f s).mau = s.mau := by
  simp [modSpeed]
@[simp] theorem modSpeed_ft (e : Encoder) (f : SpeedChannel → SpeedChannel) : (modSpeed e f s).ft = s.ft := by
  simp [modSpeed]
@[simp] theorem speedEdge_outer (e : Encoder) (d : Dir) : (speedEdge e d s).outer = s.outer := by
  simp [speedEdge]
@[simp] theorem speedEdge_lgp (e : Encoder) (d : Dir) : (speedEdge e d s).lgp = s.lgp := by
  simp [speedEdge]
@[simp] theorem speedEdge_hc (e : Encoder) (d : Dir) : (speedEdge e d s).hc = s.hc := by
  simp [speedEdge]
@[simp] theorem speedEdge_bl (e : Encoder) (d : Dir) : (speedEdge e d s).bl = s.bl := by
  simp [speedEdge]
@[simp] theorem speedEdge_bpu (e : Encoder) (d : Dir) : (speedEdge e d s).bpu = s.bpu := by
  simp [speedEdge]
@[simp] theorem speedEdge_dc (e : Encoder) (d : Dir) : (speedEdge e d s).dc = s.dc := by
  simp [speedEdge]
@[simp] theorem speedEdge_tt (e : Encoder) (d : Dir) : (speedEdge e d s).tt = s.tt := by
  simp [speedEdge]
@[simp] theorem speedEdge_gqu (e : Encoder) (d : Dir) : (speedEdge e d s).gqu = s.gqu := by
  simp [speedEdge]
@[simp] theorem speedEdge_mau (e : Encoder) (d : Dir) : (speedEdge e d s).mau = s.mau := by
  simp [speedEdge]
@[simp] theorem speedEdge_ft (e : Encoder) (d : Dir) : (speedEdge e d s).ft = s.ft := by
  simp [speedEdge]
@[simp] theorem judgeEncoders_outer : (judgeEncoders s).outer = s.outer := by
  simp only [judgeEncoders]; (repeat' split) <;> simp [*]
@[simp] theorem judgeEncoders_lgp : (judgeEncoders s).lgp = s.lgp := by
  simp only [judgeEncoders]; (repeat' split) <;> simp [*]
@[simp] theorem judgeEncoders_dc : (judgeEncoders s).dc = s.dc := by
  simp only [judgeEncoders]; (repeat' split) <;> simp [*]
@[simp] theorem judgeEncoders_tt : (judgeEncoders s).tt = s.tt := by
  simp only [judgeEncoders]; (repeat' split) <;> simp [*]
@[simp] theorem judgeEncoders_mau : (judgeEncoders s).mau = s.mau := by
  simp only [judgeEncoders]; (repeat' split) <;> simp [*]
@[simp] theorem disagreementExpires_outer : (disagreementExpires s).outer = s.outer := by
  simp only [disagreementExpires]; split <;> simp
@[simp] theorem disagreementExpires_lgp : (disagreementExpires s).lgp = s.lgp := by
  simp only [disagreementExpires]; split <;> simp
@[simp] theorem disagreementExpires_dc : (disagreementExpires s).dc = s.dc := by
  simp only [disagreementExpires]; split <;> simp
@[simp] theorem disagreementExpires_tt : (disagreementExpires s).tt = s.tt := by
  simp only [disagreementExpires]; split <;> simp
@[simp] theorem disagreementExpires_mau : (disagreementExpires s).mau = s.mau := by
  simp only [disagreementExpires]; split <;> simp
@[simp] theorem restartSpeed_outer : (restartSpeed s).outer = s.outer := by
  simp [restartSpeed]
@[simp] theorem restartSpeed_lgp : (restartSpeed s).lgp = s.lgp := by
  simp [restartSpeed]
@[simp] theorem restartSpeed_dc : (restartSpeed s).dc = s.dc := by
  simp [restartSpeed]
@[simp] theorem restartSpeed_tt : (restartSpeed s).tt = s.tt := by
  simp [restartSpeed]
@[simp] theorem restartSpeed_mau : (restartSpeed s).mau = s.mau := by
  simp [restartSpeed]
@[simp] theorem emptyHistories_outer : (emptyHistories s).outer = s.outer := by
  simp [emptyHistories]
@[simp] theorem emptyHistories_lgp : (emptyHistories s).lgp = s.lgp := by
  simp [emptyHistories]
@[simp] theorem emptyHistories_hc : (emptyHistories s).hc = s.hc := by
  simp [emptyHistories]
@[simp] theorem emptyHistories_bl : (emptyHistories s).bl = s.bl := by
  simp [emptyHistories]
@[simp] theorem emptyHistories_bpu : (emptyHistories s).bpu = s.bpu := by
  simp [emptyHistories]
@[simp] theorem emptyHistories_dc : (emptyHistories s).dc = s.dc := by
  simp [emptyHistories]
@[simp] theorem emptyHistories_tt : (emptyHistories s).tt = s.tt := by
  simp [emptyHistories]
@[simp] theorem emptyHistories_gqu : (emptyHistories s).gqu = s.gqu := by
  simp [emptyHistories]
@[simp] theorem emptyHistories_mau : (emptyHistories s).mau = s.mau := by
  simp [emptyHistories]
@[simp] theorem emptyHistories_ft : (emptyHistories s).ft = s.ft := by
  simp [emptyHistories]
@[simp] theorem modTension_outer (c : Chan) (f : TensionChannel → TensionChannel) : (modTension c f s).outer = s.outer := by
  simp [modTension]
@[simp] theorem modTension_lgp (c : Chan) (f : TensionChannel → TensionChannel) : (modTension c f s).lgp = s.lgp := by
  simp [modTension]
@[simp] theorem modTension_hc (c : Chan) (f : TensionChannel → TensionChannel) : (modTension c f s).hc = s.hc := by
  simp [modTension]
@[simp] theorem modTension_bl (c : Chan) (f : TensionChannel → TensionChannel) : (modTension c f s).bl = s.bl := by
  simp [modTension]
@[simp] theorem modTension_bpu (c : Chan) (f : TensionChannel → TensionChannel) : (modTension c f s).bpu = s.bpu := by
  simp [modTension]
@[simp] theorem modTension_dc (c : Chan) (f : TensionChannel → TensionChannel) : (modTension c f s).dc = s.dc := by
  simp [modTension]
@[simp] theorem modTension_tt (c : Chan) (f : TensionChannel → TensionChannel) : (modTension c f s).tt = s.tt := by
  simp [modTension]
@[simp] theorem modTension_gqu (c : Chan) (f : TensionChannel → TensionChannel) : (modTension c f s).gqu = s.gqu := by
  simp [modTension]
@[simp] theorem modTension_mau (c : Chan) (f : TensionChannel → TensionChannel) : (modTension c f s).mau = s.mau := by
  simp [modTension]
@[simp] theorem modTension_ft (c : Chan) (f : TensionChannel → TensionChannel) : (modTension c f s).ft = s.ft := by
  simp [modTension]
@[simp] theorem restartTension_outer : (restartTension s).outer = s.outer := by
  simp [restartTension]
@[simp] theorem restartTension_lgp : (restartTension s).lgp = s.lgp := by
  simp [restartTension]
@[simp] theorem restartTension_hc : (restartTension s).hc = s.hc := by
  simp [restartTension]
@[simp] theorem restartTension_bl : (restartTension s).bl = s.bl := by
  simp [restartTension]
@[simp] theorem restartTension_bpu : (restartTension s).bpu = s.bpu := by
  simp [restartTension]
@[simp] theorem restartTension_dc : (restartTension s).dc = s.dc := by
  simp [restartTension]
@[simp] theorem restartTension_tt : (restartTension s).tt = s.tt := by
  simp [restartTension]
@[simp] theorem restartTension_gqu : (restartTension s).gqu = s.gqu := by
  simp [restartTension]
@[simp] theorem restartTension_mau : (restartTension s).mau = s.mau := by
  simp [restartTension]
@[simp] theorem restartTension_ft : (restartTension s).ft = s.ft := by
  simp [restartTension]
@[simp] theorem clearStandby_outer : (clearStandby s).outer = s.outer := by
  simp [clearStandby]
@[simp] theorem clearStandby_lgp : (clearStandby s).lgp = s.lgp := by
  simp [clearStandby]
@[simp] theorem clearStandby_hc : (clearStandby s).hc = s.hc := by
  simp [clearStandby]
@[simp] theorem clearStandby_bl : (clearStandby s).bl = s.bl := by
  simp [clearStandby]
@[simp] theorem clearStandby_bpu : (clearStandby s).bpu = s.bpu := by
  simp [clearStandby]
@[simp] theorem clearStandby_dc : (clearStandby s).dc = s.dc := by
  simp [clearStandby]
@[simp] theorem clearStandby_tt : (clearStandby s).tt = s.tt := by
  simp [clearStandby]
@[simp] theorem clearStandby_gqu : (clearStandby s).gqu = s.gqu := by
  simp [clearStandby]
@[simp] theorem clearStandby_mau : (clearStandby s).mau = s.mau := by
  simp [clearStandby]
@[simp] theorem clearStandby_ft : (clearStandby s).ft = s.ft := by
  simp [clearStandby]
@[simp] theorem judgeLimits_outer (c : Chan) (avg : Int) : (judgeLimits c avg s).outer = s.outer := by
  simp only [judgeLimits]; (repeat' split) <;> simp [*]
@[simp] theorem judgeLimits_lgp (c : Chan) (avg : Int) : (judgeLimits c avg s).lgp = s.lgp := by
  simp only [judgeLimits]; (repeat' split) <;> simp [*]
@[simp] theorem judgeLimits_dc (c : Chan) (avg : Int) : (judgeLimits c avg s).dc = s.dc := by
  simp only [judgeLimits]; (repeat' split) <;> simp [*]
@[simp] theorem judgeLimits_tt (c : Chan) (avg : Int) : (judgeLimits c avg s).tt = s.tt := by
  simp only [judgeLimits]; (repeat' split) <;> simp [*]
@[simp] theorem judgeLimits_mau (c : Chan) (avg : Int) : (judgeLimits c avg s).mau = s.mau := by
  simp only [judgeLimits]; (repeat' split) <;> simp [*]
@[simp] theorem judgeStandby_outer (c : Chan) (avg : Int) : (judgeStandby c avg s).outer = s.outer := by
  simp only [judgeStandby]; (repeat' split) <;> simp [*]
@[simp] theorem judgeStandby_lgp (c : Chan) (avg : Int) : (judgeStandby c avg s).lgp = s.lgp := by
  simp only [judgeStandby]; (repeat' split) <;> simp [*]
@[simp] theorem judgeStandby_hc (c : Chan) (avg : Int) : (judgeStandby c avg s).hc = s.hc := by
  simp only [judgeStandby]; (repeat' split) <;> simp [*]
@[simp] theorem judgeStandby_bl (c : Chan) (avg : Int) : (judgeStandby c avg s).bl = s.bl := by
  simp only [judgeStandby]; (repeat' split) <;> simp [*]
@[simp] theorem judgeStandby_bpu (c : Chan) (avg : Int) : (judgeStandby c avg s).bpu = s.bpu := by
  simp only [judgeStandby]; (repeat' split) <;> simp [*]
@[simp] theorem judgeStandby_dc (c : Chan) (avg : Int) : (judgeStandby c avg s).dc = s.dc := by
  simp only [judgeStandby]; (repeat' split) <;> simp [*]
@[simp] theorem judgeStandby_tt (c : Chan) (avg : Int) : (judgeStandby c avg s).tt = s.tt := by
  simp only [judgeStandby]; (repeat' split) <;> simp [*]
@[simp] theorem judgeStandby_gqu (c : Chan) (avg : Int) : (judgeStandby c avg s).gqu = s.gqu := by
  simp only [judgeStandby]; (repeat' split) <;> simp [*]
@[simp] theorem judgeStandby_ft (c : Chan) (avg : Int) : (judgeStandby c avg s).ft = s.ft := by
  simp only [judgeStandby]; (repeat' split) <;> simp [*]
@[simp] theorem convert_outer (c : Chan) (raw : Nat) : (convert c raw s).outer = s.outer := by
  simp only [convert]; (repeat' split) <;> simp [*]
@[simp] theorem convert_lgp (c : Chan) (raw : Nat) : (convert c raw s).lgp = s.lgp := by
  simp only [convert]; (repeat' split) <;> simp [*]
@[simp] theorem convert_dc (c : Chan) (raw : Nat) : (convert c raw s).dc = s.dc := by
  simp only [convert]; (repeat' split) <;> simp [*]
@[simp] theorem convert_tt (c : Chan) (raw : Nat) : (convert c raw s).tt = s.tt := by
  simp only [convert]; (repeat' split) <;> simp [*]
@[simp] theorem conversionMissing_outer (c : Chan) : (conversionMissing c s).outer = s.outer := by
  simp [conversionMissing]
@[simp] theorem conversionMissing_lgp (c : Chan) : (conversionMissing c s).lgp = s.lgp := by
  simp [conversionMissing]
@[simp] theorem conversionMissing_dc (c : Chan) : (conversionMissing c s).dc = s.dc := by
  simp [conversionMissing]
@[simp] theorem conversionMissing_tt (c : Chan) : (conversionMissing c s).tt = s.tt := by
  simp [conversionMissing]
@[simp] theorem conversionMissing_mau (c : Chan) : (conversionMissing c s).mau = s.mau := by
  simp [conversionMissing]
@[simp] theorem restartTensionFaults_outer : (restartTensionFaults s).outer = s.outer := by
  simp only [restartTensionFaults]; (repeat' split) <;> simp [*]
@[simp] theorem restartTensionFaults_lgp : (restartTensionFaults s).lgp = s.lgp := by
  simp only [restartTensionFaults]; (repeat' split) <;> simp [*]
@[simp] theorem restartTensionFaults_stu : (restartTensionFaults s).stu = s.stu := by
  simp only [restartTensionFaults]; (repeat' split) <;> simp [*]
@[simp] theorem restartTensionFaults_dc : (restartTensionFaults s).dc = s.dc := by
  simp only [restartTensionFaults]; (repeat' split) <;> simp [*]
@[simp] theorem restartTensionFaults_tt : (restartTensionFaults s).tt = s.tt := by
  simp only [restartTensionFaults]; (repeat' split) <;> simp [*]
@[simp] theorem restartTensionFaults_mau : (restartTensionFaults s).mau = s.mau := by
  simp only [restartTensionFaults]; (repeat' split) <;> simp [*]

end Sys2Proof.Machine
end

