-- ==== Sys2Proof/Laws/Doors.lean ====
section
/-!
SUPPORT. What the operations of the door controller and of the haul controller leave alone.
-/

namespace Sys2Proof.Machine

variable (s : State)

theorem forEach_outer (f : Nat → State → State) (hf : ∀ i t, (f i t).outer = t.outer) :
    ∀ l s, (forEach f l s).outer = s.outer
  | [], _ => rfl
  | i :: is, s => by rw [forEach, forEach_outer f hf is, hf]
theorem forEach_lgp (f : Nat → State → State) (hf : ∀ i t, (f i t).lgp = t.lgp) :
    ∀ l s, (forEach f l s).lgp = s.lgp
  | [], _ => rfl
  | i :: is, s => by rw [forEach, forEach_lgp f hf is, hf]
theorem forEach_stu (f : Nat → State → State) (hf : ∀ i t, (f i t).stu = t.stu) :
    ∀ l s, (forEach f l s).stu = s.stu
  | [], _ => rfl
  | i :: is, s => by rw [forEach, forEach_stu f hf is, hf]
theorem forEach_hc (f : Nat → State → State) (hf : ∀ i t, (f i t).hc = t.hc) :
    ∀ l s, (forEach f l s).hc = s.hc
  | [], _ => rfl
  | i :: is, s => by rw [forEach, forEach_hc f hf is, hf]
theorem forEach_bl (f : Nat → State → State) (hf : ∀ i t, (f i t).bl = t.bl) :
    ∀ l s, (forEach f l s).bl = s.bl
  | [], _ => rfl
  | i :: is, s => by rw [forEach, forEach_bl f hf is, hf]
theorem forEach_bpu (f : Nat → State → State) (hf : ∀ i t, (f i t).bpu = t.bpu) :
    ∀ l s, (forEach f l s).bpu = s.bpu
  | [], _ => rfl
  | i :: is, s => by rw [forEach, forEach_bpu f hf is, hf]
theorem forEach_dc (f : Nat → State → State) (hf : ∀ i t, (f i t).dc = t.dc) :
    ∀ l s, (forEach f l s).dc = s.dc
  | [], _ => rfl
  | i :: is, s => by rw [forEach, forEach_dc f hf is, hf]
theorem forEach_tt (f : Nat → State → State) (hf : ∀ i t, (f i t).tt = t.tt) :
    ∀ l s, (forEach f l s).tt = s.tt
  | [], _ => rfl
  | i :: is, s => by rw [forEach, forEach_tt f hf is, hf]
theorem forEach_gqu (f : Nat → State → State) (hf : ∀ i t, (f i t).gqu = t.gqu) :
    ∀ l s, (forEach f l s).gqu = s.gqu
  | [], _ => rfl
  | i :: is, s => by rw [forEach, forEach_gqu f hf is, hf]
theorem forEach_mau (f : Nat → State → State) (hf : ∀ i t, (f i t).mau = t.mau) :
    ∀ l s, (forEach f l s).mau = s.mau
  | [], _ => rfl
  | i :: is, s => by rw [forEach, forEach_mau f hf is, hf]
theorem forEach_ft (f : Nat → State → State) (hf : ∀ i t, (f i t).ft = t.ft) :
    ∀ l s, (forEach f l s).ft = s.ft
  | [], _ => rfl
  | i :: is, s => by rw [forEach, forEach_ft f hf is, hf]
@[simp] theorem modDoor_outer (i : Nat) (f : DoorSet → DoorSet) : (modDoor i f s).outer = s.outer := by
  simp [modDoor, forEach_outer]
@[simp] theorem modDoor_lgp (i : Nat) (f : DoorSet → DoorSet) : (modDoor i f s).lgp = s.lgp := by
  simp [modDoor, forEach_lgp]
@[simp] theorem modDoor_stu (i : Nat) (f : DoorSet → DoorSet) : (modDoor i f s).stu = s.stu := by
  simp [modDoor, forEach_stu]
@[simp] theorem modDoor_hc (i : Nat) (f : DoorSet → DoorSet) : (modDoor i f s).hc = s.hc := by
  simp [modDoor, forEach_hc]
@[simp] theorem modDoor_bl (i : Nat) (f : DoorSet → DoorSet) : (modDoor i f s).bl = s.bl := by
  simp [modDoor, forEach_bl]
@[simp] theorem modDoor_bpu (i : Nat) (f : DoorSet → DoorSet) : (modDoor i f s).bpu = s.bpu := by
  simp [modDoor, forEach_bpu]
@[simp] theorem modDoor_tt (i : Nat) (f : DoorSet → DoorSet) : (modDoor i f s).tt = s.tt := by
  simp [modDoor, forEach_tt]
@[simp] theorem modDoor_gqu (i : Nat) (f : DoorSet → DoorSet) : (modDoor i f s).gqu = s.gqu := by
  simp [modDoor, forEach_gqu]
@[simp] theorem modDoor_mau (i : Nat) (f : DoorSet → DoorSet) : (modDoor i f s).mau = s.mau := by
  simp [modDoor, forEach_mau]
@[simp] theorem modDoor_ft (i : Nat) (f : DoorSet → DoorSet) : (modDoor i f s).ft = s.ft := by
  simp [modDoor, forEach_ft]
@[simp] theorem modPair_outer (c : Car) (f : PairRec → PairRec) : (modPair c f s).outer = s.outer := by
  simp [modPair, forEach_outer]
@[simp] theorem modPair_lgp (c : Car) (f : PairRec → PairRec) : (modPair c f s).lgp = s.lgp := by
  simp [modPair, forEach_lgp]
@[simp] theorem modPair_stu (c : Car) (f : PairRec → PairRec) : (modPair c f s).stu = s.stu := by
  simp [modPair, forEach_stu]
@[simp] theorem modPair_hc (c : Car) (f : PairRec → PairRec) : (modPair c f s).hc = s.hc := by
  simp [modPair, forEach_hc]
@[simp] theorem modPair_bl (c : Car) (f : PairRec → PairRec) : (modPair c f s).bl = s.bl := by
  simp [modPair, forEach_bl]
@[simp] theorem modPair_bpu (c : Car) (f : PairRec → PairRec) : (modPair c f s).bpu = s.bpu := by
  simp [modPair, forEach_bpu]
@[simp] theorem modPair_tt (c : Car) (f : PairRec → PairRec) : (modPair c f s).tt = s.tt := by
  simp [modPair, forEach_tt]
@[simp] theorem modPair_gqu (c : Car) (f : PairRec → PairRec) : (modPair c f s).gqu = s.gqu := by
  simp [modPair, forEach_gqu]
@[simp] theorem modPair_mau (c : Car) (f : PairRec → PairRec) : (modPair c f s).mau = s.mau := by
  simp [modPair, forEach_mau]
@[simp] theorem modPair_ft (c : Car) (f : PairRec → PairRec) : (modPair c f s).ft = s.ft := by
  simp [modPair, forEach_ft]
@[simp] theorem modReleased_outer (c : Car) (f : Released → Released) : (modReleased c f s).outer = s.outer := by
  simp only [modReleased]; (repeat' split) <;> simp
@[simp] theorem modReleased_lgp (c : Car) (f : Released → Released) : (modReleased c f s).lgp = s.lgp := by
  simp only [modReleased]; (repeat' split) <;> simp
@[simp] theorem modReleased_stu (c : Car) (f : Released → Released) : (modReleased c f s).stu = s.stu := by
  simp only [modReleased]; (repeat' split) <;> simp
@[simp] theorem modReleased_hc (c : Car) (f : Released → Released) : (modReleased c f s).hc = s.hc := by
  simp only [modReleased]; (repeat' split) <;> simp
@[simp] theorem modReleased_bl (c : Car) (f : Released → Released) : (modReleased c f s).bl = s.bl := by
  simp only [modReleased]; (repeat' split) <;> simp
@[simp] theorem modReleased_bpu (c : Car) (f : Released → Released) : (modReleased c f s).bpu = s.bpu := by
  simp only [modReleased]; (repeat' split) <;> simp
@[simp] theorem modReleased_tt (c : Car) (f : Released → Released) : (modReleased c f s).tt = s.tt := by
  simp only [modReleased]; (repeat' split) <;> simp
@[simp] theorem modReleased_gqu (c : Car) (f : Released → Released) : (modReleased c f s).gqu = s.gqu := by
  simp only [modReleased]; (repeat' split) <;> simp
@[simp] theorem modReleased_mau (c : Car) (f : Released → Released) : (modReleased c f s).mau = s.mau := by
  simp only [modReleased]; (repeat' split) <;> simp
@[simp] theorem modReleased_ft (c : Car) (f : Released → Released) : (modReleased c f s).ft = s.ft := by
  simp only [modReleased]; (repeat' split) <;> simp
/-- What a change of a released record does to the door control: the record becomes f of itself. -/
theorem modReleased_dc (c : Car) (f : Released → Released) : (modReleased c f s).dc
    = (modPair c (fun p => { p with released := p.released.map f }) s).dc := by
  have same : ∀ x : Two PairRec, x.setCar c (x.car c) = x := fun x => by cases c <;> rfl
  simp only [modReleased]
  split
  · rename_i h
    simp only [modPair, modDc_dc, h, Option.map_none]
    rw [show ({ s.dc.pairs.car c with released := none } : PairRec) = s.dc.pairs.car c by rw [← h], same]
  · rename_i r h
    split
    · rename_i e
      simp only [modPair, modDc_dc, h, Option.map_some, e]
      rw [show ({ s.dc.pairs.car c with released := some r } : PairRec) = s.dc.pairs.car c by rw [← h], same]
    · simp [modPair, h]
@[simp] theorem sendDoor_outer (c : Car) : (sendDoor c s).outer = s.outer := by
  simp [sendDoor, forEach_outer]
@[simp] theorem sendDoor_lgp (c : Car) : (sendDoor c s).lgp = s.lgp := by
  simp [sendDoor, forEach_lgp]
@[simp] theorem sendDoor_stu (c : Car) : (sendDoor c s).stu = s.stu := by
  simp [sendDoor, forEach_stu]
@[simp] theorem sendDoor_hc (c : Car) : (sendDoor c s).hc = s.hc := by
  simp [sendDoor, forEach_hc]
@[simp] theorem sendDoor_bl (c : Car) : (sendDoor c s).bl = s.bl := by
  simp [sendDoor, forEach_bl]
@[simp] theorem sendDoor_bpu (c : Car) : (sendDoor c s).bpu = s.bpu := by
  simp [sendDoor, forEach_bpu]
@[simp] theorem sendDoor_tt (c : Car) : (sendDoor c s).tt = s.tt := by
  simp [sendDoor, forEach_tt]
@[simp] theorem sendDoor_gqu (c : Car) : (sendDoor c s).gqu = s.gqu := by
  simp [sendDoor, forEach_gqu]
@[simp] theorem sendDoor_mau (c : Car) : (sendDoor c s).mau = s.mau := by
  simp [sendDoor, forEach_mau]
@[simp] theorem sendDoor_ft (c : Car) : (sendDoor c s).ft = s.ft := by
  simp [sendDoor, forEach_ft]
@[simp] theorem commandDoor_outer (i : Nat) (x : DoorCommand) : (commandDoor i x s).outer = s.outer := by
  simp only [commandDoor]; (repeat' split) <;> simp [*, forEach_outer]
@[simp] theorem commandDoor_lgp (i : Nat) (x : DoorCommand) : (commandDoor i x s).lgp = s.lgp := by
  simp only [commandDoor]; (repeat' split) <;> simp [*, forEach_lgp]
@[simp] theorem commandDoor_stu (i : Nat) (x : DoorCommand) : (commandDoor i x s).stu = s.stu := by
  simp only [commandDoor]; (repeat' split) <;> simp [*, forEach_stu]
@[simp] theorem commandDoor_hc (i : Nat) (x : DoorCommand) : (commandDoor i x s).hc = s.hc := by
  simp only [commandDoor]; (repeat' split) <;> simp [*, forEach_hc]
@[simp] theorem commandDoor_bl (i : Nat) (x : DoorCommand) : (commandDoor i x s).bl = s.bl := by
  simp only [commandDoor]; (repeat' split) <;> simp [*, forEach_bl]
@[simp] theorem commandDoor_bpu (i : Nat) (x : DoorCommand) : (commandDoor i x s).bpu = s.bpu := by
  simp only [commandDoor]; (repeat' split) <;> simp [*, forEach_bpu]
@[simp] theorem commandDoor_tt (i : Nat) (x : DoorCommand) : (commandDoor i x s).tt = s.tt := by
  simp only [commandDoor]; (repeat' split) <;> simp [*, forEach_tt]
@[simp] theorem commandDoor_gqu (i : Nat) (x : DoorCommand) : (commandDoor i x s).gqu = s.gqu := by
  simp only [commandDoor]; (repeat' split) <;> simp [*, forEach_gqu]
@[simp] theorem commandDoor_mau (i : Nat) (x : DoorCommand) : (commandDoor i x s).mau = s.mau := by
  simp only [commandDoor]; (repeat' split) <;> simp [*, forEach_mau]
@[simp] theorem commandDoor_ft (i : Nat) (x : DoorCommand) : (commandDoor i x s).ft = s.ft := by
  simp only [commandDoor]; (repeat' split) <;> simp [*, forEach_ft]
@[simp] theorem boardingReopened_outer (i : Nat) : (boardingReopened i s).outer = s.outer := by
  simp only [boardingReopened]; (repeat' split) <;> simp [*, forEach_outer]
@[simp] theorem boardingReopened_lgp (i : Nat) : (boardingReopened i s).lgp = s.lgp := by
  simp only [boardingReopened]; (repeat' split) <;> simp [*, forEach_lgp]
@[simp] theorem boardingReopened_stu (i : Nat) : (boardingReopened i s).stu = s.stu := by
  simp only [boardingReopened]; (repeat' split) <;> simp [*, forEach_stu]
@[simp] theorem boardingReopened_hc (i : Nat) : (boardingReopened i s).hc = s.hc := by
  simp only [boardingReopened]; (repeat' split) <;> simp [*, forEach_hc]
@[simp] theorem boardingReopened_bl (i : Nat) : (boardingReopened i s).bl = s.bl := by
  simp only [boardingReopened]; (repeat' split) <;> simp [*, forEach_bl]
@[simp] theorem boardingReopened_bpu (i : Nat) : (boardingReopened i s).bpu = s.bpu := by
  simp only [boardingReopened]; (repeat' split) <;> simp [*, forEach_bpu]
@[simp] theorem boardingReopened_dc (i : Nat) : (boardingReopened i s).dc = s.dc := by
  simp only [boardingReopened]; (repeat' split) <;> simp [*, forEach_dc]
@[simp] theorem boardingReopened_tt (i : Nat) : (boardingReopened i s).tt = s.tt := by
  simp only [boardingReopened]; (repeat' split) <;> simp [*, forEach_tt]
@[simp] theorem boardingReopened_mau (i : Nat) : (boardingReopened i s).mau = s.mau := by
  simp only [boardingReopened]; (repeat' split) <;> simp [*, forEach_mau]
@[simp] theorem boardingReopened_ft (i : Nat) : (boardingReopened i s).ft = s.ft := by
  simp only [boardingReopened]; (repeat' split) <;> simp [*, forEach_ft]
@[simp] theorem terminalOpening_outer (i : Nat) : (terminalOpening i s).outer = s.outer := by
  simp only [terminalOpening]; (repeat' split) <;> simp [*, forEach_outer]
@[simp] theorem terminalOpening_lgp (i : Nat) : (terminalOpening i s).lgp = s.lgp := by
  simp only [terminalOpening]; (repeat' split) <;> simp [*, forEach_lgp]
@[simp] theorem terminalOpening_stu (i : Nat) : (terminalOpening i s).stu = s.stu := by
  simp only [terminalOpening]; (repeat' split) <;> simp [*, forEach_stu]
@[simp] theorem terminalOpening_hc (i : Nat) : (terminalOpening i s).hc = s.hc := by
  simp only [terminalOpening]; (repeat' split) <;> simp [*, forEach_hc]
@[simp] theorem terminalOpening_bl (i : Nat) : (terminalOpening i s).bl = s.bl := by
  simp only [terminalOpening]; (repeat' split) <;> simp [*, forEach_bl]
@[simp] theorem terminalOpening_bpu (i : Nat) : (terminalOpening i s).bpu = s.bpu := by
  simp only [terminalOpening]; (repeat' split) <;> simp [*, forEach_bpu]
@[simp] theorem terminalOpening_dc (i : Nat) : (terminalOpening i s).dc = s.dc := by
  simp only [terminalOpening]; (repeat' split) <;> simp [*, forEach_dc]
@[simp] theorem terminalOpening_tt (i : Nat) : (terminalOpening i s).tt = s.tt := by
  simp only [terminalOpening]; (repeat' split) <;> simp [*, forEach_tt]
@[simp] theorem terminalOpening_mau (i : Nat) : (terminalOpening i s).mau = s.mau := by
  simp only [terminalOpening]; (repeat' split) <;> simp [*, forEach_mau]
@[simp] theorem terminalOpening_ft (i : Nat) : (terminalOpening i s).ft = s.ft := by
  simp only [terminalOpening]; (repeat' split) <;> simp [*, forEach_ft]
@[simp] theorem enterOpen_outer (i : Nat) (proven : Bool) : (enterOpen i proven s).outer = s.outer := by
  simp [enterOpen, forEach_outer]
@[simp] theorem enterOpen_lgp (i : Nat) (proven : Bool) : (enterOpen i proven s).lgp = s.lgp := by
  simp [enterOpen, forEach_lgp]
@[simp] theorem enterOpen_stu (i : Nat) (proven : Bool) : (enterOpen i proven s).stu = s.stu := by
  simp [enterOpen, forEach_stu]
@[simp] theorem enterOpen_hc (i : Nat) (proven : Bool) : (enterOpen i proven s).hc = s.hc := by
  simp [enterOpen, forEach_hc]
@[simp] theorem enterOpen_bl (i : Nat) (proven : Bool) : (enterOpen i proven s).bl = s.bl := by
  simp [enterOpen, forEach_bl]
@[simp] theorem enterOpen_bpu (i : Nat) (proven : Bool) : (enterOpen i proven s).bpu = s.bpu := by
  simp [enterOpen, forEach_bpu]
@[simp] theorem enterOpen_tt (i : Nat) (proven : Bool) : (enterOpen i proven s).tt = s.tt := by
  simp [enterOpen, forEach_tt]
@[simp] theorem enterOpen_mau (i : Nat) (proven : Bool) : (enterOpen i proven s).mau = s.mau := by
  simp [enterOpen, forEach_mau]
@[simp] theorem enterOpen_ft (i : Nat) (proven : Bool) : (enterOpen i proven s).ft = s.ft := by
  simp [enterOpen, forEach_ft]
@[simp] theorem enterOpening_outer (i : Nat) : (enterOpening i s).outer = s.outer := by
  simp only [enterOpening]; (repeat' split) <;> simp [*, forEach_outer]
@[simp] theorem enterOpening_lgp (i : Nat) : (enterOpening i s).lgp = s.lgp := by
  simp only [enterOpening]; (repeat' split) <;> simp [*, forEach_lgp]
@[simp] theorem enterOpening_stu (i : Nat) : (enterOpening i s).stu = s.stu := by
  simp only [enterOpening]; (repeat' split) <;> simp [*, forEach_stu]
@[simp] theorem enterOpening_hc (i : Nat) : (enterOpening i s).hc = s.hc := by
  simp only [enterOpening]; (repeat' split) <;> simp [*, forEach_hc]
@[simp] theorem enterOpening_bl (i : Nat) : (enterOpening i s).bl = s.bl := by
  simp only [enterOpening]; (repeat' split) <;> simp [*, forEach_bl]
@[simp] theorem enterOpening_bpu (i : Nat) : (enterOpening i s).bpu = s.bpu := by
  simp only [enterOpening]; (repeat' split) <;> simp [*, forEach_bpu]
@[simp] theorem enterOpening_tt (i : Nat) : (enterOpening i s).tt = s.tt := by
  simp only [enterOpening]; (repeat' split) <;> simp [*, forEach_tt]
@[simp] theorem enterOpening_mau (i : Nat) : (enterOpening i s).mau = s.mau := by
  simp only [enterOpening]; (repeat' split) <;> simp [*, forEach_mau]
@[simp] theorem enterOpening_ft (i : Nat) : (enterOpening i s).ft = s.ft := by
  simp only [enterOpening]; (repeat' split) <;> simp [*, forEach_ft]
@[simp] theorem openSets_outer (l : List Nat) : (openSets l s).outer = s.outer := by
  simp [openSets, forEach_outer]
@[simp] theorem openSets_lgp (l : List Nat) : (openSets l s).lgp = s.lgp := by
  simp [openSets, forEach_lgp]
@[simp] theorem openSets_stu (l : List Nat) : (openSets l s).stu = s.stu := by
  simp [openSets, forEach_stu]
@[simp] theorem openSets_hc (l : List Nat) : (openSets l s).hc = s.hc := by
  simp [openSets, forEach_hc]
@[simp] theorem openSets_bl (l : List Nat) : (openSets l s).bl = s.bl := by
  simp [openSets, forEach_bl]
@[simp] theorem openSets_bpu (l : List Nat) : (openSets l s).bpu = s.bpu := by
  simp [openSets, forEach_bpu]
@[simp] theorem openSets_tt (l : List Nat) : (openSets l s).tt = s.tt := by
  simp [openSets, forEach_tt]
@[simp] theorem openSets_mau (l : List Nat) : (openSets l s).mau = s.mau := by
  simp [openSets, forEach_mau]
@[simp] theorem openSets_ft (l : List Nat) : (openSets l s).ft = s.ft := by
  simp [openSets, forEach_ft]
@[simp] theorem releasePair_outer (c : Car) (k : Nat) : (releasePair c k s).outer = s.outer := by
  simp [releasePair, forEach_outer]
@[simp] theorem releasePair_lgp (c : Car) (k : Nat) : (releasePair c k s).lgp = s.lgp := by
  simp [releasePair, forEach_lgp]
@[simp] theorem releasePair_stu (c : Car) (k : Nat) : (releasePair c k s).stu = s.stu := by
  simp [releasePair, forEach_stu]
@[simp] theorem releasePair_hc (c : Car) (k : Nat) : (releasePair c k s).hc = s.hc := by
  simp [releasePair, forEach_hc]
@[simp] theorem releasePair_bl (c : Car) (k : Nat) : (releasePair c k s).bl = s.bl := by
  simp [releasePair, forEach_bl]
@[simp] theorem releasePair_bpu (c : Car) (k : Nat) : (releasePair c k s).bpu = s.bpu := by
  simp [releasePair, forEach_bpu]
@[simp] theorem releasePair_tt (c : Car) (k : Nat) : (releasePair c k s).tt = s.tt := by
  simp [releasePair, forEach_tt]
@[simp] theorem releasePair_mau (c : Car) (k : Nat) : (releasePair c k s).mau = s.mau := by
  simp [releasePair, forEach_mau]
@[simp] theorem releasePair_ft (c : Car) (k : Nat) : (releasePair c k s).ft = s.ft := by
  simp [releasePair, forEach_ft]
@[simp] theorem askRelease_outer (c : Car) (k : Nat) : (askRelease c k s).outer = s.outer := by
  simp only [askRelease]; (repeat' split) <;> simp [*, forEach_outer]
@[simp] theorem askRelease_lgp (c : Car) (k : Nat) : (askRelease c k s).lgp = s.lgp := by
  simp only [askRelease]; (repeat' split) <;> simp [*, forEach_lgp]
@[simp] theorem askRelease_stu (c : Car) (k : Nat) : (askRelease c k s).stu = s.stu := by
  simp only [askRelease]; (repeat' split) <;> simp [*, forEach_stu]
@[simp] theorem askRelease_hc (c : Car) (k : Nat) : (askRelease c k s).hc = s.hc := by
  simp only [askRelease]; (repeat' split) <;> simp [*, forEach_hc]
@[simp] theorem askRelease_bl (c : Car) (k : Nat) : (askRelease c k s).bl = s.bl := by
  simp only [askRelease]; (repeat' split) <;> simp [*, forEach_bl]
@[simp] theorem askRelease_bpu (c : Car) (k : Nat) : (askRelease c k s).bpu = s.bpu := by
  simp only [askRelease]; (repeat' split) <;> simp [*, forEach_bpu]
@[simp] theorem askRelease_tt (c : Car) (k : Nat) : (askRelease c k s).tt = s.tt := by
  simp only [askRelease]; (repeat' split) <;> simp [*, forEach_tt]
@[simp] theorem askRelease_mau (c : Car) (k : Nat) : (askRelease c k s).mau = s.mau := by
  simp only [askRelease]; (repeat' split) <;> simp [*, forEach_mau]
@[simp] theorem askRelease_ft (c : Car) (k : Nat) : (askRelease c k s).ft = s.ft := by
  simp only [askRelease]; (repeat' split) <;> simp [*, forEach_ft]
@[simp] theorem askReleases_outer : (askReleases s).outer = s.outer := by
  simp only [askReleases]; (repeat' split) <;> simp [*, forEach_outer]
@[simp] theorem askReleases_lgp : (askReleases s).lgp = s.lgp := by
  simp only [askReleases]; (repeat' split) <;> simp [*, forEach_lgp]
@[simp] theorem askReleases_stu : (askReleases s).stu = s.stu := by
  simp only [askReleases]; (repeat' split) <;> simp [*, forEach_stu]
@[simp] theorem askReleases_hc : (askReleases s).hc = s.hc := by
  simp only [askReleases]; (repeat' split) <;> simp [*, forEach_hc]
@[simp] theorem askReleases_bl : (askReleases s).bl = s.bl := by
  simp only [askReleases]; (repeat' split) <;> simp [*, forEach_bl]
@[simp] theorem askReleases_bpu : (askReleases s).bpu = s.bpu := by
  simp only [askReleases]; (repeat' split) <;> simp [*, forEach_bpu]
@[simp] theorem askReleases_tt : (askReleases s).tt = s.tt := by
  simp only [askReleases]; (repeat' split) <;> simp [*, forEach_tt]
@[simp] theorem askReleases_mau : (askReleases s).mau = s.mau := by
  simp only [askReleases]; (repeat' split) <;> simp [*, forEach_mau]
@[simp] theorem askReleases_ft : (askReleases s).ft = s.ft := by
  simp only [askReleases]; (repeat' split) <;> simp [*, forEach_ft]
@[simp] theorem judgePending_outer (c : Car) : (judgePending c s).outer = s.outer := by
  simp only [judgePending]; (repeat' split) <;> simp [*, forEach_outer]
@[simp] theorem judgePending_lgp (c : Car) : (judgePending c s).lgp = s.lgp := by
  simp only [judgePending]; (repeat' split) <;> simp [*, forEach_lgp]
@[simp] theorem judgePending_stu (c : Car) : (judgePending c s).stu = s.stu := by
  simp only [judgePending]; (repeat' split) <;> simp [*, forEach_stu]
@[simp] theorem judgePending_hc (c : Car) : (judgePending c s).hc = s.hc := by
  simp only [judgePending]; (repeat' split) <;> simp [*, forEach_hc]
@[simp] theorem judgePending_bl (c : Car) : (judgePending c s).bl = s.bl := by
  simp only [judgePending]; (repeat' split) <;> simp [*, forEach_bl]
@[simp] theorem judgePending_bpu (c : Car) : (judgePending c s).bpu = s.bpu := by
  simp only [judgePending]; (repeat' split) <;> simp [*, forEach_bpu]
@[simp] theorem judgePending_tt (c : Car) : (judgePending c s).tt = s.tt := by
  simp only [judgePending]; (repeat' split) <;> simp [*, forEach_tt]
@[simp] theorem judgePending_mau (c : Car) : (judgePending c s).mau = s.mau := by
  simp only [judgePending]; (repeat' split) <;> simp [*, forEach_mau]
@[simp] theorem judgePending_ft (c : Car) : (judgePending c s).ft = s.ft := by
  simp only [judgePending]; (repeat' split) <;> simp [*, forEach_ft]
@[simp] theorem boardingShut_outer (i : Nat) : (boardingShut i s).outer = s.outer := by
  simp only [boardingShut]; (repeat' split) <;> simp [*, forEach_outer]
@[simp] theorem boardingShut_lgp (i : Nat) : (boardingShut i s).lgp = s.lgp := by
  simp only [boardingShut]; (repeat' split) <;> simp [*, forEach_lgp]
@[simp] theorem boardingShut_stu (i : Nat) : (boardingShut i s).stu = s.stu := by
  simp only [boardingShut]; (repeat' split) <;> simp [*, forEach_stu]
@[simp] theorem boardingShut_hc (i : Nat) : (boardingShut i s).hc = s.hc := by
  simp only [boardingShut]; (repeat' split) <;> simp [*, forEach_hc]
@[simp] theorem boardingShut_bl (i : Nat) : (boardingShut i s).bl = s.bl := by
  simp only [boardingShut]; (repeat' split) <;> simp [*, forEach_bl]
@[simp] theorem boardingShut_bpu (i : Nat) : (boardingShut i s).bpu = s.bpu := by
  simp only [boardingShut]; (repeat' split) <;> simp [*, forEach_bpu]
@[simp] theorem boardingShut_dc (i : Nat) : (boardingShut i s).dc = s.dc := by
  simp only [boardingShut]; (repeat' split) <;> simp [*, forEach_dc]
@[simp] theorem boardingShut_tt (i : Nat) : (boardingShut i s).tt = s.tt := by
  simp only [boardingShut]; (repeat' split) <;> simp [*, forEach_tt]
@[simp] theorem boardingShut_mau (i : Nat) : (boardingShut i s).mau = s.mau := by
  simp only [boardingShut]; (repeat' split) <;> simp [*, forEach_mau]
@[simp] theorem boardingShut_ft (i : Nat) : (boardingShut i s).ft = s.ft := by
  simp only [boardingShut]; (repeat' split) <;> simp [*, forEach_ft]
@[simp] theorem setHold_outer (c : Car) (k : Nat) (v : Bool) : (setHold c k v s).outer = s.outer := by
  simp [setHold, forEach_outer]
@[simp] theorem setHold_lgp (c : Car) (k : Nat) (v : Bool) : (setHold c k v s).lgp = s.lgp := by
  simp [setHold, forEach_lgp]
@[simp] theorem setHold_stu (c : Car) (k : Nat) (v : Bool) : (setHold c k v s).stu = s.stu := by
  simp [setHold, forEach_stu]
@[simp] theorem setHold_hc (c : Car) (k : Nat) (v : Bool) : (setHold c k v s).hc = s.hc := by
  simp [setHold, forEach_hc]
@[simp] theorem setHold_bl (c : Car) (k : Nat) (v : Bool) : (setHold c k v s).bl = s.bl := by
  simp [setHold, forEach_bl]
@[simp] theorem setHold_bpu (c : Car) (k : Nat) (v : Bool) : (setHold c k v s).bpu = s.bpu := by
  simp [setHold, forEach_bpu]
@[simp] theorem setHold_tt (c : Car) (k : Nat) (v : Bool) : (setHold c k v s).tt = s.tt := by
  simp [setHold, forEach_tt]
@[simp] theorem setHold_gqu (c : Car) (k : Nat) (v : Bool) : (setHold c k v s).gqu = s.gqu := by
  simp [setHold, forEach_gqu]
@[simp] theorem setHold_mau (c : Car) (k : Nat) (v : Bool) : (setHold c k v s).mau = s.mau := by
  simp [setHold, forEach_mau]
@[simp] theorem setHold_ft (c : Car) (k : Nat) (v : Bool) : (setHold c k v s).ft = s.ft := by
  simp [setHold, forEach_ft]
@[simp] theorem emptyPair_outer (c : Car) : (emptyPair c s).outer = s.outer := by
  simp only [emptyPair]; (repeat' split) <;> simp [*, forEach_outer]
@[simp] theorem emptyPair_lgp (c : Car) : (emptyPair c s).lgp = s.lgp := by
  simp only [emptyPair]; (repeat' split) <;> simp [*, forEach_lgp]
@[simp] theorem emptyPair_stu (c : Car) : (emptyPair c s).stu = s.stu := by
  simp only [emptyPair]; (repeat' split) <;> simp [*, forEach_stu]
@[simp] theorem emptyPair_hc (c : Car) : (emptyPair c s).hc = s.hc := by
  simp only [emptyPair]; (repeat' split) <;> simp [*, forEach_hc]
@[simp] theorem emptyPair_bl (c : Car) : (emptyPair c s).bl = s.bl := by
  simp only [emptyPair]; (repeat' split) <;> simp [*, forEach_bl]
@[simp] theorem emptyPair_bpu (c : Car) : (emptyPair c s).bpu = s.bpu := by
  simp only [emptyPair]; (repeat' split) <;> simp [*, forEach_bpu]
@[simp] theorem emptyPair_tt (c : Car) : (emptyPair c s).tt = s.tt := by
  simp only [emptyPair]; (repeat' split) <;> simp [*, forEach_tt]
@[simp] theorem emptyPair_gqu (c : Car) : (emptyPair c s).gqu = s.gqu := by
  simp only [emptyPair]; (repeat' split) <;> simp [*, forEach_gqu]
@[simp] theorem emptyPair_mau (c : Car) : (emptyPair c s).mau = s.mau := by
  simp only [emptyPair]; (repeat' split) <;> simp [*, forEach_mau]
@[simp] theorem emptyPair_ft (c : Car) : (emptyPair c s).ft = s.ft := by
  simp only [emptyPair]; (repeat' split) <;> simp [*, forEach_ft]
@[simp] theorem emptyPairs_outer : (emptyPairs s).outer = s.outer := by
  simp [emptyPairs, forEach_outer]
@[simp] theorem emptyPairs_lgp : (emptyPairs s).lgp = s.lgp := by
  simp [emptyPairs, forEach_lgp]
@[simp] theorem emptyPairs_stu : (emptyPairs s).stu = s.stu := by
  simp [emptyPairs, forEach_stu]
@[simp] theorem emptyPairs_hc : (emptyPairs s).hc = s.hc := by
  simp [emptyPairs, forEach_hc]
@[simp] theorem emptyPairs_bl : (emptyPairs s).bl = s.bl := by
  simp [emptyPairs, forEach_bl]
@[simp] theorem emptyPairs_bpu : (emptyPairs s).bpu = s.bpu := by
  simp [emptyPairs, forEach_bpu]
@[simp] theorem emptyPairs_tt : (emptyPairs s).tt = s.tt := by
  simp [emptyPairs, forEach_tt]
@[simp] theorem emptyPairs_gqu : (emptyPairs s).gqu = s.gqu := by
  simp [emptyPairs, forEach_gqu]
@[simp] theorem emptyPairs_mau : (emptyPairs s).mau = s.mau := by
  simp [emptyPairs, forEach_mau]
@[simp] theorem emptyPairs_ft : (emptyPairs s).ft = s.ft := by
  simp [emptyPairs, forEach_ft]
@[simp] theorem enterLocked_outer (i : Nat) : (enterLocked i s).outer = s.outer := by
  simp only [enterLocked]; (repeat' split) <;> simp [*, forEach_outer]
@[simp] theorem enterLocked_lgp (i : Nat) : (enterLocked i s).lgp = s.lgp := by
  simp only [enterLocked]; (repeat' split) <;> simp [*, forEach_lgp]
@[simp] theorem enterLocked_stu (i : Nat) : (enterLocked i s).stu = s.stu := by
  simp only [enterLocked]; (repeat' split) <;> simp [*, forEach_stu]
@[simp] theorem enterLocked_hc (i : Nat) : (enterLocked i s).hc = s.hc := by
  simp only [enterLocked]; (repeat' split) <;> simp [*, forEach_hc]
@[simp] theorem enterLocked_bl (i : Nat) : (enterLocked i s).bl = s.bl := by
  simp only [enterLocked]; (repeat' split) <;> simp [*, forEach_bl]
@[simp] theorem enterLocked_bpu (i : Nat) : (enterLocked i s).bpu = s.bpu := by
  simp only [enterLocked]; (repeat' split) <;> simp [*, forEach_bpu]
@[simp] theorem enterLocked_tt (i : Nat) : (enterLocked i s).tt = s.tt := by
  simp only [enterLocked]; (repeat' split) <;> simp [*, forEach_tt]
@[simp] theorem enterLocked_mau (i : Nat) : (enterLocked i s).mau = s.mau := by
  simp only [enterLocked]; (repeat' split) <;> simp [*, forEach_mau]
@[simp] theorem raiseObstructed_outer (i : Nat) : (raiseObstructed i s).outer = s.outer := by
  simp only [raiseObstructed]; (repeat' split) <;> simp [*, forEach_outer]
@[simp] theorem raiseObstructed_lgp (i : Nat) : (raiseObstructed i s).lgp = s.lgp := by
  simp only [raiseObstructed]; (repeat' split) <;> simp [*, forEach_lgp]
@[simp] theorem raiseObstructed_stu (i : Nat) : (raiseObstructed i s).stu = s.stu := by
  simp only [raiseObstructed]; (repeat' split) <;> simp [*, forEach_stu]
@[simp] theorem raiseObstructed_dc (i : Nat) : (raiseObstructed i s).dc = s.dc := by
  simp only [raiseObstructed]; (repeat' split) <;> simp [*, forEach_dc]
@[simp] theorem raiseObstructed_tt (i : Nat) : (raiseObstructed i s).tt = s.tt := by
  simp only [raiseObstructed]; (repeat' split) <;> simp [*, forEach_tt]
@[simp] theorem raiseObstructed_mau (i : Nat) : (raiseObstructed i s).mau = s.mau := by
  simp only [raiseObstructed]; (repeat' split) <;> simp [*, forEach_mau]
@[simp] theorem countObstruction_outer (i : Nat) : (countObstruction i s).outer = s.outer := by
  simp [countObstruction]
@[simp] theorem countObstruction_lgp (i : Nat) : (countObstruction i s).lgp = s.lgp := by
  simp [countObstruction]
@[simp] theorem countObstruction_stu (i : Nat) : (countObstruction i s).stu = s.stu := by
  simp [countObstruction]
@[simp] theorem countObstruction_hc (i : Nat) : (countObstruction i s).hc = s.hc := by
  simp [countObstruction]
@[simp] theorem countObstruction_bl (i : Nat) : (countObstruction i s).bl = s.bl := by
  simp [countObstruction]
@[simp] theorem countObstruction_bpu (i : Nat) : (countObstruction i s).bpu = s.bpu := by
  simp [countObstruction]
@[simp] theorem countObstruction_tt (i : Nat) : (countObstruction i s).tt = s.tt := by
  simp [countObstruction]
@[simp] theorem countObstruction_gqu (i : Nat) : (countObstruction i s).gqu = s.gqu := by
  simp [countObstruction]
@[simp] theorem countObstruction_mau (i : Nat) : (countObstruction i s).mau = s.mau := by
  simp [countObstruction]
@[simp] theorem countObstruction_ft (i : Nat) : (countObstruction i s).ft = s.ft := by
  simp [countObstruction]
@[simp] theorem obstructAlone_outer (i : Nat) : (obstructAlone i s).outer = s.outer := by
  simp [obstructAlone]
@[simp] theorem obstructAlone_lgp (i : Nat) : (obstructAlone i s).lgp = s.lgp := by
  simp [obstructAlone]
@[simp] theorem obstructAlone_stu (i : Nat) : (obstructAlone i s).stu = s.stu := by
  simp [obstructAlone]
@[simp] theorem obstructAlone_tt (i : Nat) : (obstructAlone i s).tt = s.tt := by
  simp [obstructAlone]
@[simp] theorem obstructAlone_mau (i : Nat) : (obstructAlone i s).mau = s.mau := by
  simp [obstructAlone]
@[simp] theorem obstruct_outer (c : Car) (is : List Nat) : (obstruct c is s).outer = s.outer := by
  simp only [obstruct]; (repeat' split) <;> simp [*, forEach_outer]
@[simp] theorem obstruct_lgp (c : Car) (is : List Nat) : (obstruct c is s).lgp = s.lgp := by
  simp only [obstruct]; (repeat' split) <;> simp [*, forEach_lgp]
@[simp] theorem obstruct_stu (c : Car) (is : List Nat) : (obstruct c is s).stu = s.stu := by
  simp only [obstruct]; (repeat' split) <;> simp [*, forEach_stu]
@[simp] theorem obstruct_tt (c : Car) (is : List Nat) : (obstruct c is s).tt = s.tt := by
  simp only [obstruct]; (repeat' split) <;> simp [*, forEach_tt]
@[simp] theorem obstruct_mau (c : Car) (is : List Nat) : (obstruct c is s).mau = s.mau := by
  simp only [obstruct]; (repeat' split) <;> simp [*, forEach_mau]
@[simp] theorem startClosing_outer (i : Nat) : (startClosing i s).outer = s.outer := by
  simp [startClosing, forEach_outer]
@[simp] theorem startClosing_lgp (i : Nat) : (startClosing i s).lgp = s.lgp := by
  simp [startClosing, forEach_lgp]
@[simp] theorem startClosing_stu (i : Nat) : (startClosing i s).stu = s.stu := by
  simp [startClosing, forEach_stu]
@[simp] theorem startClosing_hc (i : Nat) : (startClosing i s).hc = s.hc := by
  simp [startClosing, forEach_hc]
@[simp] theorem startClosing_bl (i : Nat) : (startClosing i s).bl = s.bl := by
  simp [startClosing, forEach_bl]
@[simp] theorem startClosing_bpu (i : Nat) : (startClosing i s).bpu = s.bpu := by
  simp [startClosing, forEach_bpu]
@[simp] theorem startClosing_tt (i : Nat) : (startClosing i s).tt = s.tt := by
  simp [startClosing, forEach_tt]
@[simp] theorem startClosing_gqu (i : Nat) : (startClosing i s).gqu = s.gqu := by
  simp [startClosing, forEach_gqu]
@[simp] theorem startClosing_mau (i : Nat) : (startClosing i s).mau = s.mau := by
  simp [startClosing, forEach_mau]
@[simp] theorem startClosing_ft (i : Nat) : (startClosing i s).ft = s.ft := by
  simp [startClosing, forEach_ft]
@[simp] theorem sendClosing_outer (c : Car) (is : List Nat) : (sendClosing c is s).outer = s.outer := by
  simp only [sendClosing]; (repeat' split) <;> simp [*, forEach_outer]
@[simp] theorem sendClosing_lgp (c : Car) (is : List Nat) : (sendClosing c is s).lgp = s.lgp := by
  simp only [sendClosing]; (repeat' split) <;> simp [*, forEach_lgp]
@[simp] theorem sendClosing_stu (c : Car) (is : List Nat) : (sendClosing c is s).stu = s.stu := by
  simp only [sendClosing]; (repeat' split) <;> simp [*, forEach_stu]
@[simp] theorem sendClosing_tt (c : Car) (is : List Nat) : (sendClosing c is s).tt = s.tt := by
  simp only [sendClosing]; (repeat' split) <;> simp [*, forEach_tt]
@[simp] theorem sendClosing_mau (c : Car) (is : List Nat) : (sendClosing c is s).mau = s.mau := by
  simp only [sendClosing]; (repeat' split) <;> simp [*, forEach_mau]
@[simp] theorem setDwell_outer (d : Dwell) : (setDwell d s).outer = s.outer := by
  simp only [setDwell]; split <;> simp
@[simp] theorem setDwell_lgp (d : Dwell) : (setDwell d s).lgp = s.lgp := by
  simp only [setDwell]; split <;> simp
@[simp] theorem setDwell_stu (d : Dwell) : (setDwell d s).stu = s.stu := by
  simp only [setDwell]; split <;> simp
@[simp] theorem setDwell_hc (d : Dwell) : (setDwell d s).hc = s.hc := by
  simp only [setDwell]; split <;> simp
@[simp] theorem setDwell_bl (d : Dwell) : (setDwell d s).bl = s.bl := by
  simp only [setDwell]; split <;> simp
@[simp] theorem setDwell_bpu (d : Dwell) : (setDwell d s).bpu = s.bpu := by
  simp only [setDwell]; split <;> simp
@[simp] theorem setDwell_tt (d : Dwell) : (setDwell d s).tt = s.tt := by
  simp only [setDwell]; split <;> simp
@[simp] theorem setDwell_gqu (d : Dwell) : (setDwell d s).gqu = s.gqu := by
  simp only [setDwell]; split <;> simp
@[simp] theorem setDwell_mau (d : Dwell) : (setDwell d s).mau = s.mau := by
  simp only [setDwell]; split <;> simp
@[simp] theorem setDwell_ft (d : Dwell) : (setDwell d s).ft = s.ft := by
  simp only [setDwell]; split <;> simp
/-- The dwell after it became d. -/
@[simp] theorem setDwell_dc (d : Dwell) : (setDwell d s).dc = { s.dc with dwell := d } := by
  simp only [setDwell]; split
  · rename_i h; simp [← h]
  · simp
@[simp] theorem judgeDwell_outer : (judgeDwell s).outer = s.outer := by
  simp only [judgeDwell]; (repeat' split) <;> simp [*, forEach_outer]
@[simp] theorem judgeDwell_lgp : (judgeDwell s).lgp = s.lgp := by
  simp only [judgeDwell]; (repeat' split) <;> simp [*, forEach_lgp]
@[simp] theorem judgeDwell_stu : (judgeDwell s).stu = s.stu := by
  simp only [judgeDwell]; (repeat' split) <;> simp [*, forEach_stu]
@[simp] theorem judgeDwell_hc : (judgeDwell s).hc = s.hc := by
  simp only [judgeDwell]; (repeat' split) <;> simp [*, forEach_hc]
@[simp] theorem judgeDwell_bl : (judgeDwell s).bl = s.bl := by
  simp only [judgeDwell]; (repeat' split) <;> simp [*, forEach_bl]
@[simp] theorem judgeDwell_bpu : (judgeDwell s).bpu = s.bpu := by
  simp only [judgeDwell]; (repeat' split) <;> simp [*, forEach_bpu]
@[simp] theorem judgeDwell_tt : (judgeDwell s).tt = s.tt := by
  simp only [judgeDwell]; (repeat' split) <;> simp [*, forEach_tt]
@[simp] theorem judgeDwell_gqu : (judgeDwell s).gqu = s.gqu := by
  simp only [judgeDwell]; (repeat' split) <;> simp [*, forEach_gqu]
@[simp] theorem judgeDwell_mau : (judgeDwell s).mau = s.mau := by
  simp only [judgeDwell]; (repeat' split) <;> simp [*, forEach_mau]
@[simp] theorem judgeDwell_ft : (judgeDwell s).ft = s.ft := by
  simp only [judgeDwell]; (repeat' split) <;> simp [*, forEach_ft]
@[simp] theorem closeWhileDue_outer (c : Car) : ∀ n s, (closeWhileDue c n s).outer = s.outer
  | 0, _ => rfl
  | n + 1, s => by
    simp only [closeWhileDue]; (repeat' split) <;> simp [closeWhileDue_outer c n]
@[simp] theorem closeWhileDue_lgp (c : Car) : ∀ n s, (closeWhileDue c n s).lgp = s.lgp
  | 0, _ => rfl
  | n + 1, s => by
    simp only [closeWhileDue]; (repeat' split) <;> simp [closeWhileDue_lgp c n]
@[simp] theorem closeWhileDue_stu (c : Car) : ∀ n s, (closeWhileDue c n s).stu = s.stu
  | 0, _ => rfl
  | n + 1, s => by
    simp only [closeWhileDue]; (repeat' split) <;> simp [closeWhileDue_stu c n]
@[simp] theorem closeWhileDue_tt (c : Car) : ∀ n s, (closeWhileDue c n s).tt = s.tt
  | 0, _ => rfl
  | n + 1, s => by
    simp only [closeWhileDue]; (repeat' split) <;> simp [closeWhileDue_tt c n]
@[simp] theorem closeWhileDue_mau (c : Car) : ∀ n s, (closeWhileDue c n s).mau = s.mau
  | 0, _ => rfl
  | n + 1, s => by
    simp only [closeWhileDue]; (repeat' split) <;> simp [closeWhileDue_mau c n]
@[simp] theorem closeIfDue_outer (c : Car) : (closeIfDue c s).outer = s.outer := by
  simp [closeIfDue, forEach_outer]
@[simp] theorem closeIfDue_lgp (c : Car) : (closeIfDue c s).lgp = s.lgp := by
  simp [closeIfDue, forEach_lgp]
@[simp] theorem closeIfDue_stu (c : Car) : (closeIfDue c s).stu = s.stu := by
  simp [closeIfDue, forEach_stu]
@[simp] theorem closeIfDue_tt (c : Car) : (closeIfDue c s).tt = s.tt := by
  simp [closeIfDue, forEach_tt]
@[simp] theorem closeIfDue_mau (c : Car) : (closeIfDue c s).mau = s.mau := by
  simp [closeIfDue, forEach_mau]
@[simp] theorem closeOnDemand_outer (c : Car) : (closeOnDemand c s).outer = s.outer := by
  simp only [closeOnDemand]; (repeat' split) <;> simp
@[simp] theorem closeOnDemand_lgp (c : Car) : (closeOnDemand c s).lgp = s.lgp := by
  simp only [closeOnDemand]; (repeat' split) <;> simp
@[simp] theorem closeOnDemand_stu (c : Car) : (closeOnDemand c s).stu = s.stu := by
  simp only [closeOnDemand]; (repeat' split) <;> simp
@[simp] theorem closeOnDemand_tt (c : Car) : (closeOnDemand c s).tt = s.tt := by
  simp only [closeOnDemand]; (repeat' split) <;> simp
@[simp] theorem closeOnDemand_mau (c : Car) : (closeOnDemand c s).mau = s.mau := by
  simp only [closeOnDemand]; (repeat' split) <;> simp
@[simp] theorem closeBoth_outer : (closeBoth s).outer = s.outer := by
  simp [closeBoth, forEach_outer]
@[simp] theorem closeBoth_lgp : (closeBoth s).lgp = s.lgp := by
  simp [closeBoth, forEach_lgp]
@[simp] theorem closeBoth_stu : (closeBoth s).stu = s.stu := by
  simp [closeBoth, forEach_stu]
@[simp] theorem closeBoth_tt : (closeBoth s).tt = s.tt := by
  simp [closeBoth, forEach_tt]
@[simp] theorem closeBoth_mau : (closeBoth s).mau = s.mau := by
  simp [closeBoth, forEach_mau]
@[simp] theorem closeAtDwell_outer (c : Car) : (closeAtDwell c s).outer = s.outer := by
  simp only [closeAtDwell]; (repeat' split) <;> simp [*, forEach_outer]
@[simp] theorem closeAtDwell_lgp (c : Car) : (closeAtDwell c s).lgp = s.lgp := by
  simp only [closeAtDwell]; (repeat' split) <;> simp [*, forEach_lgp]
@[simp] theorem closeAtDwell_stu (c : Car) : (closeAtDwell c s).stu = s.stu := by
  simp only [closeAtDwell]; (repeat' split) <;> simp [*, forEach_stu]
@[simp] theorem closeAtDwell_tt (c : Car) : (closeAtDwell c s).tt = s.tt := by
  simp only [closeAtDwell]; (repeat' split) <;> simp [*, forEach_tt]
@[simp] theorem closeAtDwell_mau (c : Car) : (closeAtDwell c s).mau = s.mau := by
  simp only [closeAtDwell]; (repeat' split) <;> simp [*, forEach_mau]
@[simp] theorem modDoorIn_outer (i : Nat) (f : DoorInputs → DoorInputs) : (modDoorIn i f s).outer = s.outer := by
  simp [modDoorIn, forEach_outer]
@[simp] theorem modDoorIn_lgp (i : Nat) (f : DoorInputs → DoorInputs) : (modDoorIn i f s).lgp = s.lgp := by
  simp [modDoorIn, forEach_lgp]
@[simp] theorem modDoorIn_stu (i : Nat) (f : DoorInputs → DoorInputs) : (modDoorIn i f s).stu = s.stu := by
  simp [modDoorIn, forEach_stu]
@[simp] theorem modDoorIn_hc (i : Nat) (f : DoorInputs → DoorInputs) : (modDoorIn i f s).hc = s.hc := by
  simp [modDoorIn, forEach_hc]
@[simp] theorem modDoorIn_bl (i : Nat) (f : DoorInputs → DoorInputs) : (modDoorIn i f s).bl = s.bl := by
  simp [modDoorIn, forEach_bl]
@[simp] theorem modDoorIn_bpu (i : Nat) (f : DoorInputs → DoorInputs) : (modDoorIn i f s).bpu = s.bpu := by
  simp [modDoorIn, forEach_bpu]
@[simp] theorem modDoorIn_tt (i : Nat) (f : DoorInputs → DoorInputs) : (modDoorIn i f s).tt = s.tt := by
  simp [modDoorIn, forEach_tt]
@[simp] theorem modDoorIn_gqu (i : Nat) (f : DoorInputs → DoorInputs) : (modDoorIn i f s).gqu = s.gqu := by
  simp [modDoorIn, forEach_gqu]
@[simp] theorem modDoorIn_mau (i : Nat) (f : DoorInputs → DoorInputs) : (modDoorIn i f s).mau = s.mau := by
  simp [modDoorIn, forEach_mau]
@[simp] theorem modDoorIn_ft (i : Nat) (f : DoorInputs → DoorInputs) : (modDoorIn i f s).ft = s.ft := by
  simp [modDoorIn, forEach_ft]
@[simp] theorem enterUnproven_outer (i : Nat) : (enterUnproven i s).outer = s.outer := by
  simp [enterUnproven, forEach_outer]
@[simp] theorem enterUnproven_lgp (i : Nat) : (enterUnproven i s).lgp = s.lgp := by
  simp [enterUnproven, forEach_lgp]
@[simp] theorem enterUnproven_stu (i : Nat) : (enterUnproven i s).stu = s.stu := by
  simp [enterUnproven, forEach_stu]
@[simp] theorem enterUnproven_tt (i : Nat) : (enterUnproven i s).tt = s.tt := by
  simp [enterUnproven, forEach_tt]
@[simp] theorem enterUnproven_mau (i : Nat) : (enterUnproven i s).mau = s.mau := by
  simp [enterUnproven, forEach_mau]
@[simp] theorem closedChanged_outer (i : Nat) (v : Bool) : (closedChanged i v s).outer = s.outer := by
  simp only [closedChanged]; (repeat' split) <;> simp [*, forEach_outer]
@[simp] theorem closedChanged_lgp (i : Nat) (v : Bool) : (closedChanged i v s).lgp = s.lgp := by
  simp only [closedChanged]; (repeat' split) <;> simp [*, forEach_lgp]
@[simp] theorem closedChanged_stu (i : Nat) (v : Bool) : (closedChanged i v s).stu = s.stu := by
  simp only [closedChanged]; (repeat' split) <;> simp [*, forEach_stu]
@[simp] theorem closedChanged_tt (i : Nat) (v : Bool) : (closedChanged i v s).tt = s.tt := by
  simp only [closedChanged]; (repeat' split) <;> simp [*, forEach_tt]
@[simp] theorem closedChanged_mau (i : Nat) (v : Bool) : (closedChanged i v s).mau = s.mau := by
  simp only [closedChanged]; (repeat' split) <;> simp [*, forEach_mau]
@[simp] theorem openedChanged_outer (i : Nat) (v : Bool) : (openedChanged i v s).outer = s.outer := by
  simp only [openedChanged]; (repeat' split) <;> simp [*, forEach_outer]
@[simp] theorem openedChanged_lgp (i : Nat) (v : Bool) : (openedChanged i v s).lgp = s.lgp := by
  simp only [openedChanged]; (repeat' split) <;> simp [*, forEach_lgp]
@[simp] theorem openedChanged_stu (i : Nat) (v : Bool) : (openedChanged i v s).stu = s.stu := by
  simp only [openedChanged]; (repeat' split) <;> simp [*, forEach_stu]
@[simp] theorem openedChanged_tt (i : Nat) (v : Bool) : (openedChanged i v s).tt = s.tt := by
  simp only [openedChanged]; (repeat' split) <;> simp [*, forEach_tt]
@[simp] theorem openedChanged_mau (i : Nat) (v : Bool) : (openedChanged i v s).mau = s.mau := by
  simp only [openedChanged]; (repeat' split) <;> simp [*, forEach_mau]
@[simp] theorem obstructionChanged_outer (i : Nat) (v : Bool) : (obstructionChanged i v s).outer = s.outer := by
  simp only [obstructionChanged]; (repeat' split) <;> simp [*, forEach_outer]
@[simp] theorem obstructionChanged_lgp (i : Nat) (v : Bool) : (obstructionChanged i v s).lgp = s.lgp := by
  simp only [obstructionChanged]; (repeat' split) <;> simp [*, forEach_lgp]
@[simp] theorem obstructionChanged_stu (i : Nat) (v : Bool) : (obstructionChanged i v s).stu = s.stu := by
  simp only [obstructionChanged]; (repeat' split) <;> simp [*, forEach_stu]
@[simp] theorem obstructionChanged_tt (i : Nat) (v : Bool) : (obstructionChanged i v s).tt = s.tt := by
  simp only [obstructionChanged]; (repeat' split) <;> simp [*, forEach_tt]
@[simp] theorem obstructionChanged_mau (i : Nat) (v : Bool) : (obstructionChanged i v s).mau = s.mau := by
  simp only [obstructionChanged]; (repeat' split) <;> simp [*, forEach_mau]
@[simp] theorem doorInput_outer (i : Nat) (x : DoorInput) (v : Bool) : (doorInput i x v s).outer = s.outer := by
  simp only [doorInput]; (repeat' split) <;> simp [*, forEach_outer]
@[simp] theorem doorInput_lgp (i : Nat) (x : DoorInput) (v : Bool) : (doorInput i x v s).lgp = s.lgp := by
  simp only [doorInput]; (repeat' split) <;> simp [*, forEach_lgp]
@[simp] theorem doorInput_stu (i : Nat) (x : DoorInput) (v : Bool) : (doorInput i x v s).stu = s.stu := by
  simp only [doorInput]; (repeat' split) <;> simp [*, forEach_stu]
@[simp] theorem doorInput_tt (i : Nat) (x : DoorInput) (v : Bool) : (doorInput i x v s).tt = s.tt := by
  simp only [doorInput]; (repeat' split) <;> simp [*, forEach_tt]
@[simp] theorem doorInput_mau (i : Nat) (x : DoorInput) (v : Bool) : (doorInput i x v s).mau = s.mau := by
  simp only [doorInput]; (repeat' split) <;> simp [*, forEach_mau]
@[simp] theorem doorReport_outer (c : Car) (closed opened obstructed : Bool) : (doorReport c closed opened obstructed s).outer = s.outer := by
  simp [doorReport, forEach_outer]
@[simp] theorem doorReport_lgp (c : Car) (closed opened obstructed : Bool) : (doorReport c closed opened obstructed s).lgp = s.lgp := by
  simp [doorReport, forEach_lgp]
@[simp] theorem doorReport_stu (c : Car) (closed opened obstructed : Bool) : (doorReport c closed opened obstructed s).stu = s.stu := by
  simp [doorReport, forEach_stu]
@[simp] theorem doorReport_tt (c : Car) (closed opened obstructed : Bool) : (doorReport c closed opened obstructed s).tt = s.tt := by
  simp [doorReport, forEach_tt]
@[simp] theorem doorReport_mau (c : Car) (closed opened obstructed : Bool) : (doorReport c closed opened obstructed s).mau = s.mau := by
  simp [doorReport, forEach_mau]
@[simp] theorem openProofExpires_outer (i : Nat) : (openProofExpires i s).outer = s.outer := by
  simp [openProofExpires, forEach_outer]
@[simp] theorem openProofExpires_lgp (i : Nat) : (openProofExpires i s).lgp = s.lgp := by
  simp [openProofExpires, forEach_lgp]
@[simp] theorem openProofExpires_stu (i : Nat) : (openProofExpires i s).stu = s.stu := by
  simp [openProofExpires, forEach_stu]
@[simp] theorem openProofExpires_tt (i : Nat) : (openProofExpires i s).tt = s.tt := by
  simp [openProofExpires, forEach_tt]
@[simp] theorem openProofExpires_mau (i : Nat) : (openProofExpires i s).mau = s.mau := by
  simp [openProofExpires, forEach_mau]
@[simp] theorem closeProofExpires_outer (i : Nat) : (closeProofExpires i s).outer = s.outer := by
  simp only [closeProofExpires]; (repeat' split) <;> simp [*, forEach_outer]
@[simp] theorem closeProofExpires_lgp (i : Nat) : (closeProofExpires i s).lgp = s.lgp := by
  simp only [closeProofExpires]; (repeat' split) <;> simp [*, forEach_lgp]
@[simp] theorem closeProofExpires_stu (i : Nat) : (closeProofExpires i s).stu = s.stu := by
  simp only [closeProofExpires]; (repeat' split) <;> simp [*, forEach_stu]
@[simp] theorem closeProofExpires_tt (i : Nat) : (closeProofExpires i s).tt = s.tt := by
  simp only [closeProofExpires]; (repeat' split) <;> simp [*, forEach_tt]
@[simp] theorem closeProofExpires_mau (i : Nat) : (closeProofExpires i s).mau = s.mau := by
  simp only [closeProofExpires]; (repeat' split) <;> simp [*, forEach_mau]
@[simp] theorem dwellExpires_outer : (dwellExpires s).outer = s.outer := by
  simp only [dwellExpires]; (repeat' split) <;> simp [*, forEach_outer]
@[simp] theorem dwellExpires_lgp : (dwellExpires s).lgp = s.lgp := by
  simp only [dwellExpires]; (repeat' split) <;> simp [*, forEach_lgp]
@[simp] theorem dwellExpires_stu : (dwellExpires s).stu = s.stu := by
  simp only [dwellExpires]; (repeat' split) <;> simp [*, forEach_stu]
@[simp] theorem dwellExpires_tt : (dwellExpires s).tt = s.tt := by
  simp only [dwellExpires]; (repeat' split) <;> simp [*, forEach_tt]
@[simp] theorem dwellExpires_mau : (dwellExpires s).mau = s.mau := by
  simp only [dwellExpires]; (repeat' split) <;> simp [*, forEach_mau]
@[simp] theorem raiseUnproven_outer (i : Nat) : (raiseUnproven i s).outer = s.outer := by
  simp only [raiseUnproven]; (repeat' split) <;> simp [*, forEach_outer]
@[simp] theorem raiseUnproven_lgp (i : Nat) : (raiseUnproven i s).lgp = s.lgp := by
  simp only [raiseUnproven]; (repeat' split) <;> simp [*, forEach_lgp]
@[simp] theorem raiseUnproven_stu (i : Nat) : (raiseUnproven i s).stu = s.stu := by
  simp only [raiseUnproven]; (repeat' split) <;> simp [*, forEach_stu]
@[simp] theorem raiseUnproven_dc (i : Nat) : (raiseUnproven i s).dc = s.dc := by
  simp only [raiseUnproven]; (repeat' split) <;> simp [*, forEach_dc]
@[simp] theorem raiseUnproven_tt (i : Nat) : (raiseUnproven i s).tt = s.tt := by
  simp only [raiseUnproven]; (repeat' split) <;> simp [*, forEach_tt]
@[simp] theorem raiseUnproven_mau (i : Nat) : (raiseUnproven i s).mau = s.mau := by
  simp only [raiseUnproven]; (repeat' split) <;> simp [*, forEach_mau]
@[simp] theorem leaveAutomaticDoors_outer : (leaveAutomaticDoors s).outer = s.outer := by
  simp [leaveAutomaticDoors, forEach_outer]
@[simp] theorem leaveAutomaticDoors_lgp : (leaveAutomaticDoors s).lgp = s.lgp := by
  simp [leaveAutomaticDoors, forEach_lgp]
@[simp] theorem leaveAutomaticDoors_stu : (leaveAutomaticDoors s).stu = s.stu := by
  simp [leaveAutomaticDoors, forEach_stu]
@[simp] theorem leaveAutomaticDoors_hc : (leaveAutomaticDoors s).hc = s.hc := by
  simp [leaveAutomaticDoors, forEach_hc]
@[simp] theorem leaveAutomaticDoors_bl : (leaveAutomaticDoors s).bl = s.bl := by
  simp [leaveAutomaticDoors, forEach_bl]
@[simp] theorem leaveAutomaticDoors_bpu : (leaveAutomaticDoors s).bpu = s.bpu := by
  simp [leaveAutomaticDoors, forEach_bpu]
@[simp] theorem leaveAutomaticDoors_tt : (leaveAutomaticDoors s).tt = s.tt := by
  simp [leaveAutomaticDoors, forEach_tt]
@[simp] theorem leaveAutomaticDoors_gqu : (leaveAutomaticDoors s).gqu = s.gqu := by
  simp [leaveAutomaticDoors, forEach_gqu]
@[simp] theorem leaveAutomaticDoors_mau : (leaveAutomaticDoors s).mau = s.mau := by
  simp [leaveAutomaticDoors, forEach_mau]
@[simp] theorem leaveAutomaticDoors_ft : (leaveAutomaticDoors s).ft = s.ft := by
  simp [leaveAutomaticDoors, forEach_ft]
@[simp] theorem writeAmendment_outer (n : Nat) (crossing : Bool) (a : Amendment) : (writeAmendment n crossing a s).outer = s.outer := by
  simp [writeAmendment, forEach_outer]
@[simp] theorem writeAmendment_lgp (n : Nat) (crossing : Bool) (a : Amendment) : (writeAmendment n crossing a s).lgp = s.lgp := by
  simp [writeAmendment, forEach_lgp]
@[simp] theorem writeAmendment_stu (n : Nat) (crossing : Bool) (a : Amendment) : (writeAmendment n crossing a s).stu = s.stu := by
  simp [writeAmendment, forEach_stu]
@[simp] theorem writeAmendment_bl (n : Nat) (crossing : Bool) (a : Amendment) : (writeAmendment n crossing a s).bl = s.bl := by
  simp [writeAmendment, forEach_bl]
@[simp] theorem writeAmendment_bpu (n : Nat) (crossing : Bool) (a : Amendment) : (writeAmendment n crossing a s).bpu = s.bpu := by
  simp [writeAmendment, forEach_bpu]
@[simp] theorem writeAmendment_dc (n : Nat) (crossing : Bool) (a : Amendment) : (writeAmendment n crossing a s).dc = s.dc := by
  simp [writeAmendment, forEach_dc]
@[simp] theorem writeAmendment_tt (n : Nat) (crossing : Bool) (a : Amendment) : (writeAmendment n crossing a s).tt = s.tt := by
  simp [writeAmendment, forEach_tt]
@[simp] theorem writeAmendment_gqu (n : Nat) (crossing : Bool) (a : Amendment) : (writeAmendment n crossing a s).gqu = s.gqu := by
  simp [writeAmendment, forEach_gqu]
@[simp] theorem writeAmendment_mau (n : Nat) (crossing : Bool) (a : Amendment) : (writeAmendment n crossing a s).mau = s.mau := by
  simp [writeAmendment, forEach_mau]
@[simp] theorem writeAmendment_ft (n : Nat) (crossing : Bool) (a : Amendment) : (writeAmendment n crossing a s).ft = s.ft := by
  simp [writeAmendment, forEach_ft]
@[simp] theorem applyPending_outer (n : Nat) (crossing : Bool) : (applyPending n crossing s).outer = s.outer := by
  simp only [applyPending]; (repeat' split) <;> simp [*, forEach_outer]
@[simp] theorem applyPending_lgp (n : Nat) (crossing : Bool) : (applyPending n crossing s).lgp = s.lgp := by
  simp only [applyPending]; (repeat' split) <;> simp [*, forEach_lgp]
@[simp] theorem applyPending_stu (n : Nat) (crossing : Bool) : (applyPending n crossing s).stu = s.stu := by
  simp only [applyPending]; (repeat' split) <;> simp [*, forEach_stu]
@[simp] theorem applyPending_bl (n : Nat) (crossing : Bool) : (applyPending n crossing s).bl = s.bl := by
  simp only [applyPending]; (repeat' split) <;> simp [*, forEach_bl]
@[simp] theorem applyPending_bpu (n : Nat) (crossing : Bool) : (applyPending n crossing s).bpu = s.bpu := by
  simp only [applyPending]; (repeat' split) <;> simp [*, forEach_bpu]
@[simp] theorem applyPending_dc (n : Nat) (crossing : Bool) : (applyPending n crossing s).dc = s.dc := by
  simp only [applyPending]; (repeat' split) <;> simp [*, forEach_dc]
@[simp] theorem applyPending_tt (n : Nat) (crossing : Bool) : (applyPending n crossing s).tt = s.tt := by
  simp only [applyPending]; (repeat' split) <;> simp [*, forEach_tt]
@[simp] theorem applyPending_gqu (n : Nat) (crossing : Bool) : (applyPending n crossing s).gqu = s.gqu := by
  simp only [applyPending]; (repeat' split) <;> simp [*, forEach_gqu]
@[simp] theorem applyPending_mau (n : Nat) (crossing : Bool) : (applyPending n crossing s).mau = s.mau := by
  simp only [applyPending]; (repeat' split) <;> simp [*, forEach_mau]
@[simp] theorem applyPending_ft (n : Nat) (crossing : Bool) : (applyPending n crossing s).ft = s.ft := by
  simp only [applyPending]; (repeat' split) <;> simp [*, forEach_ft]
@[simp] theorem applyIdle_outer (before : State) (n : Nat) : (applyIdle before n s).outer = s.outer := by
  simp only [applyIdle]; (repeat' split) <;> simp [*, forEach_outer]
@[simp] theorem applyIdle_lgp (before : State) (n : Nat) : (applyIdle before n s).lgp = s.lgp := by
  simp only [applyIdle]; (repeat' split) <;> simp [*, forEach_lgp]
@[simp] theorem applyIdle_stu (before : State) (n : Nat) : (applyIdle before n s).stu = s.stu := by
  simp only [applyIdle]; (repeat' split) <;> simp [*, forEach_stu]
@[simp] theorem applyIdle_bl (before : State) (n : Nat) : (applyIdle before n s).bl = s.bl := by
  simp only [applyIdle]; (repeat' split) <;> simp [*, forEach_bl]
@[simp] theorem applyIdle_bpu (before : State) (n : Nat) : (applyIdle before n s).bpu = s.bpu := by
  simp only [applyIdle]; (repeat' split) <;> simp [*, forEach_bpu]
@[simp] theorem applyIdle_dc (before : State) (n : Nat) : (applyIdle before n s).dc = s.dc := by
  simp only [applyIdle]; (repeat' split) <;> simp [*, forEach_dc]
@[simp] theorem applyIdle_tt (before : State) (n : Nat) : (applyIdle before n s).tt = s.tt := by
  simp only [applyIdle]; (repeat' split) <;> simp [*, forEach_tt]
@[simp] theorem applyIdle_gqu (before : State) (n : Nat) : (applyIdle before n s).gqu = s.gqu := by
  simp only [applyIdle]; (repeat' split) <;> simp [*, forEach_gqu]
@[simp] theorem applyIdle_mau (before : State) (n : Nat) : (applyIdle before n s).mau = s.mau := by
  simp only [applyIdle]; (repeat' split) <;> simp [*, forEach_mau]
@[simp] theorem applyIdle_ft (before : State) (n : Nat) : (applyIdle before n s).ft = s.ft := by
  simp only [applyIdle]; (repeat' split) <;> simp [*, forEach_ft]
@[simp] theorem applyIdleAll_outer (before : State) : (applyIdleAll before s).outer = s.outer := by
  simp [applyIdleAll, forEach_outer]
@[simp] theorem applyIdleAll_lgp (before : State) : (applyIdleAll before s).lgp = s.lgp := by
  simp [applyIdleAll, forEach_lgp]
@[simp] theorem applyIdleAll_stu (before : State) : (applyIdleAll before s).stu = s.stu := by
  simp [applyIdleAll, forEach_stu]
@[simp] theorem applyIdleAll_bl (before : State) : (applyIdleAll before s).bl = s.bl := by
  simp [applyIdleAll, forEach_bl]
@[simp] theorem applyIdleAll_bpu (before : State) : (applyIdleAll before s).bpu = s.bpu := by
  simp [applyIdleAll, forEach_bpu]
@[simp] theorem applyIdleAll_dc (before : State) : (applyIdleAll before s).dc = s.dc := by
  simp [applyIdleAll, forEach_dc]
@[simp] theorem applyIdleAll_tt (before : State) : (applyIdleAll before s).tt = s.tt := by
  simp [applyIdleAll, forEach_tt]
@[simp] theorem applyIdleAll_gqu (before : State) : (applyIdleAll before s).gqu = s.gqu := by
  simp [applyIdleAll, forEach_gqu]
@[simp] theorem applyIdleAll_mau (before : State) : (applyIdleAll before s).mau = s.mau := by
  simp [applyIdleAll, forEach_mau]
@[simp] theorem applyIdleAll_ft (before : State) : (applyIdleAll before s).ft = s.ft := by
  simp [applyIdleAll, forEach_ft]
@[simp] theorem judgeCrossing_outer (xOld : Int) : (judgeCrossing xOld s).outer = s.outer := by
  simp only [judgeCrossing]; (repeat' split) <;> simp [*, forEach_outer]
@[simp] theorem judgeCrossing_lgp (xOld : Int) : (judgeCrossing xOld s).lgp = s.lgp := by
  simp only [judgeCrossing]; (repeat' split) <;> simp [*, forEach_lgp]
@[simp] theorem judgeCrossing_stu (xOld : Int) : (judgeCrossing xOld s).stu = s.stu := by
  simp only [judgeCrossing]; (repeat' split) <;> simp [*, forEach_stu]
@[simp] theorem judgeCrossing_bl (xOld : Int) : (judgeCrossing xOld s).bl = s.bl := by
  simp only [judgeCrossing]; (repeat' split) <;> simp [*, forEach_bl]
@[simp] theorem judgeCrossing_bpu (xOld : Int) : (judgeCrossing xOld s).bpu = s.bpu := by
  simp only [judgeCrossing]; (repeat' split) <;> simp [*, forEach_bpu]
@[simp] theorem judgeCrossing_dc (xOld : Int) : (judgeCrossing xOld s).dc = s.dc := by
  simp only [judgeCrossing]; (repeat' split) <;> simp [*, forEach_dc]
@[simp] theorem judgeCrossing_tt (xOld : Int) : (judgeCrossing xOld s).tt = s.tt := by
  simp only [judgeCrossing]; (repeat' split) <;> simp [*, forEach_tt]
@[simp] theorem judgeCrossing_gqu (xOld : Int) : (judgeCrossing xOld s).gqu = s.gqu := by
  simp only [judgeCrossing]; (repeat' split) <;> simp [*, forEach_gqu]
@[simp] theorem judgeCrossing_mau (xOld : Int) : (judgeCrossing xOld s).mau = s.mau := by
  simp only [judgeCrossing]; (repeat' split) <;> simp [*, forEach_mau]
@[simp] theorem judgeCrossing_ft (xOld : Int) : (judgeCrossing xOld s).ft = s.ft := by
  simp only [judgeCrossing]; (repeat' split) <;> simp [*, forEach_ft]
@[simp] theorem enterWarning_outer : (enterWarning s).outer = s.outer := by
  simp [enterWarning, forEach_outer]
@[simp] theorem enterWarning_lgp : (enterWarning s).lgp = s.lgp := by
  simp [enterWarning, forEach_lgp]
@[simp] theorem enterWarning_stu : (enterWarning s).stu = s.stu := by
  simp [enterWarning, forEach_stu]
@[simp] theorem enterWarning_bl : (enterWarning s).bl = s.bl := by
  simp [enterWarning, forEach_bl]
@[simp] theorem enterWarning_bpu : (enterWarning s).bpu = s.bpu := by
  simp [enterWarning, forEach_bpu]
@[simp] theorem enterWarning_dc : (enterWarning s).dc = s.dc := by
  simp [enterWarning, forEach_dc]
@[simp] theorem enterWarning_tt : (enterWarning s).tt = s.tt := by
  simp [enterWarning, forEach_tt]
@[simp] theorem enterWarning_gqu : (enterWarning s).gqu = s.gqu := by
  simp [enterWarning, forEach_gqu]
@[simp] theorem enterWarning_mau : (enterWarning s).mau = s.mau := by
  simp [enterWarning, forEach_mau]
@[simp] theorem enterWarning_ft : (enterWarning s).ft = s.ft := by
  simp [enterWarning, forEach_ft]
@[simp] theorem openTrip_outer (target : Option Nat) (d : Dir) : (openTrip target d s).outer = s.outer := by
  simp only [openTrip]; (repeat' split) <;> simp [*, forEach_outer]
@[simp] theorem openTrip_lgp (target : Option Nat) (d : Dir) : (openTrip target d s).lgp = s.lgp := by
  simp only [openTrip]; (repeat' split) <;> simp [*, forEach_lgp]
@[simp] theorem openTrip_stu (target : Option Nat) (d : Dir) : (openTrip target d s).stu = s.stu := by
  simp only [openTrip]; (repeat' split) <;> simp [*, forEach_stu]
@[simp] theorem openTrip_bl (target : Option Nat) (d : Dir) : (openTrip target d s).bl = s.bl := by
  simp only [openTrip]; (repeat' split) <;> simp [*, forEach_bl]
@[simp] theorem openTrip_bpu (target : Option Nat) (d : Dir) : (openTrip target d s).bpu = s.bpu := by
  simp only [openTrip]; (repeat' split) <;> simp [*, forEach_bpu]
@[simp] theorem openTrip_dc (target : Option Nat) (d : Dir) : (openTrip target d s).dc = s.dc := by
  simp only [openTrip]; (repeat' split) <;> simp [*, forEach_dc]
@[simp] theorem openTrip_tt (target : Option Nat) (d : Dir) : (openTrip target d s).tt = s.tt := by
  simp only [openTrip]; (repeat' split) <;> simp [*, forEach_tt]
@[simp] theorem openTrip_mau (target : Option Nat) (d : Dir) : (openTrip target d s).mau = s.mau := by
  simp only [openTrip]; (repeat' split) <;> simp [*, forEach_mau]
@[simp] theorem openTrip_ft (target : Option Nat) (d : Dir) : (openTrip target d s).ft = s.ft := by
  simp only [openTrip]; (repeat' split) <;> simp [*, forEach_ft]
@[simp] theorem attempt_outer : (attempt s).outer = s.outer := by
  simp only [attempt]; (repeat' split) <;> simp [*, forEach_outer]
@[simp] theorem attempt_lgp : (attempt s).lgp = s.lgp := by
  simp only [attempt]; (repeat' split) <;> simp [*, forEach_lgp]
@[simp] theorem attempt_stu : (attempt s).stu = s.stu := by
  simp only [attempt]; (repeat' split) <;> simp [*, forEach_stu]
@[simp] theorem attempt_bl : (attempt s).bl = s.bl := by
  simp only [attempt]; (repeat' split) <;> simp [*, forEach_bl]
@[simp] theorem attempt_bpu : (attempt s).bpu = s.bpu := by
  simp only [attempt]; (repeat' split) <;> simp [*, forEach_bpu]
@[simp] theorem attempt_dc : (attempt s).dc = s.dc := by
  simp only [attempt]; (repeat' split) <;> simp [*, forEach_dc]
@[simp] theorem attempt_tt : (attempt s).tt = s.tt := by
  simp only [attempt]; (repeat' split) <;> simp [*, forEach_tt]
@[simp] theorem attempt_mau : (attempt s).mau = s.mau := by
  simp only [attempt]; (repeat' split) <;> simp [*, forEach_mau]
@[simp] theorem attempt_ft : (attempt s).ft = s.ft := by
  simp only [attempt]; (repeat' split) <;> simp [*, forEach_ft]
@[simp] theorem warningExpires_outer : (warningExpires s).outer = s.outer := by
  simp [warningExpires, forEach_outer]
@[simp] theorem warningExpires_lgp : (warningExpires s).lgp = s.lgp := by
  simp [warningExpires, forEach_lgp]
@[simp] theorem warningExpires_stu : (warningExpires s).stu = s.stu := by
  simp [warningExpires, forEach_stu]
@[simp] theorem warningExpires_bpu : (warningExpires s).bpu = s.bpu := by
  simp [warningExpires, forEach_bpu]
@[simp] theorem warningExpires_dc : (warningExpires s).dc = s.dc := by
  simp [warningExpires, forEach_dc]
@[simp] theorem warningExpires_tt : (warningExpires s).tt = s.tt := by
  simp [warningExpires, forEach_tt]
@[simp] theorem warningExpires_gqu : (warningExpires s).gqu = s.gqu := by
  simp [warningExpires, forEach_gqu]
@[simp] theorem warningExpires_mau : (warningExpires s).mau = s.mau := by
  simp [warningExpires, forEach_mau]
@[simp] theorem warningExpires_ft : (warningExpires s).ft = s.ft := by
  simp [warningExpires, forEach_ft]
@[simp] theorem enterRunning_outer : (enterRunning s).outer = s.outer := by
  simp [enterRunning, forEach_outer]
@[simp] theorem enterRunning_lgp : (enterRunning s).lgp = s.lgp := by
  simp [enterRunning, forEach_lgp]
@[simp] theorem enterRunning_stu : (enterRunning s).stu = s.stu := by
  simp [enterRunning, forEach_stu]
@[simp] theorem enterRunning_bl : (enterRunning s).bl = s.bl := by
  simp [enterRunning, forEach_bl]
@[simp] theorem enterRunning_bpu : (enterRunning s).bpu = s.bpu := by
  simp [enterRunning, forEach_bpu]
@[simp] theorem enterRunning_dc : (enterRunning s).dc = s.dc := by
  simp [enterRunning, forEach_dc]
@[simp] theorem enterRunning_tt : (enterRunning s).tt = s.tt := by
  simp [enterRunning, forEach_tt]
@[simp] theorem enterRunning_gqu : (enterRunning s).gqu = s.gqu := by
  simp [enterRunning, forEach_gqu]
@[simp] theorem enterRunning_mau : (enterRunning s).mau = s.mau := by
  simp [enterRunning, forEach_mau]
@[simp] theorem enterRunning_ft : (enterRunning s).ft = s.ft := by
  simp [enterRunning, forEach_ft]
@[simp] theorem judgeApproach_outer : (judgeApproach s).outer = s.outer := by
  simp only [judgeApproach]; (repeat' split) <;> simp [*, forEach_outer]
@[simp] theorem judgeApproach_lgp : (judgeApproach s).lgp = s.lgp := by
  simp only [judgeApproach]; (repeat' split) <;> simp [*, forEach_lgp]
@[simp] theorem judgeApproach_stu : (judgeApproach s).stu = s.stu := by
  simp only [judgeApproach]; (repeat' split) <;> simp [*, forEach_stu]
@[simp] theorem judgeApproach_bl : (judgeApproach s).bl = s.bl := by
  simp only [judgeApproach]; (repeat' split) <;> simp [*, forEach_bl]
@[simp] theorem judgeApproach_bpu : (judgeApproach s).bpu = s.bpu := by
  simp only [judgeApproach]; (repeat' split) <;> simp [*, forEach_bpu]
@[simp] theorem judgeApproach_dc : (judgeApproach s).dc = s.dc := by
  simp only [judgeApproach]; (repeat' split) <;> simp [*, forEach_dc]
@[simp] theorem judgeApproach_tt : (judgeApproach s).tt = s.tt := by
  simp only [judgeApproach]; (repeat' split) <;> simp [*, forEach_tt]
@[simp] theorem judgeApproach_gqu : (judgeApproach s).gqu = s.gqu := by
  simp only [judgeApproach]; (repeat' split) <;> simp [*, forEach_gqu]
@[simp] theorem judgeApproach_mau : (judgeApproach s).mau = s.mau := by
  simp only [judgeApproach]; (repeat' split) <;> simp [*, forEach_mau]
@[simp] theorem judgeApproach_ft : (judgeApproach s).ft = s.ft := by
  simp only [judgeApproach]; (repeat' split) <;> simp [*, forEach_ft]
@[simp] theorem commitTrip_outer (t : TripRec) : (commitTrip t s).outer = s.outer := by
  simp [commitTrip, forEach_outer]
@[simp] theorem commitTrip_lgp (t : TripRec) : (commitTrip t s).lgp = s.lgp := by
  simp [commitTrip, forEach_lgp]
@[simp] theorem commitTrip_stu (t : TripRec) : (commitTrip t s).stu = s.stu := by
  simp [commitTrip, forEach_stu]
@[simp] theorem commitTrip_bl (t : TripRec) : (commitTrip t s).bl = s.bl := by
  simp [commitTrip, forEach_bl]
@[simp] theorem commitTrip_bpu (t : TripRec) : (commitTrip t s).bpu = s.bpu := by
  simp [commitTrip, forEach_bpu]
@[simp] theorem commitTrip_dc (t : TripRec) : (commitTrip t s).dc = s.dc := by
  simp [commitTrip, forEach_dc]
@[simp] theorem commitTrip_tt (t : TripRec) : (commitTrip t s).tt = s.tt := by
  simp [commitTrip, forEach_tt]
@[simp] theorem commitTrip_mau (t : TripRec) : (commitTrip t s).mau = s.mau := by
  simp [commitTrip, forEach_mau]
@[simp] theorem commitTrip_ft (t : TripRec) : (commitTrip t s).ft = s.ft := by
  simp [commitTrip, forEach_ft]
@[simp] theorem judgeCommit_outer : (judgeCommit s).outer = s.outer := by
  simp only [judgeCommit]; (repeat' split) <;> simp [*, forEach_outer]
@[simp] theorem judgeCommit_lgp : (judgeCommit s).lgp = s.lgp := by
  simp only [judgeCommit]; (repeat' split) <;> simp [*, forEach_lgp]
@[simp] theorem judgeCommit_stu : (judgeCommit s).stu = s.stu := by
  simp only [judgeCommit]; (repeat' split) <;> simp [*, forEach_stu]
@[simp] theorem judgeCommit_bl : (judgeCommit s).bl = s.bl := by
  simp only [judgeCommit]; (repeat' split) <;> simp [*, forEach_bl]
@[simp] theorem judgeCommit_bpu : (judgeCommit s).bpu = s.bpu := by
  simp only [judgeCommit]; (repeat' split) <;> simp [*, forEach_bpu]
@[simp] theorem judgeCommit_dc : (judgeCommit s).dc = s.dc := by
  simp only [judgeCommit]; (repeat' split) <;> simp [*, forEach_dc]
@[simp] theorem judgeCommit_tt : (judgeCommit s).tt = s.tt := by
  simp only [judgeCommit]; (repeat' split) <;> simp [*, forEach_tt]
@[simp] theorem judgeCommit_mau : (judgeCommit s).mau = s.mau := by
  simp only [judgeCommit]; (repeat' split) <;> simp [*, forEach_mau]
@[simp] theorem judgeCommit_ft : (judgeCommit s).ft = s.ft := by
  simp only [judgeCommit]; (repeat' split) <;> simp [*, forEach_ft]
@[simp] theorem judgePairSeen_outer (before : Option Nat) : (judgePairSeen before s).outer = s.outer := by
  simp only [judgePairSeen]; (repeat' split) <;> simp [*, forEach_outer]
@[simp] theorem judgePairSeen_lgp (before : Option Nat) : (judgePairSeen before s).lgp = s.lgp := by
  simp only [judgePairSeen]; (repeat' split) <;> simp [*, forEach_lgp]
@[simp] theorem judgePairSeen_stu (before : Option Nat) : (judgePairSeen before s).stu = s.stu := by
  simp only [judgePairSeen]; (repeat' split) <;> simp [*, forEach_stu]
@[simp] theorem judgePairSeen_bl (before : Option Nat) : (judgePairSeen before s).bl = s.bl := by
  simp only [judgePairSeen]; (repeat' split) <;> simp [*, forEach_bl]
@[simp] theorem judgePairSeen_bpu (before : Option Nat) : (judgePairSeen before s).bpu = s.bpu := by
  simp only [judgePairSeen]; (repeat' split) <;> simp [*, forEach_bpu]
@[simp] theorem judgePairSeen_dc (before : Option Nat) : (judgePairSeen before s).dc = s.dc := by
  simp only [judgePairSeen]; (repeat' split) <;> simp [*, forEach_dc]
@[simp] theorem judgePairSeen_tt (before : Option Nat) : (judgePairSeen before s).tt = s.tt := by
  simp only [judgePairSeen]; (repeat' split) <;> simp [*, forEach_tt]
@[simp] theorem judgePairSeen_gqu (before : Option Nat) : (judgePairSeen before s).gqu = s.gqu := by
  simp only [judgePairSeen]; (repeat' split) <;> simp [*, forEach_gqu]
@[simp] theorem judgePairSeen_mau (before : Option Nat) : (judgePairSeen before s).mau = s.mau := by
  simp only [judgePairSeen]; (repeat' split) <;> simp [*, forEach_mau]
@[simp] theorem judgePairSeen_ft (before : Option Nat) : (judgePairSeen before s).ft = s.ft := by
  simp only [judgePairSeen]; (repeat' split) <;> simp [*, forEach_ft]
@[simp] theorem park_outer : (park s).outer = s.outer := by
  simp [park, forEach_outer]
@[simp] theorem park_lgp : (park s).lgp = s.lgp := by
  simp [park, forEach_lgp]
@[simp] theorem park_stu : (park s).stu = s.stu := by
  simp [park, forEach_stu]
@[simp] theorem park_bpu : (park s).bpu = s.bpu := by
  simp [park, forEach_bpu]
@[simp] theorem park_dc : (park s).dc = s.dc := by
  simp [park, forEach_dc]
@[simp] theorem park_tt : (park s).tt = s.tt := by
  simp [park, forEach_tt]
@[simp] theorem park_gqu : (park s).gqu = s.gqu := by
  simp [park, forEach_gqu]
@[simp] theorem park_mau : (park s).mau = s.mau := by
  simp [park, forEach_mau]
@[simp] theorem park_ft : (park s).ft = s.ft := by
  simp [park, forEach_ft]
@[simp] theorem headFrom_outer (k : Nat) : (headFrom k s).outer = s.outer := by
  simp only [headFrom]; (repeat' split) <;> simp
@[simp] theorem headFrom_lgp (k : Nat) : (headFrom k s).lgp = s.lgp := by
  simp only [headFrom]; (repeat' split) <;> simp
@[simp] theorem headFrom_stu (k : Nat) : (headFrom k s).stu = s.stu := by
  simp only [headFrom]; (repeat' split) <;> simp
@[simp] theorem headFrom_bl (k : Nat) : (headFrom k s).bl = s.bl := by
  simp only [headFrom]; (repeat' split) <;> simp
@[simp] theorem headFrom_bpu (k : Nat) : (headFrom k s).bpu = s.bpu := by
  simp only [headFrom]; (repeat' split) <;> simp
@[simp] theorem headFrom_dc (k : Nat) : (headFrom k s).dc = s.dc := by
  simp only [headFrom]; (repeat' split) <;> simp
@[simp] theorem headFrom_tt (k : Nat) : (headFrom k s).tt = s.tt := by
  simp only [headFrom]; (repeat' split) <;> simp
@[simp] theorem headFrom_gqu (k : Nat) : (headFrom k s).gqu = s.gqu := by
  simp only [headFrom]; (repeat' split) <;> simp
@[simp] theorem headFrom_mau (k : Nat) : (headFrom k s).mau = s.mau := by
  simp only [headFrom]; (repeat' split) <;> simp
@[simp] theorem headFrom_ft (k : Nat) : (headFrom k s).ft = s.ft := by
  simp only [headFrom]; (repeat' split) <;> simp
@[simp] theorem followHeading_outer : (followHeading s).outer = s.outer := by
  simp only [followHeading]; split <;> simp
@[simp] theorem followHeading_lgp : (followHeading s).lgp = s.lgp := by
  simp only [followHeading]; split <;> simp
@[simp] theorem followHeading_stu : (followHeading s).stu = s.stu := by
  simp only [followHeading]; split <;> simp
@[simp] theorem followHeading_bl : (followHeading s).bl = s.bl := by
  simp only [followHeading]; split <;> simp
@[simp] theorem followHeading_bpu : (followHeading s).bpu = s.bpu := by
  simp only [followHeading]; split <;> simp
@[simp] theorem followHeading_dc : (followHeading s).dc = s.dc := by
  simp only [followHeading]; split <;> simp
@[simp] theorem followHeading_tt : (followHeading s).tt = s.tt := by
  simp only [followHeading]; split <;> simp
@[simp] theorem followHeading_gqu : (followHeading s).gqu = s.gqu := by
  simp only [followHeading]; split <;> simp
@[simp] theorem followHeading_mau : (followHeading s).mau = s.mau := by
  simp only [followHeading]; split <;> simp
@[simp] theorem followHeading_ft : (followHeading s).ft = s.ft := by
  simp only [followHeading]; split <;> simp
@[simp] theorem arrive_outer (k : Nat) : (arrive k s).outer = s.outer := by
  simp [arrive, forEach_outer]
@[simp] theorem arrive_lgp (k : Nat) : (arrive k s).lgp = s.lgp := by
  simp [arrive, forEach_lgp]
@[simp] theorem arrive_stu (k : Nat) : (arrive k s).stu = s.stu := by
  simp [arrive, forEach_stu]
@[simp] theorem arrive_bpu (k : Nat) : (arrive k s).bpu = s.bpu := by
  simp [arrive, forEach_bpu]
@[simp] theorem arrive_dc (k : Nat) : (arrive k s).dc = s.dc := by
  simp [arrive, forEach_dc]
@[simp] theorem arrive_tt (k : Nat) : (arrive k s).tt = s.tt := by
  simp [arrive, forEach_tt]
@[simp] theorem arrive_gqu (k : Nat) : (arrive k s).gqu = s.gqu := by
  simp [arrive, forEach_gqu]
@[simp] theorem arrive_mau (k : Nat) : (arrive k s).mau = s.mau := by
  simp [arrive, forEach_mau]
@[simp] theorem arrive_ft (k : Nat) : (arrive k s).ft = s.ft := by
  simp [arrive, forEach_ft]
@[simp] theorem overrun_outer : (overrun s).outer = s.outer := by
  simp [overrun, forEach_outer]
@[simp] theorem overrun_lgp : (overrun s).lgp = s.lgp := by
  simp [overrun, forEach_lgp]
@[simp] theorem overrun_stu : (overrun s).stu = s.stu := by
  simp [overrun, forEach_stu]
@[simp] theorem overrun_bpu : (overrun s).bpu = s.bpu := by
  simp [overrun, forEach_bpu]
@[simp] theorem overrun_dc : (overrun s).dc = s.dc := by
  simp [overrun, forEach_dc]
@[simp] theorem overrun_tt : (overrun s).tt = s.tt := by
  simp [overrun, forEach_tt]
@[simp] theorem overrun_mau : (overrun s).mau = s.mau := by
  simp [overrun, forEach_mau]
@[simp] theorem overrun_ft : (overrun s).ft = s.ft := by
  simp [overrun, forEach_ft]
@[simp] theorem missStop_outer (t : TripRec) (k : Nat) : (missStop t k s).outer = s.outer := by
  simp only [missStop]; (repeat' split) <;> simp [*, forEach_outer]
@[simp] theorem missStop_lgp (t : TripRec) (k : Nat) : (missStop t k s).lgp = s.lgp := by
  simp only [missStop]; (repeat' split) <;> simp [*, forEach_lgp]
@[simp] theorem missStop_stu (t : TripRec) (k : Nat) : (missStop t k s).stu = s.stu := by
  simp only [missStop]; (repeat' split) <;> simp [*, forEach_stu]
@[simp] theorem missStop_dc (t : TripRec) (k : Nat) : (missStop t k s).dc = s.dc := by
  simp only [missStop]; (repeat' split) <;> simp [*, forEach_dc]
@[simp] theorem missStop_tt (t : TripRec) (k : Nat) : (missStop t k s).tt = s.tt := by
  simp only [missStop]; (repeat' split) <;> simp [*, forEach_tt]
@[simp] theorem missStop_mau (t : TripRec) (k : Nat) : (missStop t k s).mau = s.mau := by
  simp only [missStop]; (repeat' split) <;> simp [*, forEach_mau]
@[simp] theorem judgeArrival_outer : (judgeArrival s).outer = s.outer := by
  simp only [judgeArrival]; (repeat' split) <;> simp [*, forEach_outer]
@[simp] theorem judgeArrival_lgp : (judgeArrival s).lgp = s.lgp := by
  simp only [judgeArrival]; (repeat' split) <;> simp [*, forEach_lgp]
@[simp] theorem judgeArrival_stu : (judgeArrival s).stu = s.stu := by
  simp only [judgeArrival]; (repeat' split) <;> simp [*, forEach_stu]
@[simp] theorem judgeArrival_dc : (judgeArrival s).dc = s.dc := by
  simp only [judgeArrival]; (repeat' split) <;> simp [*, forEach_dc]
@[simp] theorem judgeArrival_tt : (judgeArrival s).tt = s.tt := by
  simp only [judgeArrival]; (repeat' split) <;> simp [*, forEach_tt]
@[simp] theorem judgeArrival_mau : (judgeArrival s).mau = s.mau := by
  simp only [judgeArrival]; (repeat' split) <;> simp [*, forEach_mau]
@[simp] theorem endStop_outer : (endStop s).outer = s.outer := by
  simp only [endStop]; (repeat' split) <;> simp [*, forEach_outer]
@[simp] theorem endStop_lgp : (endStop s).lgp = s.lgp := by
  simp only [endStop]; (repeat' split) <;> simp [*, forEach_lgp]
@[simp] theorem endStop_stu : (endStop s).stu = s.stu := by
  simp only [endStop]; (repeat' split) <;> simp [*, forEach_stu]
@[simp] theorem endStop_bpu : (endStop s).bpu = s.bpu := by
  simp only [endStop]; (repeat' split) <;> simp [*, forEach_bpu]
@[simp] theorem endStop_dc : (endStop s).dc = s.dc := by
  simp only [endStop]; (repeat' split) <;> simp [*, forEach_dc]
@[simp] theorem endStop_tt : (endStop s).tt = s.tt := by
  simp only [endStop]; (repeat' split) <;> simp [*, forEach_tt]
@[simp] theorem endStop_mau : (endStop s).mau = s.mau := by
  simp only [endStop]; (repeat' split) <;> simp [*, forEach_mau]
@[simp] theorem endStop_ft : (endStop s).ft = s.ft := by
  simp only [endStop]; (repeat' split) <;> simp [*, forEach_ft]
@[simp] theorem haulAtStandstill_outer : (haulAtStandstill s).outer = s.outer := by
  simp only [haulAtStandstill]; (repeat' split) <;> simp [*, forEach_outer]
@[simp] theorem haulAtStandstill_lgp : (haulAtStandstill s).lgp = s.lgp := by
  simp only [haulAtStandstill]; (repeat' split) <;> simp [*, forEach_lgp]
@[simp] theorem haulAtStandstill_stu : (haulAtStandstill s).stu = s.stu := by
  simp only [haulAtStandstill]; (repeat' split) <;> simp [*, forEach_stu]
@[simp] theorem haulAtStandstill_dc : (haulAtStandstill s).dc = s.dc := by
  simp only [haulAtStandstill]; (repeat' split) <;> simp [*, forEach_dc]
@[simp] theorem haulAtStandstill_tt : (haulAtStandstill s).tt = s.tt := by
  simp only [haulAtStandstill]; (repeat' split) <;> simp [*, forEach_tt]
@[simp] theorem haulAtStandstill_mau : (haulAtStandstill s).mau = s.mau := by
  simp only [haulAtStandstill]; (repeat' split) <;> simp [*, forEach_mau]
@[simp] theorem commandDrive_outer : (commandDrive s).outer = s.outer := by
  simp only [commandDrive]; (repeat' split) <;> simp [*, forEach_outer]
@[simp] theorem commandDrive_lgp : (commandDrive s).lgp = s.lgp := by
  simp only [commandDrive]; (repeat' split) <;> simp [*, forEach_lgp]
@[simp] theorem commandDrive_stu : (commandDrive s).stu = s.stu := by
  simp only [commandDrive]; (repeat' split) <;> simp [*, forEach_stu]
@[simp] theorem commandDrive_bl : (commandDrive s).bl = s.bl := by
  simp only [commandDrive]; (repeat' split) <;> simp [*, forEach_bl]
@[simp] theorem commandDrive_bpu : (commandDrive s).bpu = s.bpu := by
  simp only [commandDrive]; (repeat' split) <;> simp [*, forEach_bpu]
@[simp] theorem commandDrive_dc : (commandDrive s).dc = s.dc := by
  simp only [commandDrive]; (repeat' split) <;> simp [*, forEach_dc]
@[simp] theorem commandDrive_tt : (commandDrive s).tt = s.tt := by
  simp only [commandDrive]; (repeat' split) <;> simp [*, forEach_tt]
@[simp] theorem commandDrive_gqu : (commandDrive s).gqu = s.gqu := by
  simp only [commandDrive]; (repeat' split) <;> simp [*, forEach_gqu]
@[simp] theorem commandDrive_mau : (commandDrive s).mau = s.mau := by
  simp only [commandDrive]; (repeat' split) <;> simp [*, forEach_mau]
@[simp] theorem commandDrive_ft : (commandDrive s).ft = s.ft := by
  simp only [commandDrive]; (repeat' split) <;> simp [*, forEach_ft]
@[simp] theorem followTopSpeed_outer : (followTopSpeed s).outer = s.outer := by
  simp only [followTopSpeed]; (repeat' split) <;> simp [*, forEach_outer]
@[simp] theorem followTopSpeed_lgp : (followTopSpeed s).lgp = s.lgp := by
  simp only [followTopSpeed]; (repeat' split) <;> simp [*, forEach_lgp]
@[simp] theorem followTopSpeed_stu : (followTopSpeed s).stu = s.stu := by
  simp only [followTopSpeed]; (repeat' split) <;> simp [*, forEach_stu]
@[simp] theorem followTopSpeed_bl : (followTopSpeed s).bl = s.bl := by
  simp only [followTopSpeed]; (repeat' split) <;> simp [*, forEach_bl]
@[simp] theorem followTopSpeed_bpu : (followTopSpeed s).bpu = s.bpu := by
  simp only [followTopSpeed]; (repeat' split) <;> simp [*, forEach_bpu]
@[simp] theorem followTopSpeed_dc : (followTopSpeed s).dc = s.dc := by
  simp only [followTopSpeed]; (repeat' split) <;> simp [*, forEach_dc]
@[simp] theorem followTopSpeed_tt : (followTopSpeed s).tt = s.tt := by
  simp only [followTopSpeed]; (repeat' split) <;> simp [*, forEach_tt]
@[simp] theorem followTopSpeed_gqu : (followTopSpeed s).gqu = s.gqu := by
  simp only [followTopSpeed]; (repeat' split) <;> simp [*, forEach_gqu]
@[simp] theorem followTopSpeed_mau : (followTopSpeed s).mau = s.mau := by
  simp only [followTopSpeed]; (repeat' split) <;> simp [*, forEach_mau]
@[simp] theorem followTopSpeed_ft : (followTopSpeed s).ft = s.ft := by
  simp only [followTopSpeed]; (repeat' split) <;> simp [*, forEach_ft]
@[simp] theorem beginCycle_outer : (beginCycle s).outer = s.outer := by
  simp only [beginCycle]; (repeat' split) <;> simp [*, forEach_outer]
@[simp] theorem beginCycle_lgp : (beginCycle s).lgp = s.lgp := by
  simp only [beginCycle]; (repeat' split) <;> simp [*, forEach_lgp]
@[simp] theorem beginCycle_stu : (beginCycle s).stu = s.stu := by
  simp only [beginCycle]; (repeat' split) <;> simp [*, forEach_stu]
@[simp] theorem beginCycle_bl : (beginCycle s).bl = s.bl := by
  simp only [beginCycle]; (repeat' split) <;> simp [*, forEach_bl]
@[simp] theorem beginCycle_bpu : (beginCycle s).bpu = s.bpu := by
  simp only [beginCycle]; (repeat' split) <;> simp [*, forEach_bpu]
@[simp] theorem beginCycle_tt : (beginCycle s).tt = s.tt := by
  simp only [beginCycle]; (repeat' split) <;> simp [*, forEach_tt]
@[simp] theorem beginCycle_mau : (beginCycle s).mau = s.mau := by
  simp only [beginCycle]; (repeat' split) <;> simp [*, forEach_mau]
@[simp] theorem beginCycle_ft : (beginCycle s).ft = s.ft := by
  simp only [beginCycle]; (repeat' split) <;> simp [*, forEach_ft]
@[simp] theorem enterAutomatic_outer : (enterAutomatic s).outer = s.outer := by
  simp only [enterAutomatic]; (repeat' split) <;> simp [*, forEach_outer]
@[simp] theorem enterAutomatic_lgp : (enterAutomatic s).lgp = s.lgp := by
  simp only [enterAutomatic]; (repeat' split) <;> simp [*, forEach_lgp]
@[simp] theorem enterAutomatic_stu : (enterAutomatic s).stu = s.stu := by
  simp only [enterAutomatic]; (repeat' split) <;> simp [*, forEach_stu]
@[simp] theorem enterAutomatic_bl : (enterAutomatic s).bl = s.bl := by
  simp only [enterAutomatic]; (repeat' split) <;> simp [*, forEach_bl]
@[simp] theorem enterAutomatic_bpu : (enterAutomatic s).bpu = s.bpu := by
  simp only [enterAutomatic]; (repeat' split) <;> simp [*, forEach_bpu]
@[simp] theorem enterAutomatic_tt : (enterAutomatic s).tt = s.tt := by
  simp only [enterAutomatic]; (repeat' split) <;> simp [*, forEach_tt]
@[simp] theorem enterAutomatic_mau : (enterAutomatic s).mau = s.mau := by
  simp only [enterAutomatic]; (repeat' split) <;> simp [*, forEach_mau]
@[simp] theorem enterAutomatic_ft : (enterAutomatic s).ft = s.ft := by
  simp only [enterAutomatic]; (repeat' split) <;> simp [*, forEach_ft]
@[simp] theorem followDoors_outer : (followDoors s).outer = s.outer := by
  simp only [followDoors]; (repeat' split) <;> simp [*, forEach_outer]
@[simp] theorem followDoors_lgp : (followDoors s).lgp = s.lgp := by
  simp only [followDoors]; (repeat' split) <;> simp [*, forEach_lgp]
@[simp] theorem followDoors_stu : (followDoors s).stu = s.stu := by
  simp only [followDoors]; (repeat' split) <;> simp [*, forEach_stu]
@[simp] theorem followDoors_bl : (followDoors s).bl = s.bl := by
  simp only [followDoors]; (repeat' split) <;> simp [*, forEach_bl]
@[simp] theorem followDoors_bpu : (followDoors s).bpu = s.bpu := by
  simp only [followDoors]; (repeat' split) <;> simp [*, forEach_bpu]
@[simp] theorem followDoors_dc : (followDoors s).dc = s.dc := by
  simp only [followDoors]; (repeat' split) <;> simp [*, forEach_dc]
@[simp] theorem followDoors_tt : (followDoors s).tt = s.tt := by
  simp only [followDoors]; (repeat' split) <;> simp [*, forEach_tt]
@[simp] theorem followDoors_gqu : (followDoors s).gqu = s.gqu := by
  simp only [followDoors]; (repeat' split) <;> simp [*, forEach_gqu]
@[simp] theorem followDoors_mau : (followDoors s).mau = s.mau := by
  simp only [followDoors]; (repeat' split) <;> simp [*, forEach_mau]
@[simp] theorem followDoors_ft : (followDoors s).ft = s.ft := by
  simp only [followDoors]; (repeat' split) <;> simp [*, forEach_ft]
@[simp] theorem leaveAutomaticCycle_outer : (leaveAutomaticCycle s).outer = s.outer := by
  simp [leaveAutomaticCycle, forEach_outer]
@[simp] theorem leaveAutomaticCycle_lgp : (leaveAutomaticCycle s).lgp = s.lgp := by
  simp [leaveAutomaticCycle, forEach_lgp]
@[simp] theorem leaveAutomaticCycle_stu : (leaveAutomaticCycle s).stu = s.stu := by
  simp [leaveAutomaticCycle, forEach_stu]
@[simp] theorem leaveAutomaticCycle_bl : (leaveAutomaticCycle s).bl = s.bl := by
  simp [leaveAutomaticCycle, forEach_bl]
@[simp] theorem leaveAutomaticCycle_bpu : (leaveAutomaticCycle s).bpu = s.bpu := by
  simp [leaveAutomaticCycle, forEach_bpu]
@[simp] theorem leaveAutomaticCycle_dc : (leaveAutomaticCycle s).dc = s.dc := by
  simp [leaveAutomaticCycle, forEach_dc]
@[simp] theorem leaveAutomaticCycle_tt : (leaveAutomaticCycle s).tt = s.tt := by
  simp [leaveAutomaticCycle, forEach_tt]
@[simp] theorem leaveAutomaticCycle_gqu : (leaveAutomaticCycle s).gqu = s.gqu := by
  simp [leaveAutomaticCycle, forEach_gqu]
@[simp] theorem leaveAutomaticCycle_mau : (leaveAutomaticCycle s).mau = s.mau := by
  simp [leaveAutomaticCycle, forEach_mau]
@[simp] theorem leaveAutomaticCycle_ft : (leaveAutomaticCycle s).ft = s.ft := by
  simp [leaveAutomaticCycle, forEach_ft]
@[simp] theorem modCarLine_outer (c : Car) (f : CarLine → CarLine) : (modCarLine c f s).outer = s.outer := by
  simp [modCarLine, forEach_outer]
@[simp] theorem modCarLine_lgp (c : Car) (f : CarLine → CarLine) : (modCarLine c f s).lgp = s.lgp := by
  simp [modCarLine, forEach_lgp]
@[simp] theorem modCarLine_stu (c : Car) (f : CarLine → CarLine) : (modCarLine c f s).stu = s.stu := by
  simp [modCarLine, forEach_stu]
@[simp] theorem modCarLine_bl (c : Car) (f : CarLine → CarLine) : (modCarLine c f s).bl = s.bl := by
  simp [modCarLine, forEach_bl]
@[simp] theorem modCarLine_bpu (c : Car) (f : CarLine → CarLine) : (modCarLine c f s).bpu = s.bpu := by
  simp [modCarLine, forEach_bpu]
@[simp] theorem modCarLine_dc (c : Car) (f : CarLine → CarLine) : (modCarLine c f s).dc = s.dc := by
  simp [modCarLine, forEach_dc]
@[simp] theorem modCarLine_tt (c : Car) (f : CarLine → CarLine) : (modCarLine c f s).tt = s.tt := by
  simp [modCarLine, forEach_tt]
@[simp] theorem modCarLine_gqu (c : Car) (f : CarLine → CarLine) : (modCarLine c f s).gqu = s.gqu := by
  simp [modCarLine, forEach_gqu]
@[simp] theorem modCarLine_mau (c : Car) (f : CarLine → CarLine) : (modCarLine c f s).mau = s.mau := by
  simp [modCarLine, forEach_mau]
@[simp] theorem modCarLine_ft (c : Car) (f : CarLine → CarLine) : (modCarLine c f s).ft = s.ft := by
  simp [modCarLine, forEach_ft]
@[simp] theorem carMessage_outer (c : Car) : (carMessage c s).outer = s.outer := by
  simp only [carMessage]; (repeat' split) <;> simp [*, forEach_outer]
@[simp] theorem carMessage_lgp (c : Car) : (carMessage c s).lgp = s.lgp := by
  simp only [carMessage]; (repeat' split) <;> simp [*, forEach_lgp]
@[simp] theorem carMessage_stu (c : Car) : (carMessage c s).stu = s.stu := by
  simp only [carMessage]; (repeat' split) <;> simp [*, forEach_stu]
@[simp] theorem carMessage_bl (c : Car) : (carMessage c s).bl = s.bl := by
  simp only [carMessage]; (repeat' split) <;> simp [*, forEach_bl]
@[simp] theorem carMessage_bpu (c : Car) : (carMessage c s).bpu = s.bpu := by
  simp only [carMessage]; (repeat' split) <;> simp [*, forEach_bpu]
@[simp] theorem carMessage_tt (c : Car) : (carMessage c s).tt = s.tt := by
  simp only [carMessage]; (repeat' split) <;> simp [*, forEach_tt]
@[simp] theorem carMessage_gqu (c : Car) : (carMessage c s).gqu = s.gqu := by
  simp only [carMessage]; (repeat' split) <;> simp [*, forEach_gqu]
@[simp] theorem carMessage_mau (c : Car) : (carMessage c s).mau = s.mau := by
  simp only [carMessage]; (repeat' split) <;> simp [*, forEach_mau]
@[simp] theorem trackBrakeReport_outer (c : Car) (applied : Bool) : (trackBrakeReport c applied s).outer = s.outer := by
  simp only [trackBrakeReport]; (repeat' split) <;> simp [*, forEach_outer]
@[simp] theorem trackBrakeReport_lgp (c : Car) (applied : Bool) : (trackBrakeReport c applied s).lgp = s.lgp := by
  simp only [trackBrakeReport]; (repeat' split) <;> simp [*, forEach_lgp]
@[simp] theorem trackBrakeReport_stu (c : Car) (applied : Bool) : (trackBrakeReport c applied s).stu = s.stu := by
  simp only [trackBrakeReport]; (repeat' split) <;> simp [*, forEach_stu]
@[simp] theorem trackBrakeReport_tt (c : Car) (applied : Bool) : (trackBrakeReport c applied s).tt = s.tt := by
  simp only [trackBrakeReport]; (repeat' split) <;> simp [*, forEach_tt]
@[simp] theorem trackBrakeReport_mau (c : Car) (applied : Bool) : (trackBrakeReport c applied s).mau = s.mau := by
  simp only [trackBrakeReport]; (repeat' split) <;> simp [*, forEach_mau]
@[simp] theorem buttonReport_outer (c : Car) (pressed : Bool) : (buttonReport c pressed s).outer = s.outer := by
  simp only [buttonReport]; (repeat' split) <;> simp [*, forEach_outer]
@[simp] theorem buttonReport_lgp (c : Car) (pressed : Bool) : (buttonReport c pressed s).lgp = s.lgp := by
  simp only [buttonReport]; (repeat' split) <;> simp [*, forEach_lgp]
@[simp] theorem buttonReport_stu (c : Car) (pressed : Bool) : (buttonReport c pressed s).stu = s.stu := by
  simp only [buttonReport]; (repeat' split) <;> simp [*, forEach_stu]
@[simp] theorem buttonReport_tt (c : Car) (pressed : Bool) : (buttonReport c pressed s).tt = s.tt := by
  simp only [buttonReport]; (repeat' split) <;> simp [*, forEach_tt]
@[simp] theorem stopRequest_outer (c : Car) (station : Nat) : (stopRequest c station s).outer = s.outer := by
  simp only [stopRequest]; (repeat' split) <;> simp [*, forEach_outer]
@[simp] theorem stopRequest_lgp (c : Car) (station : Nat) : (stopRequest c station s).lgp = s.lgp := by
  simp only [stopRequest]; (repeat' split) <;> simp [*, forEach_lgp]
@[simp] theorem stopRequest_stu (c : Car) (station : Nat) : (stopRequest c station s).stu = s.stu := by
  simp only [stopRequest]; (repeat' split) <;> simp [*, forEach_stu]
@[simp] theorem stopRequest_bl (c : Car) (station : Nat) : (stopRequest c station s).bl = s.bl := by
  simp only [stopRequest]; (repeat' split) <;> simp [*, forEach_bl]
@[simp] theorem stopRequest_bpu (c : Car) (station : Nat) : (stopRequest c station s).bpu = s.bpu := by
  simp only [stopRequest]; (repeat' split) <;> simp [*, forEach_bpu]
@[simp] theorem stopRequest_tt (c : Car) (station : Nat) : (stopRequest c station s).tt = s.tt := by
  simp only [stopRequest]; (repeat' split) <;> simp [*, forEach_tt]
@[simp] theorem stopRequest_gqu (c : Car) (station : Nat) : (stopRequest c station s).gqu = s.gqu := by
  simp only [stopRequest]; (repeat' split) <;> simp [*, forEach_gqu]
@[simp] theorem stopRequest_mau (c : Car) (station : Nat) : (stopRequest c station s).mau = s.mau := by
  simp only [stopRequest]; (repeat' split) <;> simp [*, forEach_mau]
@[simp] theorem carSilent_outer (c : Car) : (carSilent c s).outer = s.outer := by
  simp [carSilent, forEach_outer]
@[simp] theorem carSilent_lgp (c : Car) : (carSilent c s).lgp = s.lgp := by
  simp [carSilent, forEach_lgp]
@[simp] theorem carSilent_stu (c : Car) : (carSilent c s).stu = s.stu := by
  simp [carSilent, forEach_stu]
@[simp] theorem carSilent_dc (c : Car) : (carSilent c s).dc = s.dc := by
  simp [carSilent, forEach_dc]
@[simp] theorem carSilent_tt (c : Car) : (carSilent c s).tt = s.tt := by
  simp [carSilent, forEach_tt]
@[simp] theorem carSilent_mau (c : Car) : (carSilent c s).mau = s.mau := by
  simp [carSilent, forEach_mau]
@[simp] theorem discardTrips_outer : (discardTrips s).outer = s.outer := by
  simp [discardTrips, forEach_outer]
@[simp] theorem discardTrips_lgp : (discardTrips s).lgp = s.lgp := by
  simp [discardTrips, forEach_lgp]
@[simp] theorem discardTrips_stu : (discardTrips s).stu = s.stu := by
  simp [discardTrips, forEach_stu]
@[simp] theorem discardTrips_bl : (discardTrips s).bl = s.bl := by
  simp [discardTrips, forEach_bl]
@[simp] theorem discardTrips_bpu : (discardTrips s).bpu = s.bpu := by
  simp [discardTrips, forEach_bpu]
@[simp] theorem discardTrips_dc : (discardTrips s).dc = s.dc := by
  simp [discardTrips, forEach_dc]
@[simp] theorem discardTrips_tt : (discardTrips s).tt = s.tt := by
  simp [discardTrips, forEach_tt]
@[simp] theorem discardTrips_gqu : (discardTrips s).gqu = s.gqu := by
  simp [discardTrips, forEach_gqu]
@[simp] theorem discardTrips_mau : (discardTrips s).mau = s.mau := by
  simp [discardTrips, forEach_mau]
@[simp] theorem discardTrips_ft : (discardTrips s).ft = s.ft := by
  simp [discardTrips, forEach_ft]
@[simp] theorem restartHaul_outer : (restartHaul s).outer = s.outer := by
  simp only [restartHaul]; (repeat' split) <;> simp [*, forEach_outer]
@[simp] theorem restartHaul_lgp : (restartHaul s).lgp = s.lgp := by
  simp only [restartHaul]; (repeat' split) <;> simp [*, forEach_lgp]
@[simp] theorem restartHaul_stu : (restartHaul s).stu = s.stu := by
  simp only [restartHaul]; (repeat' split) <;> simp [*, forEach_stu]
@[simp] theorem restartHaul_dc : (restartHaul s).dc = s.dc := by
  simp only [restartHaul]; (repeat' split) <;> simp [*, forEach_dc]
@[simp] theorem restartHaul_tt : (restartHaul s).tt = s.tt := by
  simp only [restartHaul]; (repeat' split) <;> simp [*, forEach_tt]
@[simp] theorem restartHaul_mau : (restartHaul s).mau = s.mau := by
  simp only [restartHaul]; (repeat' split) <;> simp [*, forEach_mau]
@[simp] theorem restartHaul_ft : (restartHaul s).ft = s.ft := by
  simp only [restartHaul]; (repeat' split) <;> simp [*, forEach_ft]
@[simp] theorem restartCarFaults_outer : (restartCarFaults s).outer = s.outer := by
  simp only [restartCarFaults]; (repeat' split) <;> simp [*, forEach_outer]
@[simp] theorem restartCarFaults_lgp : (restartCarFaults s).lgp = s.lgp := by
  simp only [restartCarFaults]; (repeat' split) <;> simp [*, forEach_lgp]
@[simp] theorem restartCarFaults_stu : (restartCarFaults s).stu = s.stu := by
  simp only [restartCarFaults]; (repeat' split) <;> simp [*, forEach_stu]
@[simp] theorem restartCarFaults_dc : (restartCarFaults s).dc = s.dc := by
  simp only [restartCarFaults]; (repeat' split) <;> simp [*, forEach_dc]
@[simp] theorem restartCarFaults_tt : (restartCarFaults s).tt = s.tt := by
  simp only [restartCarFaults]; (repeat' split) <;> simp [*, forEach_tt]
@[simp] theorem restartCarFaults_mau : (restartCarFaults s).mau = s.mau := by
  simp only [restartCarFaults]; (repeat' split) <;> simp [*, forEach_mau]

end Sys2Proof.Machine
end

