-- ==== Sys2Proof/Laws/Brakes.lean ====
section
/-!
SUPPORT. What the operations of the brake proving unit, of the brake ladder, of MAU and of the restarts leave alone.
-/

namespace Sys2Proof.Machine

variable (s : State)

@[simp] theorem modTest_outer (f : Test → Test) : (modTest f s).outer = s.outer := by
  simp [modTest]
@[simp] theorem modTest_lgp (f : Test → Test) : (modTest f s).lgp = s.lgp := by
  simp [modTest]
@[simp] theorem modTest_stu (f : Test → Test) : (modTest f s).stu = s.stu := by
  simp [modTest]
@[simp] theorem modTest_hc (f : Test → Test) : (modTest f s).hc = s.hc := by
  simp [modTest]
@[simp] theorem modTest_bl (f : Test → Test) : (modTest f s).bl = s.bl := by
  simp [modTest]
@[simp] theorem modTest_dc (f : Test → Test) : (modTest f s).dc = s.dc := by
  simp [modTest]
@[simp] theorem modTest_tt (f : Test → Test) : (modTest f s).tt = s.tt := by
  simp [modTest]
@[simp] theorem modTest_gqu (f : Test → Test) : (modTest f s).gqu = s.gqu := by
  simp [modTest]
@[simp] theorem modTest_mau (f : Test → Test) : (modTest f s).mau = s.mau := by
  simp [modTest]
@[simp] theorem modTest_ft (f : Test → Test) : (modTest f s).ft = s.ft := by
  simp [modTest]
@[simp] theorem beginPulse_outer (t : Test) : (beginPulse t s).outer = s.outer := by
  simp [beginPulse]
@[simp] theorem beginPulse_lgp (t : Test) : (beginPulse t s).lgp = s.lgp := by
  simp [beginPulse]
@[simp] theorem beginPulse_stu (t : Test) : (beginPulse t s).stu = s.stu := by
  simp [beginPulse]
@[simp] theorem beginPulse_bl (t : Test) : (beginPulse t s).bl = s.bl := by
  simp [beginPulse]
@[simp] theorem beginPulse_dc (t : Test) : (beginPulse t s).dc = s.dc := by
  simp [beginPulse]
@[simp] theorem beginPulse_tt (t : Test) : (beginPulse t s).tt = s.tt := by
  simp [beginPulse]
@[simp] theorem beginPulse_gqu (t : Test) : (beginPulse t s).gqu = s.gqu := by
  simp [beginPulse]
@[simp] theorem beginPulse_mau (t : Test) : (beginPulse t s).mau = s.mau := by
  simp [beginPulse]
@[simp] theorem beginPulse_ft (t : Test) : (beginPulse t s).ft = s.ft := by
  simp [beginPulse]
@[simp] theorem endPulse_outer (t : Test) (pass : Bool) : (endPulse t pass s).outer = s.outer := by
  simp only [endPulse]; (repeat' split) <;> simp [*]
@[simp] theorem endPulse_lgp (t : Test) (pass : Bool) : (endPulse t pass s).lgp = s.lgp := by
  simp only [endPulse]; (repeat' split) <;> simp [*]
@[simp] theorem endPulse_stu (t : Test) (pass : Bool) : (endPulse t pass s).stu = s.stu := by
  simp only [endPulse]; (repeat' split) <;> simp [*]
@[simp] theorem endPulse_dc (t : Test) (pass : Bool) : (endPulse t pass s).dc = s.dc := by
  simp only [endPulse]; (repeat' split) <;> simp [*]
@[simp] theorem endPulse_tt (t : Test) (pass : Bool) : (endPulse t pass s).tt = s.tt := by
  simp only [endPulse]; (repeat' split) <;> simp [*]
@[simp] theorem endPulse_mau (t : Test) (pass : Bool) : (endPulse t pass s).mau = s.mau := by
  simp only [endPulse]; (repeat' split) <;> simp [*]
@[simp] theorem judgeSlip_outer : (judgeSlip s).outer = s.outer := by
  simp only [judgeSlip]; (repeat' split) <;> simp [*]
@[simp] theorem judgeSlip_lgp : (judgeSlip s).lgp = s.lgp := by
  simp only [judgeSlip]; (repeat' split) <;> simp [*]
@[simp] theorem judgeSlip_stu : (judgeSlip s).stu = s.stu := by
  simp only [judgeSlip]; (repeat' split) <;> simp [*]
@[simp] theorem judgeSlip_dc : (judgeSlip s).dc = s.dc := by
  simp only [judgeSlip]; (repeat' split) <;> simp [*]
@[simp] theorem judgeSlip_tt : (judgeSlip s).tt = s.tt := by
  simp only [judgeSlip]; (repeat' split) <;> simp [*]
@[simp] theorem judgeSlip_mau : (judgeSlip s).mau = s.mau := by
  simp only [judgeSlip]; (repeat' split) <;> simp [*]
@[simp] theorem pulseExpires_outer : (pulseExpires s).outer = s.outer := by
  simp only [pulseExpires]; (repeat' split) <;> simp [*]
@[simp] theorem pulseExpires_lgp : (pulseExpires s).lgp = s.lgp := by
  simp only [pulseExpires]; (repeat' split) <;> simp [*]
@[simp] theorem pulseExpires_stu : (pulseExpires s).stu = s.stu := by
  simp only [pulseExpires]; (repeat' split) <;> simp [*]
@[simp] theorem pulseExpires_dc : (pulseExpires s).dc = s.dc := by
  simp only [pulseExpires]; (repeat' split) <;> simp [*]
@[simp] theorem pulseExpires_tt : (pulseExpires s).tt = s.tt := by
  simp only [pulseExpires]; (repeat' split) <;> simp [*]
@[simp] theorem pulseExpires_mau : (pulseExpires s).mau = s.mau := by
  simp only [pulseExpires]; (repeat' split) <;> simp [*]
@[simp] theorem abortTest_outer : (abortTest s).outer = s.outer := by
  simp only [abortTest]; (repeat' split) <;> simp [*]
@[simp] theorem abortTest_lgp : (abortTest s).lgp = s.lgp := by
  simp only [abortTest]; (repeat' split) <;> simp [*]
@[simp] theorem abortTest_stu : (abortTest s).stu = s.stu := by
  simp only [abortTest]; (repeat' split) <;> simp [*]
@[simp] theorem abortTest_dc : (abortTest s).dc = s.dc := by
  simp only [abortTest]; (repeat' split) <;> simp [*]
@[simp] theorem abortTest_tt : (abortTest s).tt = s.tt := by
  simp only [abortTest]; (repeat' split) <;> simp [*]
@[simp] theorem abortTest_gqu : (abortTest s).gqu = s.gqu := by
  simp only [abortTest]; (repeat' split) <;> simp [*]
@[simp] theorem abortTest_mau : (abortTest s).mau = s.mau := by
  simp only [abortTest]; (repeat' split) <;> simp [*]
@[simp] theorem abortTest_ft : (abortTest s).ft = s.ft := by
  simp only [abortTest]; (repeat' split) <;> simp [*]
@[simp] theorem restartTest_outer : (restartTest s).outer = s.outer := by
  simp only [restartTest]; (repeat' split) <;> simp [*]
@[simp] theorem restartTest_lgp : (restartTest s).lgp = s.lgp := by
  simp only [restartTest]; (repeat' split) <;> simp [*]
@[simp] theorem restartTest_stu : (restartTest s).stu = s.stu := by
  simp only [restartTest]; (repeat' split) <;> simp [*]
@[simp] theorem restartTest_dc : (restartTest s).dc = s.dc := by
  simp only [restartTest]; (repeat' split) <;> simp [*]
@[simp] theorem restartTest_tt : (restartTest s).tt = s.tt := by
  simp only [restartTest]; (repeat' split) <;> simp [*]
@[simp] theorem restartTest_gqu : (restartTest s).gqu = s.gqu := by
  simp only [restartTest]; (repeat' split) <;> simp [*]
@[simp] theorem restartTest_mau : (restartTest s).mau = s.mau := by
  simp only [restartTest]; (repeat' split) <;> simp [*]
@[simp] theorem restartTest_ft : (restartTest s).ft = s.ft := by
  simp only [restartTest]; (repeat' split) <;> simp [*]
@[simp] theorem startTest_outer (b : Brake) (d : Dir) (torque duration : Nat) : (startTest b d torque duration s).outer = s.outer := by
  simp only [startTest]; (repeat' split) <;> simp [*]
@[simp] theorem startTest_lgp (b : Brake) (d : Dir) (torque duration : Nat) : (startTest b d torque duration s).lgp = s.lgp := by
  simp only [startTest]; (repeat' split) <;> simp [*]
@[simp] theorem startTest_stu (b : Brake) (d : Dir) (torque duration : Nat) : (startTest b d torque duration s).stu = s.stu := by
  simp only [startTest]; (repeat' split) <;> simp [*]
@[simp] theorem startTest_dc (b : Brake) (d : Dir) (torque duration : Nat) : (startTest b d torque duration s).dc = s.dc := by
  simp only [startTest]; (repeat' split) <;> simp [*]
@[simp] theorem startTest_tt (b : Brake) (d : Dir) (torque duration : Nat) : (startTest b d torque duration s).tt = s.tt := by
  simp only [startTest]; (repeat' split) <;> simp [*]
@[simp] theorem startTest_gqu (b : Brake) (d : Dir) (torque duration : Nat) : (startTest b d torque duration s).gqu = s.gqu := by
  simp only [startTest]; (repeat' split) <;> simp [*]
@[simp] theorem startTest_mau (b : Brake) (d : Dir) (torque duration : Nat) : (startTest b d torque duration s).mau = s.mau := by
  simp only [startTest]; (repeat' split) <;> simp [*]
@[simp] theorem startTest_ft (b : Brake) (d : Dir) (torque duration : Nat) : (startTest b d torque duration s).ft = s.ft := by
  simp only [startTest]; (repeat' split) <;> simp [*]
@[simp] theorem finishTest_outer : (finishTest s).outer = s.outer := by
  simp [finishTest]
@[simp] theorem finishTest_lgp : (finishTest s).lgp = s.lgp := by
  simp [finishTest]
@[simp] theorem finishTest_stu : (finishTest s).stu = s.stu := by
  simp [finishTest]
@[simp] theorem finishTest_bl : (finishTest s).bl = s.bl := by
  simp [finishTest]
@[simp] theorem finishTest_dc : (finishTest s).dc = s.dc := by
  simp [finishTest]
@[simp] theorem finishTest_tt : (finishTest s).tt = s.tt := by
  simp [finishTest]
@[simp] theorem finishTest_gqu : (finishTest s).gqu = s.gqu := by
  simp [finishTest]
@[simp] theorem finishTest_mau : (finishTest s).mau = s.mau := by
  simp [finishTest]
@[simp] theorem finishTest_ft : (finishTest s).ft = s.ft := by
  simp [finishTest]
@[simp] theorem feedback_outer (b : Brake) (x : FeedbackInput) (v : Bool) : (feedback b x v s).outer = s.outer := by
  simp only [feedback]; (repeat' split) <;> simp [*]
@[simp] theorem feedback_lgp (b : Brake) (x : FeedbackInput) (v : Bool) : (feedback b x v s).lgp = s.lgp := by
  simp only [feedback]; (repeat' split) <;> simp [*]
@[simp] theorem feedback_stu (b : Brake) (x : FeedbackInput) (v : Bool) : (feedback b x v s).stu = s.stu := by
  simp only [feedback]; (repeat' split) <;> simp [*]
@[simp] theorem feedback_dc (b : Brake) (x : FeedbackInput) (v : Bool) : (feedback b x v s).dc = s.dc := by
  simp only [feedback]; (repeat' split) <;> simp [*]
@[simp] theorem feedback_tt (b : Brake) (x : FeedbackInput) (v : Bool) : (feedback b x v s).tt = s.tt := by
  simp only [feedback]; (repeat' split) <;> simp [*]
@[simp] theorem feedback_mau (b : Brake) (x : FeedbackInput) (v : Bool) : (feedback b x v s).mau = s.mau := by
  simp only [feedback]; (repeat' split) <;> simp [*]
@[simp] theorem releaseProofExpires_outer (b : Brake) : (releaseProofExpires b s).outer = s.outer := by
  simp [releaseProofExpires]
@[simp] theorem releaseProofExpires_lgp (b : Brake) : (releaseProofExpires b s).lgp = s.lgp := by
  simp [releaseProofExpires]
@[simp] theorem releaseProofExpires_stu (b : Brake) : (releaseProofExpires b s).stu = s.stu := by
  simp [releaseProofExpires]
@[simp] theorem releaseProofExpires_dc (b : Brake) : (releaseProofExpires b s).dc = s.dc := by
  simp [releaseProofExpires]
@[simp] theorem releaseProofExpires_tt (b : Brake) : (releaseProofExpires b s).tt = s.tt := by
  simp [releaseProofExpires]
@[simp] theorem releaseProofExpires_mau (b : Brake) : (releaseProofExpires b s).mau = s.mau := by
  simp [releaseProofExpires]
@[simp] theorem applyProofExpires_outer (b : Brake) : (applyProofExpires b s).outer = s.outer := by
  simp [applyProofExpires]
@[simp] theorem applyProofExpires_lgp (b : Brake) : (applyProofExpires b s).lgp = s.lgp := by
  simp [applyProofExpires]
@[simp] theorem applyProofExpires_stu (b : Brake) : (applyProofExpires b s).stu = s.stu := by
  simp [applyProofExpires]
@[simp] theorem applyProofExpires_dc (b : Brake) : (applyProofExpires b s).dc = s.dc := by
  simp [applyProofExpires]
@[simp] theorem applyProofExpires_tt (b : Brake) : (applyProofExpires b s).tt = s.tt := by
  simp [applyProofExpires]
@[simp] theorem applyProofExpires_mau (b : Brake) : (applyProofExpires b s).mau = s.mau := by
  simp [applyProofExpires]
@[simp] theorem proveBrake_outer (b : Brake) : (proveBrake b s).outer = s.outer := by
  simp only [proveBrake]; (repeat' split) <;> simp [*]
@[simp] theorem proveBrake_lgp (b : Brake) : (proveBrake b s).lgp = s.lgp := by
  simp only [proveBrake]; (repeat' split) <;> simp [*]
@[simp] theorem proveBrake_stu (b : Brake) : (proveBrake b s).stu = s.stu := by
  simp only [proveBrake]; (repeat' split) <;> simp [*]
@[simp] theorem proveBrake_hc (b : Brake) : (proveBrake b s).hc = s.hc := by
  simp only [proveBrake]; (repeat' split) <;> simp [*]
@[simp] theorem proveBrake_bpu (b : Brake) : (proveBrake b s).bpu = s.bpu := by
  simp only [proveBrake]; (repeat' split) <;> simp [*]
@[simp] theorem proveBrake_dc (b : Brake) : (proveBrake b s).dc = s.dc := by
  simp only [proveBrake]; (repeat' split) <;> simp [*]
@[simp] theorem proveBrake_tt (b : Brake) : (proveBrake b s).tt = s.tt := by
  simp only [proveBrake]; (repeat' split) <;> simp [*]
@[simp] theorem proveBrake_gqu (b : Brake) : (proveBrake b s).gqu = s.gqu := by
  simp only [proveBrake]; (repeat' split) <;> simp [*]
@[simp] theorem proveBrake_mau (b : Brake) : (proveBrake b s).mau = s.mau := by
  simp only [proveBrake]; (repeat' split) <;> simp [*]
@[simp] theorem tellProven_outer : (tellProven s).outer = s.outer := by
  simp only [tellProven]; (repeat' split) <;> simp [*]
@[simp] theorem tellProven_lgp : (tellProven s).lgp = s.lgp := by
  simp only [tellProven]; (repeat' split) <;> simp [*]
@[simp] theorem tellProven_stu : (tellProven s).stu = s.stu := by
  simp only [tellProven]; (repeat' split) <;> simp [*]
@[simp] theorem tellProven_bl : (tellProven s).bl = s.bl := by
  simp only [tellProven]; (repeat' split) <;> simp [*]
@[simp] theorem tellProven_dc : (tellProven s).dc = s.dc := by
  simp only [tellProven]; (repeat' split) <;> simp [*]
@[simp] theorem tellProven_tt : (tellProven s).tt = s.tt := by
  simp only [tellProven]; (repeat' split) <;> simp [*]
@[simp] theorem tellProven_gqu : (tellProven s).gqu = s.gqu := by
  simp only [tellProven]; (repeat' split) <;> simp [*]
@[simp] theorem tellProven_mau : (tellProven s).mau = s.mau := by
  simp only [tellProven]; (repeat' split) <;> simp [*]
@[simp] theorem tellProven_ft : (tellProven s).ft = s.ft := by
  simp only [tellProven]; (repeat' split) <;> simp [*]
@[simp] theorem proveBrakes_outer : (proveBrakes s).outer = s.outer := by
  simp [proveBrakes]
@[simp] theorem proveBrakes_lgp : (proveBrakes s).lgp = s.lgp := by
  simp [proveBrakes]
@[simp] theorem proveBrakes_stu : (proveBrakes s).stu = s.stu := by
  simp [proveBrakes]
@[simp] theorem proveBrakes_dc : (proveBrakes s).dc = s.dc := by
  simp [proveBrakes]
@[simp] theorem proveBrakes_tt : (proveBrakes s).tt = s.tt := by
  simp [proveBrakes]
@[simp] theorem proveBrakes_gqu : (proveBrakes s).gqu = s.gqu := by
  simp [proveBrakes]
@[simp] theorem proveBrakes_mau : (proveBrakes s).mau = s.mau := by
  simp [proveBrakes]
@[simp] theorem driveFault_outer : (driveFault s).outer = s.outer := by
  simp only [driveFault]; (repeat' split) <;> simp [*]
@[simp] theorem driveFault_lgp : (driveFault s).lgp = s.lgp := by
  simp only [driveFault]; (repeat' split) <;> simp [*]
@[simp] theorem driveFault_stu : (driveFault s).stu = s.stu := by
  simp only [driveFault]; (repeat' split) <;> simp [*]
@[simp] theorem driveFault_dc : (driveFault s).dc = s.dc := by
  simp only [driveFault]; (repeat' split) <;> simp [*]
@[simp] theorem driveFault_tt : (driveFault s).tt = s.tt := by
  simp only [driveFault]; (repeat' split) <;> simp [*]
@[simp] theorem driveFault_mau : (driveFault s).mau = s.mau := by
  simp only [driveFault]; (repeat' split) <;> simp [*]
@[simp] theorem driveReport_outer (ready : Bool) : (driveReport ready s).outer = s.outer := by
  simp only [driveReport]; (repeat' split) <;> simp [*]
@[simp] theorem driveReport_lgp (ready : Bool) : (driveReport ready s).lgp = s.lgp := by
  simp only [driveReport]; (repeat' split) <;> simp [*]
@[simp] theorem driveReport_stu (ready : Bool) : (driveReport ready s).stu = s.stu := by
  simp only [driveReport]; (repeat' split) <;> simp [*]
@[simp] theorem driveReport_dc (ready : Bool) : (driveReport ready s).dc = s.dc := by
  simp only [driveReport]; (repeat' split) <;> simp [*]
@[simp] theorem driveReport_tt (ready : Bool) : (driveReport ready s).tt = s.tt := by
  simp only [driveReport]; (repeat' split) <;> simp [*]
@[simp] theorem driveReport_mau (ready : Bool) : (driveReport ready s).mau = s.mau := by
  simp only [driveReport]; (repeat' split) <;> simp [*]
@[simp] theorem modStop_outer (f : StopRec → StopRec) : (modStop f s).outer = s.outer := by
  simp [modStop]
@[simp] theorem modStop_lgp (f : StopRec → StopRec) : (modStop f s).lgp = s.lgp := by
  simp [modStop]
@[simp] theorem modStop_stu (f : StopRec → StopRec) : (modStop f s).stu = s.stu := by
  simp [modStop]
@[simp] theorem modStop_hc (f : StopRec → StopRec) : (modStop f s).hc = s.hc := by
  simp [modStop]
@[simp] theorem modStop_bpu (f : StopRec → StopRec) : (modStop f s).bpu = s.bpu := by
  simp [modStop]
@[simp] theorem modStop_dc (f : StopRec → StopRec) : (modStop f s).dc = s.dc := by
  simp [modStop]
@[simp] theorem modStop_tt (f : StopRec → StopRec) : (modStop f s).tt = s.tt := by
  simp [modStop]
@[simp] theorem modStop_gqu (f : StopRec → StopRec) : (modStop f s).gqu = s.gqu := by
  simp [modStop]
@[simp] theorem modStop_mau (f : StopRec → StopRec) : (modStop f s).mau = s.mau := by
  simp [modStop]
@[simp] theorem modStop_ft (f : StopRec → StopRec) : (modStop f s).ft = s.ft := by
  simp [modStop]
@[simp] theorem escalationSample_outer : (escalationSample s).outer = s.outer := by
  simp [escalationSample]
@[simp] theorem escalationSample_lgp : (escalationSample s).lgp = s.lgp := by
  simp [escalationSample]
@[simp] theorem escalationSample_stu : (escalationSample s).stu = s.stu := by
  simp [escalationSample]
@[simp] theorem escalationSample_hc : (escalationSample s).hc = s.hc := by
  simp [escalationSample]
@[simp] theorem escalationSample_bpu : (escalationSample s).bpu = s.bpu := by
  simp [escalationSample]
@[simp] theorem escalationSample_dc : (escalationSample s).dc = s.dc := by
  simp [escalationSample]
@[simp] theorem escalationSample_tt : (escalationSample s).tt = s.tt := by
  simp [escalationSample]
@[simp] theorem escalationSample_gqu : (escalationSample s).gqu = s.gqu := by
  simp [escalationSample]
@[simp] theorem escalationSample_mau : (escalationSample s).mau = s.mau := by
  simp [escalationSample]
@[simp] theorem escalationSample_ft : (escalationSample s).ft = s.ft := by
  simp [escalationSample]
@[simp] theorem escalationCheck_outer (v : Nat) : (escalationCheck v s).outer = s.outer := by
  simp only [escalationCheck]; (repeat' split) <;> simp [*]
@[simp] theorem escalationCheck_lgp (v : Nat) : (escalationCheck v s).lgp = s.lgp := by
  simp only [escalationCheck]; (repeat' split) <;> simp [*]
@[simp] theorem escalationCheck_stu (v : Nat) : (escalationCheck v s).stu = s.stu := by
  simp only [escalationCheck]; (repeat' split) <;> simp [*]
@[simp] theorem escalationCheck_dc (v : Nat) : (escalationCheck v s).dc = s.dc := by
  simp only [escalationCheck]; (repeat' split) <;> simp [*]
@[simp] theorem escalationCheck_tt (v : Nat) : (escalationCheck v s).tt = s.tt := by
  simp only [escalationCheck]; (repeat' split) <;> simp [*]
@[simp] theorem escalationCheck_mau (v : Nat) : (escalationCheck v s).mau = s.mau := by
  simp only [escalationCheck]; (repeat' split) <;> simp [*]
@[simp] theorem restartBrake_outer (b : Brake) : (restartBrake b s).outer = s.outer := by
  simp only [restartBrake]; (repeat' split) <;> simp [*]
@[simp] theorem restartBrake_lgp (b : Brake) : (restartBrake b s).lgp = s.lgp := by
  simp only [restartBrake]; (repeat' split) <;> simp [*]
@[simp] theorem restartBrake_stu (b : Brake) : (restartBrake b s).stu = s.stu := by
  simp only [restartBrake]; (repeat' split) <;> simp [*]
@[simp] theorem restartBrake_dc (b : Brake) : (restartBrake b s).dc = s.dc := by
  simp only [restartBrake]; (repeat' split) <;> simp [*]
@[simp] theorem restartBrake_tt (b : Brake) : (restartBrake b s).tt = s.tt := by
  simp only [restartBrake]; (repeat' split) <;> simp [*]
@[simp] theorem restartBrake_mau (b : Brake) : (restartBrake b s).mau = s.mau := by
  simp only [restartBrake]; (repeat' split) <;> simp [*]
@[simp] theorem restartBrakes_outer : (restartBrakes s).outer = s.outer := by
  simp [restartBrakes]
@[simp] theorem restartBrakes_lgp : (restartBrakes s).lgp = s.lgp := by
  simp [restartBrakes]
@[simp] theorem restartBrakes_stu : (restartBrakes s).stu = s.stu := by
  simp [restartBrakes]
@[simp] theorem restartBrakes_dc : (restartBrakes s).dc = s.dc := by
  simp [restartBrakes]
@[simp] theorem restartBrakes_tt : (restartBrakes s).tt = s.tt := by
  simp [restartBrakes]
@[simp] theorem restartBrakes_mau : (restartBrakes s).mau = s.mau := by
  simp [restartBrakes]
@[simp] theorem startSupervision_outer : (startSupervision s).outer = s.outer := by
  simp [startSupervision]
@[simp] theorem startSupervision_lgp : (startSupervision s).lgp = s.lgp := by
  simp [startSupervision]
@[simp] theorem startSupervision_stu : (startSupervision s).stu = s.stu := by
  simp [startSupervision]
@[simp] theorem startSupervision_hc : (startSupervision s).hc = s.hc := by
  simp [startSupervision]
@[simp] theorem startSupervision_bl : (startSupervision s).bl = s.bl := by
  simp [startSupervision]
@[simp] theorem startSupervision_bpu : (startSupervision s).bpu = s.bpu := by
  simp [startSupervision]
@[simp] theorem startSupervision_dc : (startSupervision s).dc = s.dc := by
  simp [startSupervision]
@[simp] theorem startSupervision_tt : (startSupervision s).tt = s.tt := by
  simp [startSupervision]
@[simp] theorem startSupervision_gqu : (startSupervision s).gqu = s.gqu := by
  simp [startSupervision]
@[simp] theorem startSupervision_ft : (startSupervision s).ft = s.ft := by
  simp [startSupervision]
@[simp] theorem beginStandby_outer : (beginStandby s).outer = s.outer := by
  simp only [beginStandby]; (repeat' split) <;> simp [*]
@[simp] theorem beginStandby_lgp : (beginStandby s).lgp = s.lgp := by
  simp only [beginStandby]; (repeat' split) <;> simp [*]
@[simp] theorem beginStandby_stu : (beginStandby s).stu = s.stu := by
  simp only [beginStandby]; (repeat' split) <;> simp [*]
@[simp] theorem beginStandby_hc : (beginStandby s).hc = s.hc := by
  simp only [beginStandby]; (repeat' split) <;> simp [*]
@[simp] theorem beginStandby_bl : (beginStandby s).bl = s.bl := by
  simp only [beginStandby]; (repeat' split) <;> simp [*]
@[simp] theorem beginStandby_bpu : (beginStandby s).bpu = s.bpu := by
  simp only [beginStandby]; (repeat' split) <;> simp [*]
@[simp] theorem beginStandby_dc : (beginStandby s).dc = s.dc := by
  simp only [beginStandby]; (repeat' split) <;> simp [*]
@[simp] theorem beginStandby_tt : (beginStandby s).tt = s.tt := by
  simp only [beginStandby]; (repeat' split) <;> simp [*]
@[simp] theorem beginStandby_gqu : (beginStandby s).gqu = s.gqu := by
  simp only [beginStandby]; (repeat' split) <;> simp [*]
@[simp] theorem enterOff_outer : (enterOff s).outer = s.outer := by
  simp [enterOff]
@[simp] theorem enterOff_lgp : (enterOff s).lgp = s.lgp := by
  simp [enterOff]
@[simp] theorem enterOff_hc : (enterOff s).hc = s.hc := by
  simp [enterOff]
@[simp] theorem enterOff_bpu : (enterOff s).bpu = s.bpu := by
  simp [enterOff]
@[simp] theorem enterOff_dc : (enterOff s).dc = s.dc := by
  simp [enterOff]
@[simp] theorem enterOff_tt : (enterOff s).tt = s.tt := by
  simp [enterOff]
@[simp] theorem exitOff_outer : (exitOff s).outer = s.outer := by
  simp [exitOff]
@[simp] theorem exitOff_lgp : (exitOff s).lgp = s.lgp := by
  simp [exitOff]
@[simp] theorem exitOff_hc : (exitOff s).hc = s.hc := by
  simp [exitOff]
@[simp] theorem exitOff_bl : (exitOff s).bl = s.bl := by
  simp [exitOff]
@[simp] theorem exitOff_bpu : (exitOff s).bpu = s.bpu := by
  simp [exitOff]
@[simp] theorem exitOff_dc : (exitOff s).dc = s.dc := by
  simp [exitOff]
@[simp] theorem exitOff_tt : (exitOff s).tt = s.tt := by
  simp [exitOff]
@[simp] theorem exitOff_gqu : (exitOff s).gqu = s.gqu := by
  simp [exitOff]
@[simp] theorem exitOff_ft : (exitOff s).ft = s.ft := by
  simp [exitOff]
@[simp] theorem changeMode_outer (m' : LineMode) : (changeMode m' s).outer = s.outer := by
  simp only [changeMode]; (repeat' split) <;> simp [*]
@[simp] theorem changeMode_lgp (m' : LineMode) : (changeMode m' s).lgp = s.lgp := by
  simp only [changeMode]; (repeat' split) <;> simp [*]
@[simp] theorem changeMode_bpu (m' : LineMode) : (changeMode m' s).bpu = s.bpu := by
  simp only [changeMode]; (repeat' split) <;> simp [*]
@[simp] theorem changeMode_tt (m' : LineMode) : (changeMode m' s).tt = s.tt := by
  simp only [changeMode]; (repeat' split) <;> simp [*]
@[simp] theorem takeTiming_outer (p : ParamBody) : (takeTiming p s).outer = s.outer := by
  simp only [takeTiming]; (repeat' split) <;> simp [*]
@[simp] theorem takeTiming_lgp (p : ParamBody) : (takeTiming p s).lgp = s.lgp := by
  simp only [takeTiming]; (repeat' split) <;> simp [*]
@[simp] theorem takeTiming_stu (p : ParamBody) : (takeTiming p s).stu = s.stu := by
  simp only [takeTiming]; (repeat' split) <;> simp [*]
@[simp] theorem takeTiming_bl (p : ParamBody) : (takeTiming p s).bl = s.bl := by
  simp only [takeTiming]; (repeat' split) <;> simp [*]
@[simp] theorem takeTiming_bpu (p : ParamBody) : (takeTiming p s).bpu = s.bpu := by
  simp only [takeTiming]; (repeat' split) <;> simp [*]
@[simp] theorem takeTiming_ft (p : ParamBody) : (takeTiming p s).ft = s.ft := by
  simp only [takeTiming]; (repeat' split) <;> simp [*]
@[simp] theorem takeAll_outer (p : ParamBody) : (takeAll p s).outer = s.outer := by
  simp [takeAll]
@[simp] theorem takeAll_lgp (p : ParamBody) : (takeAll p s).lgp = s.lgp := by
  simp [takeAll]
@[simp] theorem takeAll_stu (p : ParamBody) : (takeAll p s).stu = s.stu := by
  simp [takeAll]
@[simp] theorem takeAll_bl (p : ParamBody) : (takeAll p s).bl = s.bl := by
  simp [takeAll]
@[simp] theorem takeAll_bpu (p : ParamBody) : (takeAll p s).bpu = s.bpu := by
  simp [takeAll]
@[simp] theorem takeAll_dc (p : ParamBody) : (takeAll p s).dc = s.dc := by
  simp [takeAll]
@[simp] theorem takeAll_tt (p : ParamBody) : (takeAll p s).tt = s.tt := by
  simp [takeAll]
@[simp] theorem takeAll_ft (p : ParamBody) : (takeAll p s).ft = s.ft := by
  simp [takeAll]
@[simp] theorem validFrame_outer : (validFrame s).outer = s.outer := by
  simp only [validFrame]; (repeat' split) <;> simp [*]
@[simp] theorem validFrame_lgp : (validFrame s).lgp = s.lgp := by
  simp only [validFrame]; (repeat' split) <;> simp [*]
@[simp] theorem validFrame_stu : (validFrame s).stu = s.stu := by
  simp only [validFrame]; (repeat' split) <;> simp [*]
@[simp] theorem validFrame_hc : (validFrame s).hc = s.hc := by
  simp only [validFrame]; (repeat' split) <;> simp [*]
@[simp] theorem validFrame_bl : (validFrame s).bl = s.bl := by
  simp only [validFrame]; (repeat' split) <;> simp [*]
@[simp] theorem validFrame_bpu : (validFrame s).bpu = s.bpu := by
  simp only [validFrame]; (repeat' split) <;> simp [*]
@[simp] theorem validFrame_dc : (validFrame s).dc = s.dc := by
  simp only [validFrame]; (repeat' split) <;> simp [*]
@[simp] theorem validFrame_tt : (validFrame s).tt = s.tt := by
  simp only [validFrame]; (repeat' split) <;> simp [*]
@[simp] theorem validFrame_gqu : (validFrame s).gqu = s.gqu := by
  simp only [validFrame]; (repeat' split) <;> simp [*]
@[simp] theorem supervisionLoss_outer : (supervisionLoss s).outer = s.outer := by
  simp [supervisionLoss]
@[simp] theorem supervisionLoss_lgp : (supervisionLoss s).lgp = s.lgp := by
  simp [supervisionLoss]
@[simp] theorem supervisionLoss_stu : (supervisionLoss s).stu = s.stu := by
  simp [supervisionLoss]
@[simp] theorem supervisionLoss_dc : (supervisionLoss s).dc = s.dc := by
  simp [supervisionLoss]
@[simp] theorem supervisionLoss_tt : (supervisionLoss s).tt = s.tt := by
  simp [supervisionLoss]
@[simp] theorem standbyEdge_outer (d : Dir) : (standbyEdge d s).outer = s.outer := by
  simp only [standbyEdge]; (repeat' split) <;> simp [*]
@[simp] theorem standbyEdge_lgp (d : Dir) : (standbyEdge d s).lgp = s.lgp := by
  simp only [standbyEdge]; (repeat' split) <;> simp [*]
@[simp] theorem standbyEdge_stu (d : Dir) : (standbyEdge d s).stu = s.stu := by
  simp only [standbyEdge]; (repeat' split) <;> simp [*]
@[simp] theorem standbyEdge_hc (d : Dir) : (standbyEdge d s).hc = s.hc := by
  simp only [standbyEdge]; (repeat' split) <;> simp [*]
@[simp] theorem standbyEdge_bl (d : Dir) : (standbyEdge d s).bl = s.bl := by
  simp only [standbyEdge]; (repeat' split) <;> simp [*]
@[simp] theorem standbyEdge_bpu (d : Dir) : (standbyEdge d s).bpu = s.bpu := by
  simp only [standbyEdge]; (repeat' split) <;> simp [*]
@[simp] theorem standbyEdge_dc (d : Dir) : (standbyEdge d s).dc = s.dc := by
  simp only [standbyEdge]; (repeat' split) <;> simp [*]
@[simp] theorem standbyEdge_tt (d : Dir) : (standbyEdge d s).tt = s.tt := by
  simp only [standbyEdge]; (repeat' split) <;> simp [*]
@[simp] theorem standbyEdge_gqu (d : Dir) : (standbyEdge d s).gqu = s.gqu := by
  simp only [standbyEdge]; (repeat' split) <;> simp [*]
@[simp] theorem standbyEdge_ft (d : Dir) : (standbyEdge d s).ft = s.ft := by
  simp only [standbyEdge]; (repeat' split) <;> simp [*]
/-- A change of the stop of a PARKED haul marks the HAUL key (03 R44). -/
theorem markStop_changed (x : State) (h : x.parkedStop ≠ s.parkedStop) : markStop x s = mark .haul s := by
  simp [markStop, h]

/-- A stop that is the same marks nothing. -/
theorem markStop_same (x : State) (h : x.parkedStop = s.parkedStop) : markStop x s = s := by
  simp [markStop, h]

@[simp] theorem markStop_outer (x : State) : (markStop x s).outer = s.outer := by
  simp only [markStop]; split <;> simp
@[simp] theorem markStop_lgp (x : State) : (markStop x s).lgp = s.lgp := by
  simp only [markStop]; split <;> simp
@[simp] theorem markStop_stu (x : State) : (markStop x s).stu = s.stu := by
  simp only [markStop]; split <;> simp
@[simp] theorem markStop_hc (x : State) : (markStop x s).hc = s.hc := by
  simp only [markStop]; split <;> simp
@[simp] theorem markStop_bl (x : State) : (markStop x s).bl = s.bl := by
  simp only [markStop]; split <;> simp
@[simp] theorem markStop_bpu (x : State) : (markStop x s).bpu = s.bpu := by
  simp only [markStop]; split <;> simp
@[simp] theorem markStop_dc (x : State) : (markStop x s).dc = s.dc := by
  simp only [markStop]; split <;> simp
@[simp] theorem markStop_tt (x : State) : (markStop x s).tt = s.tt := by
  simp only [markStop]; split <;> simp
@[simp] theorem markStop_gqu (x : State) : (markStop x s).gqu = s.gqu := by
  simp only [markStop]; split <;> simp
@[simp] theorem markStop_mau (x : State) : (markStop x s).mau = s.mau := by
  simp only [markStop]; split <;> simp
@[simp] theorem markStop_ft (x : State) : (markStop x s).ft = s.ft := by
  simp only [markStop]; split <;> simp
@[simp] theorem loadLine_outer (r : LineRec) : (loadLine r s).outer = s.outer := by
  simp [loadLine, forEach_outer]
@[simp] theorem loadLine_stu (r : LineRec) : (loadLine r s).stu = s.stu := by
  simp [loadLine, forEach_stu]
@[simp] theorem loadLine_dc (r : LineRec) : (loadLine r s).dc = s.dc := by
  simp [loadLine, forEach_dc]
@[simp] theorem loadLine_tt (r : LineRec) : (loadLine r s).tt = s.tt := by
  simp [loadLine, forEach_tt]
@[simp] theorem loadLine_mau (r : LineRec) : (loadLine r s).mau = s.mau := by
  simp [loadLine, forEach_mau]
@[simp] theorem restartMode_outer : (restartMode s).outer = s.outer := by
  simp only [restartMode]; (repeat' split) <;> simp [*, forEach_outer]
@[simp] theorem restartMode_lgp : (restartMode s).lgp = s.lgp := by
  simp only [restartMode]; (repeat' split) <;> simp [*, forEach_lgp]
@[simp] theorem restartMode_stu : (restartMode s).stu = s.stu := by
  simp only [restartMode]; (repeat' split) <;> simp [*, forEach_stu]
@[simp] theorem restartMode_bl : (restartMode s).bl = s.bl := by
  simp only [restartMode]; (repeat' split) <;> simp [*, forEach_bl]
@[simp] theorem restartMode_bpu : (restartMode s).bpu = s.bpu := by
  simp only [restartMode]; (repeat' split) <;> simp [*, forEach_bpu]
@[simp] theorem restartMode_tt : (restartMode s).tt = s.tt := by
  simp only [restartMode]; (repeat' split) <;> simp [*, forEach_tt]
@[simp] theorem restartMode_gqu : (restartMode s).gqu = s.gqu := by
  simp only [restartMode]; (repeat' split) <;> simp [*, forEach_gqu]
@[simp] theorem restartMode_ft : (restartMode s).ft = s.ft := by
  simp only [restartMode]; (repeat' split) <;> simp [*, forEach_ft]
@[simp] theorem restartNotices_lgp : (restartNotices s).lgp = s.lgp := by
  simp [restartNotices, forEach_lgp]
@[simp] theorem restartNotices_stu : (restartNotices s).stu = s.stu := by
  simp [restartNotices, forEach_stu]
@[simp] theorem restartNotices_hc : (restartNotices s).hc = s.hc := by
  simp [restartNotices, forEach_hc]
@[simp] theorem restartNotices_bl : (restartNotices s).bl = s.bl := by
  simp [restartNotices, forEach_bl]
@[simp] theorem restartNotices_bpu : (restartNotices s).bpu = s.bpu := by
  simp [restartNotices, forEach_bpu]
@[simp] theorem restartNotices_dc : (restartNotices s).dc = s.dc := by
  simp [restartNotices, forEach_dc]
@[simp] theorem restartNotices_tt : (restartNotices s).tt = s.tt := by
  simp [restartNotices, forEach_tt]
@[simp] theorem restartNotices_gqu : (restartNotices s).gqu = s.gqu := by
  simp [restartNotices, forEach_gqu]
@[simp] theorem restartNotices_mau : (restartNotices s).mau = s.mau := by
  simp [restartNotices, forEach_mau]
@[simp] theorem restartNotices_ft : (restartNotices s).ft = s.ft := by
  simp [restartNotices, forEach_ft]
@[simp] theorem emptyFaults_outer : (emptyFaults s).outer = s.outer := by
  simp [emptyFaults, forEach_outer]
@[simp] theorem emptyFaults_lgp : (emptyFaults s).lgp = s.lgp := by
  simp [emptyFaults, forEach_lgp]
@[simp] theorem emptyFaults_stu : (emptyFaults s).stu = s.stu := by
  simp [emptyFaults, forEach_stu]
@[simp] theorem emptyFaults_hc : (emptyFaults s).hc = s.hc := by
  simp [emptyFaults, forEach_hc]
@[simp] theorem emptyFaults_bl : (emptyFaults s).bl = s.bl := by
  simp [emptyFaults, forEach_bl]
@[simp] theorem emptyFaults_bpu : (emptyFaults s).bpu = s.bpu := by
  simp [emptyFaults, forEach_bpu]
@[simp] theorem emptyFaults_dc : (emptyFaults s).dc = s.dc := by
  simp [emptyFaults, forEach_dc]
@[simp] theorem emptyFaults_tt : (emptyFaults s).tt = s.tt := by
  simp [emptyFaults, forEach_tt]
@[simp] theorem emptyFaults_gqu : (emptyFaults s).gqu = s.gqu := by
  simp [emptyFaults, forEach_gqu]
@[simp] theorem emptyFaults_mau : (emptyFaults s).mau = s.mau := by
  simp [emptyFaults, forEach_mau]
@[simp] theorem restartSupervision_outer : (restartSupervision s).outer = s.outer := by
  simp only [restartSupervision]; (repeat' split) <;> simp [*, forEach_outer]
@[simp] theorem restartSupervision_lgp : (restartSupervision s).lgp = s.lgp := by
  simp only [restartSupervision]; (repeat' split) <;> simp [*, forEach_lgp]
@[simp] theorem restartSupervision_stu : (restartSupervision s).stu = s.stu := by
  simp only [restartSupervision]; (repeat' split) <;> simp [*, forEach_stu]
@[simp] theorem restartSupervision_hc : (restartSupervision s).hc = s.hc := by
  simp only [restartSupervision]; (repeat' split) <;> simp [*, forEach_hc]
@[simp] theorem restartSupervision_bl : (restartSupervision s).bl = s.bl := by
  simp only [restartSupervision]; (repeat' split) <;> simp [*, forEach_bl]
@[simp] theorem restartSupervision_bpu : (restartSupervision s).bpu = s.bpu := by
  simp only [restartSupervision]; (repeat' split) <;> simp [*, forEach_bpu]
@[simp] theorem restartSupervision_dc : (restartSupervision s).dc = s.dc := by
  simp only [restartSupervision]; (repeat' split) <;> simp [*, forEach_dc]
@[simp] theorem restartSupervision_tt : (restartSupervision s).tt = s.tt := by
  simp only [restartSupervision]; (repeat' split) <;> simp [*, forEach_tt]
@[simp] theorem restartSupervision_gqu : (restartSupervision s).gqu = s.gqu := by
  simp only [restartSupervision]; (repeat' split) <;> simp [*, forEach_gqu]
@[simp] theorem restartSupervision_ft : (restartSupervision s).ft = s.ft := by
  simp only [restartSupervision]; (repeat' split) <;> simp [*, forEach_ft]
@[simp] theorem resetBrake_outer (b : Brake) : (resetBrake b s).outer = s.outer := by
  simp only [resetBrake]; (repeat' split) <;> simp [*, forEach_outer]
@[simp] theorem resetBrake_lgp (b : Brake) : (resetBrake b s).lgp = s.lgp := by
  simp only [resetBrake]; (repeat' split) <;> simp [*, forEach_lgp]
@[simp] theorem resetBrake_stu (b : Brake) : (resetBrake b s).stu = s.stu := by
  simp only [resetBrake]; (repeat' split) <;> simp [*, forEach_stu]
@[simp] theorem resetBrake_dc (b : Brake) : (resetBrake b s).dc = s.dc := by
  simp only [resetBrake]; (repeat' split) <;> simp [*, forEach_dc]
@[simp] theorem resetBrake_tt (b : Brake) : (resetBrake b s).tt = s.tt := by
  simp only [resetBrake]; (repeat' split) <;> simp [*, forEach_tt]
@[simp] theorem resetBrake_mau (b : Brake) : (resetBrake b s).mau = s.mau := by
  simp only [resetBrake]; (repeat' split) <;> simp [*, forEach_mau]
@[simp] theorem settlePlant_outer : (settlePlant s).outer = s.outer := by
  simp [settlePlant]
@[simp] theorem settlePlant_lgp : (settlePlant s).lgp = s.lgp := by
  simp [settlePlant]
@[simp] theorem settlePlant_dc : (settlePlant s).dc = s.dc := by
  simp [settlePlant]
@[simp] theorem settlePlant_tt : (settlePlant s).tt = s.tt := by
  simp [settlePlant]
@[simp] theorem settlePlant_mau : (settlePlant s).mau = s.mau := by
  simp [settlePlant]
@[simp] theorem settleDoors_outer : (settleDoors s).outer = s.outer := by
  simp [settleDoors]
@[simp] theorem settleDoors_lgp : (settleDoors s).lgp = s.lgp := by
  simp [settleDoors]
@[simp] theorem settleDoors_stu : (settleDoors s).stu = s.stu := by
  simp [settleDoors]
@[simp] theorem settleDoors_hc : (settleDoors s).hc = s.hc := by
  simp [settleDoors]
@[simp] theorem settleDoors_bl : (settleDoors s).bl = s.bl := by
  simp [settleDoors]
@[simp] theorem settleDoors_bpu : (settleDoors s).bpu = s.bpu := by
  simp [settleDoors]
@[simp] theorem settleDoors_tt : (settleDoors s).tt = s.tt := by
  simp [settleDoors]
@[simp] theorem settleDoors_mau : (settleDoors s).mau = s.mau := by
  simp [settleDoors]
@[simp] theorem settleDoors_ft : (settleDoors s).ft = s.ft := by
  simp [settleDoors]

end Sys2Proof.Machine
end

