-- ==== Sys2Proof/Laws/Settle.lean ====
section
/-!
SUPPORT. What the end of every event leaves alone, and what an accepted LINE_SET and a line restart leave
alone: the lemmas over the operations of several blocks.
-/

namespace Sys2Proof.Machine

variable (s : State)

@[simp] theorem newDoors_outer (n : Nat) : (newDoors n s).outer = s.outer := by
  simp only [newDoors]
  rw [forEach_outer raiseUnproven (fun i t => raiseUnproven_outer t i)]
  simp only [modDc_outer, emptySlots_outer]
  rw [forEach_outer _ (fun i t => by (repeat' split) <;> simp)]
@[simp] theorem restartDoors_outer : (restartDoors s).outer = s.outer := by
  simp only [restartDoors]
  rw [forEach_outer _ (fun i t => by (repeat' split) <;> simp),
    forEach_outer raiseUnproven (fun i t => raiseUnproven_outer t i)]
  simp
@[simp] theorem newDoors_lgp (n : Nat) : (newDoors n s).lgp = s.lgp := by
  simp only [newDoors]
  rw [forEach_lgp raiseUnproven (fun i t => raiseUnproven_lgp t i)]
  simp only [modDc_lgp, emptySlots_lgp]
  rw [forEach_lgp _ (fun i t => by (repeat' split) <;> simp)]
@[simp] theorem restartDoors_lgp : (restartDoors s).lgp = s.lgp := by
  simp only [restartDoors]
  rw [forEach_lgp _ (fun i t => by (repeat' split) <;> simp),
    forEach_lgp raiseUnproven (fun i t => raiseUnproven_lgp t i)]
  simp
@[simp] theorem newDoors_stu (n : Nat) : (newDoors n s).stu = s.stu := by
  simp only [newDoors]
  rw [forEach_stu raiseUnproven (fun i t => raiseUnproven_stu t i)]
  simp only [modDc_stu, emptySlots_stu]
  rw [forEach_stu _ (fun i t => by (repeat' split) <;> simp)]
@[simp] theorem restartDoors_stu : (restartDoors s).stu = s.stu := by
  simp only [restartDoors]
  rw [forEach_stu _ (fun i t => by (repeat' split) <;> simp),
    forEach_stu raiseUnproven (fun i t => raiseUnproven_stu t i)]
  simp
@[simp] theorem newDoors_tt (n : Nat) : (newDoors n s).tt = s.tt := by
  simp only [newDoors]
  rw [forEach_tt raiseUnproven (fun i t => raiseUnproven_tt t i)]
  simp only [modDc_tt, emptySlots_tt]
  rw [forEach_tt _ (fun i t => by (repeat' split) <;> simp)]
@[simp] theorem restartDoors_tt : (restartDoors s).tt = s.tt := by
  simp only [restartDoors]
  rw [forEach_tt _ (fun i t => by (repeat' split) <;> simp),
    forEach_tt raiseUnproven (fun i t => raiseUnproven_tt t i)]
  simp
@[simp] theorem newDoors_mau (n : Nat) : (newDoors n s).mau = s.mau := by
  simp only [newDoors]
  rw [forEach_mau raiseUnproven (fun i t => raiseUnproven_mau t i)]
  simp only [modDc_mau, emptySlots_mau]
  rw [forEach_mau _ (fun i t => by (repeat' split) <;> simp)]
@[simp] theorem restartDoors_mau : (restartDoors s).mau = s.mau := by
  simp only [restartDoors]
  rw [forEach_mau _ (fun i t => by (repeat' split) <;> simp),
    forEach_mau raiseUnproven (fun i t => raiseUnproven_mau t i)]
  simp
@[simp] theorem runAttempts_outer (before : State) : (runAttempts before s).outer = s.outer := by
  simp only [runAttempts]
  (repeat' split) <;> simp [*]
@[simp] theorem settleHaul_outer (before : State) : (settleHaul before s).outer = s.outer := by simp [settleHaul]
@[simp] theorem runAttempts_lgp (before : State) : (runAttempts before s).lgp = s.lgp := by
  simp only [runAttempts]
  (repeat' split) <;> simp [*]
@[simp] theorem settleHaul_lgp (before : State) : (settleHaul before s).lgp = s.lgp := by simp [settleHaul]
@[simp] theorem runAttempts_stu (before : State) : (runAttempts before s).stu = s.stu := by
  simp only [runAttempts]
  (repeat' split) <;> simp [*]
@[simp] theorem settleHaul_stu (before : State) : (settleHaul before s).stu = s.stu := by simp [settleHaul]
@[simp] theorem runAttempts_bl (before : State) : (runAttempts before s).bl = s.bl := by
  simp only [runAttempts]
  (repeat' split) <;> simp [*]
@[simp] theorem settleHaul_bl (before : State) : (settleHaul before s).bl = s.bl := by simp [settleHaul]
@[simp] theorem runAttempts_bpu (before : State) : (runAttempts before s).bpu = s.bpu := by
  simp only [runAttempts]
  (repeat' split) <;> simp [*]
@[simp] theorem settleHaul_bpu (before : State) : (settleHaul before s).bpu = s.bpu := by simp [settleHaul]
@[simp] theorem runAttempts_tt (before : State) : (runAttempts before s).tt = s.tt := by
  simp only [runAttempts]
  (repeat' split) <;> simp [*]
@[simp] theorem settleHaul_tt (before : State) : (settleHaul before s).tt = s.tt := by simp [settleHaul]
@[simp] theorem runAttempts_mau (before : State) : (runAttempts before s).mau = s.mau := by
  simp only [runAttempts]
  (repeat' split) <;> simp [*]
@[simp] theorem settleHaul_mau (before : State) : (settleHaul before s).mau = s.mau := by simp [settleHaul]
@[simp] theorem runAttempts_ft (before : State) : (runAttempts before s).ft = s.ft := by
  simp only [runAttempts]
  (repeat' split) <;> simp [*]
@[simp] theorem settleHaul_ft (before : State) : (settleHaul before s).ft = s.ft := by simp [settleHaul]
@[simp] theorem settle_outer (before : State) : (settle before s).outer = s.outer := by simp [settle]
@[simp] theorem settle_lgp (before : State) : (settle before s).lgp = s.lgp := by simp [settle]
@[simp] theorem settle_tt (before : State) : (settle before s).tt = s.tt := by simp [settle]
@[simp] theorem settle_mau (before : State) : (settle before s).mau = s.mau := by simp [settle]
@[simp] theorem markChanges_outer (before : State) : (markChanges before s).outer = s.outer := by
  simp [markChanges]
@[simp] theorem markChanges_lgp (before : State) : (markChanges before s).lgp = s.lgp := by
  simp [markChanges]
@[simp] theorem markChanges_stu (before : State) : (markChanges before s).stu = s.stu := by
  simp [markChanges]
@[simp] theorem markChanges_hc (before : State) : (markChanges before s).hc = s.hc := by
  simp [markChanges]
@[simp] theorem markChanges_bl (before : State) : (markChanges before s).bl = s.bl := by
  simp [markChanges]
@[simp] theorem markChanges_bpu (before : State) : (markChanges before s).bpu = s.bpu := by
  simp [markChanges]
@[simp] theorem markChanges_dc (before : State) : (markChanges before s).dc = s.dc := by
  simp [markChanges]
@[simp] theorem markChanges_tt (before : State) : (markChanges before s).tt = s.tt := by
  simp [markChanges]
@[simp] theorem markChanges_gqu (before : State) : (markChanges before s).gqu = s.gqu := by
  simp [markChanges]
@[simp] theorem markChanges_mau (before : State) : (markChanges before s).mau = s.mau := by
  simp [markChanges]
@[simp] theorem markChanges_ft (before : State) : (markChanges before s).ft = s.ft := by
  simp [markChanges]
@[simp] theorem finish_outer (before : State) : (finish before s).outer = s.outer := by simp [finish]
@[simp] theorem finish_lgp (before : State) : (finish before s).lgp = s.lgp := by simp [finish]
@[simp] theorem finish_tt (before : State) : (finish before s).tt = s.tt := by simp [finish]
@[simp] theorem finish_mau (before : State) : (finish before s).mau = s.mau := by simp [finish]

@[simp] theorem restartNotices_outer : (restartNotices s).outer = s.outer := rfl
@[simp] theorem acceptLine_outer (r : LineRec) : (acceptLine r s).outer = s.outer := by
  simp [acceptLine, loadLine]
@[simp] theorem acceptLine_tt (r : LineRec) : (acceptLine r s).tt = s.tt := by simp [acceptLine, loadLine]
@[simp] theorem lineRestart_outer : (lineRestart s).outer = s.outer := by simp [lineRestart]
@[simp] theorem lineRestart_tt : (lineRestart s).tt = s.tt := by simp [lineRestart]

end Sys2Proof.Machine
end

