-- ==== Sys2Proof/Laws/Link.lean ====
section
/-!
SUPPORT. The line link: what the transmitter, an event and an owner leave alone, and what the arrival of a
request on a free link comes to.
-/

namespace Sys2Proof.Machine

variable (s : State)

@[simp] theorem transmit_pending : (transmit s).pending = s.pending := by
  simp only [transmit, forgetReported, startFrame]
  (repeat' split) <;> simp
@[simp] theorem transmit_now : (transmit s).now = s.now := by
  simp only [transmit, forgetReported, startFrame]
  (repeat' split) <;> simp
@[simp] theorem transmit_lgp : (transmit s).lgp = s.lgp := by
  simp only [transmit, forgetReported, startFrame]
  (repeat' split) <;> simp
@[simp] theorem transmit_stu : (transmit s).stu = s.stu := by
  simp only [transmit, forgetReported, startFrame]
  (repeat' split) <;> simp
@[simp] theorem transmit_hc : (transmit s).hc = s.hc := by
  simp only [transmit, forgetReported, startFrame]
  (repeat' split) <;> simp
@[simp] theorem transmit_bpu : (transmit s).bpu = s.bpu := by
  simp only [transmit, forgetReported, startFrame]
  (repeat' split) <;> simp
@[simp] theorem transmit_dc : (transmit s).dc = s.dc := by
  simp only [transmit, forgetReported, startFrame]
  (repeat' split) <;> simp
@[simp] theorem transmit_tt : (transmit s).tt = s.tt := by
  simp only [transmit, forgetReported, startFrame]
  (repeat' split) <;> simp
@[simp] theorem transmit_gqu : (transmit s).gqu = s.gqu := by
  simp only [transmit, forgetReported, startFrame]
  (repeat' split) <;> simp
@[simp] theorem transmit_mau : (transmit s).mau = s.mau := by
  simp only [transmit, forgetReported, startFrame]
  (repeat' split) <;> simp
@[simp] theorem transmit_ft : (transmit s).ft = s.ft := by
  simp only [transmit, forgetReported, startFrame]
  (repeat' split) <;> simp
@[simp] theorem transmit_holding : (transmit s).ll.holding = s.ll.holding := by
  simp only [transmit, forgetReported, startFrame]
  (repeat' split) <;> simp
@[simp] theorem transmit_rx : (transmit s).ll.rx = s.ll.rx := by
  simp only [transmit, forgetReported, startFrame]
  (repeat' split) <;> simp
@[simp] theorem transmit_gapDue : (transmit s).ll.gapDue = s.ll.gapDue := by
  simp only [transmit, forgetReported, startFrame]
  (repeat' split) <;> simp

/-- The transmitter leaves an empty reply slot empty. -/
theorem transmit_slot (h : s.ll.replySlot = none) : (transmit s).ll.replySlot = none := by
  simp only [transmit, forgetReported, startFrame]
  (repeat' split) <;> simp_all

/-- After its look, an idle transmitter has nothing to send. -/
theorem transmit_idle (h : (transmit s).ll.sending = none) : (transmit s).ll.replySlot = none := by
  revert h
  simp only [transmit, forgetReported, startFrame]
  (repeat' split) <;> simp_all

@[simp] theorem event_pending (f : State → State) : (event f s).pending = (f s).pending := by
  rw [event, transmit_pending]
  exact outer_pending (finish_outer _ _)
@[simp] theorem event_now (f : State → State) : (event f s).now = (f s).now := by
  rw [event, transmit_now]
  exact outer_now (finish_outer _ _)
@[simp] theorem event_lgp (f : State → State) : (event f s).lgp = (f s).lgp := by simp [event]
@[simp] theorem event_tt (f : State → State) : (event f s).tt = (f s).tt := by simp [event]
@[simp] theorem event_mau (f : State → State) : (event f s).mau = (f s).mau := by simp [event]
@[simp] theorem event_holding (f : State → State) : (event f s).ll.holding = (f s).ll.holding := by
  rw [event, transmit_holding]
  exact outer_holding (finish_outer _ _)
@[simp] theorem event_rx (f : State → State) : (event f s).ll.rx = (f s).ll.rx := by
  rw [event, transmit_rx]
  exact outer_rx (finish_outer _ _)
@[simp] theorem event_gapDue (f : State → State) : (event f s).ll.gapDue = (f s).ll.gapDue := by
  rw [event, transmit_gapDue]
  exact outer_gapDue (finish_outer _ _)

/-- An event leaves an empty reply slot empty. -/
theorem event_slot (f : State → State) (h : (f s).ll.replySlot = none) :
    (event f s).ll.replySlot = none :=
  transmit_slot _ ((outer_replySlot (finish_outer (f s) s)).trans h)

/-- What an owner does, it does to the blocks: neither the commands waiting nor the time nor the line link
less its notice list change. -/
theorem own_outer {level : Nat} {r : Request} {s t : State} {b : Content}
    (h : own level r s = .ok (t, b)) : t.outer = s.outer := by
  cases r <;>
  simp only [own, setLine, setMarkers, setProfile, setTension, setLanes, setPosts, setParams, loadTickets,
    dropTickets, queryTicket, setDay, setMode, dispatchTrip, holdTrip, resumeTrip, stopNow, resetTrip,
    ownDoors, openDoors, closeDoors, holdDoors, unholdDoors, ownLane, setLaneClosed, clearLane, ownQueue,
    setQueueClosed, ownForceStop, forceStop, setWeather, amendClass, testBrake, ackFaults,
    restartLineRequest, readCar, readQueue, readLane, done] at h <;>
  (repeat' split at h) <;>
  first
  | (simp only [Except.ok.injEq, Prod.mk.injEq, reduceCtorEq] at h; obtain ⟨rfl, -⟩ := h; simp [*, forEach_outer]; done)
  | (simp only [Except.ok.injEq, Prod.mk.injEq, reduceCtorEq] at h; obtain ⟨rfl, -⟩ := h; (repeat' split) <;> simp [*, forEach_outer] ; done)
  | (cases h; done)
  | (exfalso; simp_all; done)
  | (simp only [Except.ok.injEq, Prod.mk.injEq] at h; obtain ⟨rfl, -⟩ := h; simp_all)

/-- Judging a frame changes neither the commands waiting nor the time nor the line link less its notices. -/
@[simp] theorem judgeFrame_outer (f : HeldFrame) : (judgeFrame f s).1.outer = s.outer := by
  simp only [judgeFrame]
  (repeat' split) <;> first | rfl | (rename_i h; exact own_outer h)

@[simp] theorem receive_pending (f : HeldFrame) : (receive f s).pending = s.pending := by
  simp only [receive]
  split
  · rw [outer_pending (validFrame_outer _)]
    rfl
  · rfl

/-- A frame received on a free link is the one held. -/
theorem receive_holding (f : HeldFrame) (h : s.ll.holding = []) : (receive f s).ll.holding = [f] := by
  simp only [receive, h, List.length_nil]
  rw [if_pos (by decide)]
  rw [outer_holding (validFrame_outer _)]
  simp [h]

/-- Receiving a frame leaves the reply slot alone. -/
theorem receive_slot (f : HeldFrame) : (receive f s).ll.replySlot = s.ll.replySlot := by
  simp only [receive]
  split
  · rw [outer_replySlot (validFrame_outer _)]
    rfl
  · rfl

/-- Taking a frame takes the oldest one from the holding. -/
theorem take_holding (f : HeldFrame) : (take f s).ll.holding = s.ll.holding.drop 1 := by
  simp only [take, transmit_holding]
  have h := outer_holding ((finish_outer (judgeFrame f (dropHeld s)).1 s).trans
    (judgeFrame_outer (dropHeld s) f))
  exact h

@[simp] theorem take_pending (f : HeldFrame) : (take f s).pending = s.pending := by
  simp only [take, transmit_pending, placeReply, modLl_pending]
  rw [outer_pending (finish_outer _ _), outer_pending (judgeFrame_outer _ _)]
  rfl

@[simp] theorem serveWhile_pending : ∀ n s, (serveWhile n s).pending = s.pending
  | 0, _ => rfl
  | n + 1, s => by
    rw [serveWhile]
    split
    · rw [serveWhile_pending n, take_pending]
    · rfl

@[simp] theorem serve_pending : (serve s).pending = s.pending := serveWhile_pending 2 s

/-- A frame that arrives on a free link is received and taken at once. -/
theorem frameArrives_free (f : HeldFrame) (h : s.linkFree) :
    frameArrives f s = take f (event (receive f) s) := by
  have hh : (event (receive f) s).ll.holding = [f] := by simp [receive_holding s f h.1]
  have hr : (event (receive f) s).ll.replySlot = none :=
    event_slot s _ ((receive_slot s f).trans h.2)
  have ht : (take f (event (receive f) s)).ll.holding = [] := by rw [take_holding, hh]; rfl
  simp only [frameArrives, serve, serveWhile, hh, hr, ht]

/-- The arrival of a request whose owner accepts it. -/
theorem requestArrives_done {h : Header} {r : Request} {t : State} {b : Content} (hp : Passes s h r)
    (ho : own ((s.asTaken h r).effectiveLevel h) r (s.asTaken h r) = .ok (t, b)) :
    requestArrives h r s
      = concluded (s.beforeTaken h r) t (doneReply (requestKind r + 128) h.tag b) := by
  obtain ⟨hf, hl, hj⟩ := hp
  have hc : requestContent r = .request r := by simp [requestContent, hl]
  have hq : dropHeld (event (receive { header := h, content := .request r }) s) = s.asTaken h r := by
    simp [State.asTaken, hc]
  rw [requestArrives, frameArrives_free _ _ hf, hc]
  simp only [take, judgeFrame, hq, hj, ho, concluded, State.beforeTaken, hc]

/-- The arrival of a request that its owner refuses. -/
theorem requestArrives_refused {h : Header} {r : Request} {c : RefusalCode} (hp : Passes s h r)
    (ho : own ((s.asTaken h r).effectiveLevel h) r (s.asTaken h r) = .error c) :
    requestArrives h r s
      = concluded (s.beforeTaken h r) (s.asTaken h r) (refusedReply (requestKind r + 128) h.tag c) := by
  obtain ⟨hf, hl, hj⟩ := hp
  have hc : requestContent r = .request r := by simp [requestContent, hl]
  have hq : dropHeld (event (receive { header := h, content := .request r }) s) = s.asTaken h r := by
    simp [State.asTaken, hc]
  rw [requestArrives, frameArrives_free _ _ hf, hc]
  simp only [take, judgeFrame, hq, hj, ho, concluded, State.beforeTaken, hc]

/-- A request that passes and that its owner accepts is DONE. -/
theorem doneWith_of_own {i : Instr} {h : Header} {r : Request} {s t : State} {b : Content}
    (hi : i.request? = some (h, r)) (hx : exec i s = .next (requestArrives h r s)) (hp : Passes s h r)
    (ho : own ((s.asTaken h r).effectiveLevel h) r (s.asTaken h r) = .ok (t, b)) : DoneWith i s t b :=
  ⟨h, r, hi, by rw [hx, requestArrives_done s hp ho]⟩

/-- A request that passes and that its owner refuses is REFUSED. -/
theorem refusedWith_of_own {i : Instr} {h : Header} {r : Request} {s : State} {c : RefusalCode}
    (hi : i.request? = some (h, r)) (hx : exec i s = .next (requestArrives h r s)) (hp : Passes s h r)
    (ho : own ((s.asTaken h r).effectiveLevel h) r (s.asTaken h r) = .error c) : RefusedWith i s c :=
  ⟨h, r, hi, by rw [hx, requestArrives_refused s hp ho]⟩

end Sys2Proof.Machine
end

