-- ==== Sys2Proof/Laws/Events.lean ====
section
/-!
SUPPORT. What the operations of the events and of the expiries leave alone.
-/

namespace Sys2Proof.Machine

variable (s : State)

@[simp] theorem judgeMovement_outer (before : State) : (judgeMovement before s).outer = s.outer := by
  simp [judgeMovement]
@[simp] theorem judgeMovement_lgp (before : State) : (judgeMovement before s).lgp = s.lgp := by
  simp [judgeMovement]
@[simp] theorem judgeMovement_stu (before : State) : (judgeMovement before s).stu = s.stu := by
  simp [judgeMovement]
@[simp] theorem judgeMovement_dc (before : State) : (judgeMovement before s).dc = s.dc := by
  simp [judgeMovement]
@[simp] theorem judgeMovement_tt (before : State) : (judgeMovement before s).tt = s.tt := by
  simp [judgeMovement]
@[simp] theorem judgeMovement_mau (before : State) : (judgeMovement before s).mau = s.mau := by
  simp [judgeMovement]
@[simp] theorem driveEdge_outer (d : Dir) : (driveEdge d s).outer = s.outer := by simp [driveEdge]
@[simp] theorem driveEdge_stu (d : Dir) : (driveEdge d s).stu = s.stu := by simp [driveEdge]
@[simp] theorem driveEdge_dc (d : Dir) : (driveEdge d s).dc = s.dc := by simp [driveEdge]
@[simp] theorem driveEdge_tt (d : Dir) : (driveEdge d s).tt = s.tt := by simp [driveEdge]
@[simp] theorem takeEdge_outer (e : Encoder) (d : Dir) : (takeEdge e d s).outer = s.outer := by
  cases e <;> simp [takeEdge]
@[simp] theorem takeEdge_dc (e : Encoder) (d : Dir) : (takeEdge e d s).dc = s.dc := by
  cases e <;> simp [takeEdge]
@[simp] theorem takeEdge_tt (e : Encoder) (d : Dir) : (takeEdge e d s).tt = s.tt := by
  cases e <;> simp [takeEdge]
@[simp] theorem presence_outer (i : Nat) (v : PresenceReport) : (presence i v s).outer = s.outer := by
  simp only [presence]; split <;> simp
@[simp] theorem takePulse_outer (j : Nat) : (takePulse j s).outer = s.outer := by
  simp only [takePulse]
  split <;> simp
@[simp] theorem beginStandstill_outer : (beginStandstill s).outer = s.outer := by simp [beginStandstill]
@[simp] theorem presence_stu (i : Nat) (v : PresenceReport) : (presence i v s).stu = s.stu := by
  simp only [presence]; split <;> simp
@[simp] theorem takePulse_stu (j : Nat) : (takePulse j s).stu = s.stu := by
  simp only [takePulse]
  split <;> simp
@[simp] theorem beginStandstill_stu : (beginStandstill s).stu = s.stu := by simp [beginStandstill]
@[simp] theorem presence_dc (i : Nat) (v : PresenceReport) : (presence i v s).dc = s.dc := by
  simp only [presence]; split <;> simp
@[simp] theorem takePulse_dc (j : Nat) : (takePulse j s).dc = s.dc := by
  simp only [takePulse]
  split <;> simp
@[simp] theorem beginStandstill_dc : (beginStandstill s).dc = s.dc := by simp [beginStandstill]
@[simp] theorem presence_tt (i : Nat) (v : PresenceReport) : (presence i v s).tt = s.tt := by
  simp only [presence]; split <;> simp
@[simp] theorem takePulse_tt (j : Nat) : (takePulse j s).tt = s.tt := by
  simp only [takePulse]
  split <;> simp
@[simp] theorem beginStandstill_tt : (beginStandstill s).tt = s.tt := by simp [beginStandstill]
@[simp] theorem presence_mau (i : Nat) (v : PresenceReport) : (presence i v s).mau = s.mau := by
  simp only [presence]; split <;> simp
@[simp] theorem takePulse_mau (j : Nat) : (takePulse j s).mau = s.mau := by
  simp only [takePulse]
  split <;> simp
@[simp] theorem beginStandstill_mau : (beginStandstill s).mau = s.mau := by simp [beginStandstill]
@[simp] theorem quiet_outer (e : Encoder) : (quiet e s).outer = s.outer := by
  simp only [quiet]
  split <;> simp
@[simp] theorem quiet_dc (e : Encoder) : (quiet e s).dc = s.dc := by
  simp only [quiet]
  split <;> simp
@[simp] theorem quiet_tt (e : Encoder) : (quiet e s).tt = s.tt := by
  simp only [quiet]
  split <;> simp
@[simp] theorem quiet_mau (e : Encoder) : (quiet e s).mau = s.mau := by
  simp only [quiet]
  split <;> simp

/-- The commands waiting are those of before after an expiry, if its event leaves them alone. -/
theorem expire_pending (due : Option Nat) (f : State → State) (h : ∀ t, (f t).pending = t.pending) :
    (expire due f s).pending = s.pending := by
  unfold expire
  split
  · rfl
  · rw [event_pending, h, passUntil_pending]

@[simp] theorem byteIn_pending (b : Byte) : (byteIn b s).pending = s.pending := by
  simp only [byteIn, checkFrame, inFrame, hunt]
  (repeat' split) <;> simp

@[simp] theorem frameArrives_pending (f : HeldFrame) : (frameArrives f s).pending = s.pending := by
  simp [frameArrives]

@[simp] theorem requestArrives_pending (h : Header) (r : Request) :
    (requestArrives h r s).pending = s.pending := by simp [requestArrives]

end Sys2Proof.Machine
end

