-- ==== Sys2Proof/Laws/Moments.lean ====
section
/-!
SUPPORT. What holds between two judged moments of passing time: no estimate changes, and no overspeed test
begins to hold (02 R21; 03 R40, R42; 04 R70).
-/

namespace Sys2Proof.Machine

/-! ### No estimate changes before its next change (02 R21) -/

/-- The magnitude d / τ in 0.1 mm/s, as a rounded quotient. -/
theorem decayed_eq (D : Nat) : (roundDiv 10000000000 D).toNat = (20000000000 + D) / (2 * D) := by
  have h : roundDiv 10000000000 D = (((20000000000 + D) / (2 * D) : Nat) : Int) := by
    simp only [roundDiv]
    rw [if_neg (by decide)]
    push_cast
    rfl
  rw [h, Int.toNat_natCast]

/-- The rounded quotient does not rise with its divisor. -/
theorem decayed_anti {D E : Nat} (hD : 0 < D) (h : D ≤ E) :
    (20000000000 + E) / (2 * E) ≤ (20000000000 + D) / (2 * D) := by
  rw [Nat.le_div_iff_mul_le (by omega)]
  generalize hk : (20000000000 + E) / (2 * E) = k
  have h1 : k * (2 * E) ≤ 20000000000 + E := by rw [← hk]; exact Nat.div_mul_le_self _ _
  cases k with
  | zero => omega
  | succ k =>
    have e1 : (k + 1) * (2 * E) = 2 * (k * E) + 2 * E := by ring
    have e2 : (k + 1) * (2 * D) = 2 * (k * D) + 2 * D := by ring
    have m : k * D ≤ k * E := Nat.mul_le_mul_left _ h
    omega

/-- The estimate of a channel stays while no time of its next change is reached (02 R21). -/
theorem estimate_stays (ch : SpeedChannel) (cpm? : Option Nat) (now d : Nat)
    (h : ∀ u, ch.nextChange cpm? now = some u → now + d < u) :
    ch.estimate cpm? (now + d) = ch.estimate cpm? now := by
  simp only [SpeedChannel.estimate]
  simp only [SpeedChannel.nextChange] at h
  cases cpm? with
  | none => rfl
  | some cpm =>
    cases ch.sense with
    | none => rfl
    | some dir =>
      generalize ch.history.head? = o at *
      generalize ch.history.getLast? = l at *
      cases o with
      | none => rfl
      | some oldest =>
        cases l with
        | none => rfl
        | some newest =>
          dsimp only at h ⊢
          generalize ch.history.length - 1 = k at *
          cases hq : ch.quiet with
          | true => simp
          | false =>
            simp only [hq, Bool.false_eq_true, if_false, Bool.false_or, decide_eq_true_eq] at h ⊢
            congr 2
            by_cases hk : k = 0
            · subst hk; simp [estimateMagnitude]
            rw [if_neg hk] at h
            generalize newest - oldest = span at *
            have hle : now - newest ≤ now + d - newest := by omega
            have hmul : (now - newest) * k ≤ (now + d - newest) * k := Nat.mul_le_mul_right _ hle
            by_cases hb : (now - newest) * k ≤ 4 * span
            · rw [if_pos hb] at h
              have h1 := h _ rfl
              have h2 : now + d - newest ≤ 4 * span / k := by
                generalize 4 * span / k = y at h1 ⊢
                omega
              have h3 : (now + d - newest) * k ≤ 4 * span :=
                (Nat.le_div_iff_mul_le (Nat.pos_of_ne_zero hk)).1 h2
              simp only [estimateMagnitude, if_neg hk, if_pos hb, if_pos h3]
              by_cases hs : span = 0
              · subst hs
                have z1 : now + d - newest = 0 := by
                  rcases Nat.mul_eq_zero.1 (Nat.le_zero.1 h3) with z | z
                  · exact z
                  · exact absurd z hk
                have z2 : now - newest = 0 := by omega
                simp [z1, z2]
              · simp [hs]
            · rw [if_neg hb] at h
              have hb2 : ¬(now + d - newest) * k ≤ 4 * span := by omega
              have t0 : now - newest ≠ 0 := by intro z; rw [z] at hb; omega
              have t1 : now + d - newest ≠ 0 := by omega
              have e0 : estimateMagnitude cpm k span (now - newest)
                  = (20000000000 + cpm * (now - newest)) / (2 * (cpm * (now - newest))) := by
                simp only [estimateMagnitude, if_neg hk, if_neg hb, t0, and_false, if_false, decayed_eq]
              have e1 : estimateMagnitude cpm k span (now + d - newest)
                  = (20000000000 + cpm * (now + d - newest)) / (2 * (cpm * (now + d - newest))) := by
                simp only [estimateMagnitude, if_neg hk, if_neg hb2, t1, and_false, if_false, decayed_eq]
              rw [e0] at h
              rw [e0, e1]
              rcases Nat.eq_zero_or_pos cpm with hc | hc
              · subst hc; simp
              have p0 : 0 < cpm * (now - newest) := Nat.mul_pos hc (by omega)
              have le : cpm * (now - newest) ≤ cpm * (now + d - newest) := Nat.mul_le_mul_left _ hle
              have anti := decayed_anti p0 le
              generalize hv : (20000000000 + cpm * (now - newest)) / (2 * (cpm * (now - newest))) = v at *
              by_cases hz : v = 0
              · omega
              · rw [if_neg hz] at h
                have h1 := h _ rfl
                have h2 : now + d - newest ≤ 20000000000 / (cpm * (2 * v - 1)) := by
                  generalize 20000000000 / (cpm * (2 * v - 1)) = y at h1 ⊢
                  omega
                have h3 := (Nat.le_div_iff_mul_le (Nat.mul_pos hc (by omega))).1 h2
                apply Nat.le_antisymm anti
                rw [Nat.le_div_iff_mul_le (by omega)]
                obtain ⟨w, rfl⟩ : ∃ w, v = w + 1 := ⟨v - 1, by omega⟩
                have e2 : 2 * (w + 1) - 1 = 2 * w + 1 := by omega
                rw [e2] at h3
                nlinarith [h3]

/-- While no estimate changes the estimates are those of the state as it stands (02 R21). -/
theorem elapse_estimate {s : State} {d : Nat} (h : ∀ u, s.nextChange = some u → s.now + d < u) (e : Encoder) :
    (elapse d s).estimate e = s.estimate e := by
  have key : ∀ u, (s.stu.speed.encoder e).nextChange (s.cpm? e) s.now = some u → s.now + d < u := by
    intro u hu
    simp only [State.nextChange] at h
    cases e with
    | drive =>
      simp only [Two.encoder] at hu
      rw [hu] at h
      cases hx : s.stu.speed.snd.nextChange (s.cpm? .sheave) s.now with
      | none => rw [hx] at h; exact h _ rfl
      | some y =>
        rw [hx] at h
        have := h _ rfl
        omega
    | sheave =>
      simp only [Two.encoder] at hu
      rw [hu] at h
      cases hx : s.stu.speed.fst.nextChange (s.cpm? .drive) s.now with
      | none => rw [hx] at h; exact h _ rfl
      | some y =>
        rw [hx] at h
        have := h _ rfl
        omega
  have c : (elapse d s).cpm? e = s.cpm? e := by simp [State.cpm?]
  simp only [State.estimate, c, elapse_stu, elapse_now]
  exact estimate_stays _ _ _ _ key

/-! ### Square roots -/

/-- The binary search for a square root ends at its whole part. -/
theorem isqrtFrom_spec (n : Nat) : ∀ k r, r * r ≤ n → n < (r + 2 ^ k) * (r + 2 ^ k) →
    isqrtFrom n k r * isqrtFrom n k r ≤ n ∧ n < (isqrtFrom n k r + 1) * (isqrtFrom n k r + 1)
  | 0, r, h1, h2 => by simpa [isqrtFrom] using ⟨h1, h2⟩
  | k + 1, r, h1, h2 => by
    simp only [isqrtFrom]
    split
    · rename_i h
      refine isqrtFrom_spec n k _ h ?_
      rwa [show r + 2 ^ k + 2 ^ k = r + 2 ^ (k + 1) by rw [Nat.pow_succ]; omega]
    · rename_i h
      exact isqrtFrom_spec n k r h1 (by omega)

/-- The whole part of a square root. -/
theorem isqrt_spec (n : Nat) : isqrt n * isqrt n ≤ n ∧ n < (isqrt n + 1) * (isqrt n + 1) := by
  refine isqrtFrom_spec n _ 0 (by omega) ?_
  have h : n < 2 ^ (n.log2 + 1) := Nat.lt_log2_self
  have e : (0 + 2 ^ (n.log2 / 2 + 1)) * (0 + 2 ^ (n.log2 / 2 + 1)) = 2 ^ (2 * (n.log2 / 2 + 1)) := by
    rw [Nat.zero_add, ← Nat.pow_add]; congr 1; omega
  rw [e]
  exact Nat.lt_of_lt_of_le h (Nat.pow_le_pow_right (by omega) (by omega))

/-- The whole part of a square root does not fall as its argument rises. -/
theorem isqrt_mono {a b : Nat} (h : a ≤ b) : isqrt a ≤ isqrt b := by
  have ha := isqrt_spec a
  have hb := isqrt_spec b
  by_contra c
  have := Nat.mul_le_mul (show isqrt b + 1 ≤ isqrt a by omega) (show isqrt b + 1 ≤ isqrt a by omega)
  omega

/-- A term of R42 does not fall as the ceiling ahead rises. -/
theorem rootTerm_mono {v w : Nat} (h : v ≤ w) (a : Nat) (d : Int) : rootTerm v a d ≤ rootTerm w a d :=
  isqrt_mono (Nat.add_le_add_right (Nat.mul_le_mul h h) _)

/-! ### The ceiling of a trip while effective ceilings fall (03 R40, R42) -/

/-- Segment x is segment y with an effective ceiling that is not higher. -/
def Segment.under (x y : Segment) : Prop :=
  x.start = y.start ∧ x.decel = y.decel ∧ x.effective ≤ y.effective

/-- The classes of s are those of t with effective ceilings that are not higher; positions and the trip are the
same. -/
structure Under (s t : State) : Prop where
  lgp : s.lgp = t.lgp
  rest : s.hc = { t.hc with classes := s.hc.classes, ramp := s.hc.ramp }
  classes : ∀ n, (s.class? n = none ∧ t.class? n = none) ∨
    ∃ l u, s.class? n = some l ∧ t.class? n = some u ∧ List.Forall₂ Segment.under l u

/-- Related lists have related elements at each place. -/
theorem forall2_getElem? {α β : Type} {R : α → β → Prop} {l : List α} {u : List β} (h : List.Forall₂ R l u) :
    ∀ i : Nat, (l[i]? = none ∧ u[i]? = none) ∨ ∃ a b, l[i]? = some a ∧ u[i]? = some b ∧ R a b := by
  induction h with
  | nil => intro i; exact .inl ⟨rfl, rfl⟩
  | cons hab _ ih =>
    intro i
    cases i with
    | zero => exact .inr ⟨_, _, rfl, rfl, hab⟩
    | succ i => simpa using ih i

/-- The active segment is at the same place in both. -/
theorem activeIndex_under {l u : List Segment} (h : List.Forall₂ Segment.under l u) (x : Int) :
    activeIndex l x = activeIndex u x := by
  have e : ∀ {l u : List Segment}, List.Forall₂ Segment.under l u →
      (l.filter (fun g => decide ((g.start : Int) ≤ x))).length
        = (u.filter (fun g => decide ((g.start : Int) ≤ x))).length := by
    intro l u h
    induction h with
    | nil => rfl
    | cons hab _ ih => simp only [List.filter_cons, hab.1]; split <;> simp [ih]
  simp only [activeIndex, e h]

/-- The least of related numbers, or the same number for none. -/
theorem least_mono {l u : List Nat} (h : List.Forall₂ (· ≤ ·) l u) (c : Nat) :
    (l.min?).getD c ≤ (u.min?).getD c := by
  have fold : ∀ {l u : List Nat}, List.Forall₂ (· ≤ ·) l u → ∀ a b, a ≤ b → l.foldl min a ≤ u.foldl min b := by
    intro l u h
    induction h with
    | nil => intro a b h; exact h
    | cons hab _ ih => intro a b h; exact ih _ _ (by omega)
  cases h with
  | nil => exact Nat.le_refl _
  | cons hab ht =>
    rw [List.min?_cons', List.min?_cons']
    exact fold ht _ _ hab

/-- Lists made by two functions from one list are related where the functions are. -/
theorem forall2_filterMap {α : Type} (f g : α → Option Nat)
    (h : ∀ x, (f x = none ∧ g x = none) ∨ ∃ a b, f x = some a ∧ g x = some b ∧ a ≤ b) :
    ∀ l : List α, List.Forall₂ (· ≤ ·) (l.filterMap f) (l.filterMap g)
  | [] => .nil
  | x :: l => by
    rcases h x with ⟨h1, h2⟩ | ⟨a, b, h1, h2, h3⟩
    · simpa [List.filterMap_cons, h1, h2] using forall2_filterMap f g h l
    · simpa [List.filterMap_cons, h1, h2] using ⟨h3, forall2_filterMap f g h l⟩

/-- The terms of the later segments are not higher. -/
theorem later_under {l u : List Segment} (h : List.Forall₂ Segment.under l u) (x : Int) (d : Dir) (a : Nat) :
    List.Forall₂ (· ≤ ·) ((laterSegments l x d).map (fun g => rootTerm g.1 a g.2))
      ((laterSegments u x d).map (fun g => rootTerm g.1 a g.2)) := by
  simp only [laterSegments, activeIndex_under h]
  cases d with
  | up =>
    have hd := List.forall₂_drop (activeIndex u x + 1) h
    generalize l.drop (activeIndex u x + 1) = l1 at hd
    generalize u.drop (activeIndex u x + 1) = u1 at hd
    induction hd with
    | nil => exact .nil
    | cons hab _ ih => exact .cons (by simpa [hab.1] using rootTerm_mono hab.2.2 a _) ih
  | down =>
    simp only [List.map_filterMap]
    apply forall2_filterMap
    intro j
    rcases forall2_getElem? h j with ⟨h1, h2⟩ | ⟨g, k, h1, h2, h3⟩
    · exact .inl (by simp [h1, h2])
    · rcases forall2_getElem? h (j + 1) with ⟨h4, h5⟩ | ⟨p, q, h4, h5, h6⟩
      · exact .inl (by simp [h1, h2, h4, h5])
      · exact .inr ⟨_, _, by simp [h1, h4]; rfl, by simp [h2, h5]; rfl, by
          simpa [h6.1] using rootTerm_mono h3.2.2 a _⟩

/-- The ceiling of a trip is not higher. -/
theorem ceiling_under {s t : State} (h : Under s t) : s.ceiling ≤ t.ceiling := by
  have pos := carPos_congr h.lgp .a
  have trip : s.hc.trip = t.hc.trip := by rw [h.rest]
  have insp : s.hc.inspection = t.hc.inspection := by rw [h.rest]
  have unref : s.hc.unreferencedTrip = t.hc.unreferencedTrip := by rw [h.rest]
  have creep : ∀ k, s.creep k = t.creep k := by intro k; simp only [State.creep, State.inspectionSpeed, insp]
  have decel : ∀ k, s.classDecel k = t.classDecel k := by
    intro k
    simp only [State.classDecel, State.activeSegment, pos]
    rcases h.classes k.classNumber with ⟨h1, h2⟩ | ⟨l, u, h1, h2, h3⟩
    · rw [h1, h2]
    · rw [h1, h2]
      dsimp only
      rw [activeIndex_under h3]
      rcases forall2_getElem? h3 (activeIndex u (t.carPos .a)) with ⟨h4, h5⟩ | ⟨g, k, h4, h5, h6⟩
      · rw [h4, h5]
      · rw [h4, h5]; exact h6.2.1
  have target : ∀ r, s.targetDistance r = t.targetDistance r := by
    intro r
    simp only [State.targetDistance, State.stationPos?, pos, h.lgp]
  simp only [State.ceiling, trip]
  cases t.hc.trip.rec? with
  | none => exact Nat.le_refl _
  | some r =>
    simp only [State.tripCeiling, decel, creep, target, pos, unref, h.lgp]
    apply least_mono
    apply List.rel_append
    · apply List.rel_append
      · cases r.kind with
        | cls n =>
          dsimp only
          rcases h.classes n with ⟨h1, h2⟩ | ⟨l, u, h1, h2, h3⟩
          · rw [h1, h2]; exact List.forall₂_refl _
          · rw [h1, h2]
            dsimp only
            apply List.rel_append
            · rw [activeIndex_under h3]
              rcases forall2_getElem? h3 (activeIndex u (t.carPos .a)) with ⟨h4, h5⟩ | ⟨g, k, h4, h5, h6⟩
              · rw [h4, h5]; exact .nil
              · rw [h4, h5]; exact .cons h6.2.2 .nil
            · exact later_under h3 _ _ _
        | inspection => simp only [State.inspectionSpeed, insp]; exact List.forall₂_refl _
        | recovery => exact List.forall₂_refl _
      · exact List.forall₂_refl _
    · exact List.forall₂_refl _

/-! ### The overspeed tests while effective ceilings fall (04 R70) -/

/-- The effective ceiling of a segment after a time. -/
theorem effective_fall (d n : Nat) (g : Segment) : (g.fall d n).effective = match g.falling with
    | some v => max (v - d * n) (g.ceiling * 1000000)
    | none => g.ceiling * 1000000 := by
  obtain ⟨start, ceiling, accel, decel, falling⟩ := g
  cases falling with
  | none => rfl
  | some v =>
    simp only [Segment.fall]
    split
    · rename_i hle
      exact (Nat.max_eq_right hle).symm
    · rfl

/-- The longer a ceiling falls the lower it stands. -/
theorem fall_under (d : Nat) {a b : Nat} (h : a ≤ b) (g : Segment) : (g.fall d b).under (g.fall d a) := by
  have hm : d * a ≤ d * b := Nat.mul_le_mul_left _ h
  have fa := fall_fields d a g
  have fb := fall_fields d b g
  refine ⟨by rw [fa.1, fb.1], by rw [fa.2.2, fb.2.2], ?_⟩
  rw [effective_fall, effective_fall]
  cases g.falling with
  | none => exact Nat.le_refl _
  | some v => dsimp only; omega

/-- A segment after a time stands no higher than before. -/
theorem fall_under_self (d a : Nat) (g : Segment) : (g.fall d a).under g := by
  have f := fall_fields d a g
  refine ⟨f.1, f.2.2, ?_⟩
  rw [effective_fall]
  simp only [Segment.effective]
  cases g.falling with
  | none => exact Nat.le_refl _
  | some v => dsimp only; omega

/-- The loaded classes after a time, by number. -/
theorem class_elapse (s : State) (dt n : Nat) : (s.class? n = none ∧ (elapse dt s).class? n = none) ∨
    ∃ l d, s.class? n = some l ∧ (∀ k, (elapse k s).class? n = some (l.map (Segment.fall d k))) := by
  simp only [State.class?, elapse_hc, State.fallenClasses, List.getElem?_map]
  cases s.hc.classes[n - 1]? with
  | none => exact .inl ⟨rfl, rfl⟩
  | some c =>
    cases c with
    | none => exact .inl ⟨rfl, rfl⟩
    | some l => exact .inr ⟨l, _, rfl, fun k => rfl⟩

/-- The longer time passes with nothing judged the lower the ceilings stand. -/
theorem elapse_under (s : State) {a b : Nat} (h : a ≤ b) : Under (elapse b s) (elapse a s) := by
  refine ⟨rfl, rfl, fun n => ?_⟩
  rcases class_elapse s a n with ⟨h1, h2⟩ | ⟨l, d, _, h2⟩
  · refine .inl ⟨?_, h2⟩
    rcases class_elapse s b n with ⟨_, h4⟩ | ⟨l, d, h3, _⟩
    · exact h4
    · rw [h1] at h3; cases h3
  · refine .inr ⟨_, _, h2 b, h2 a, ?_⟩
    rw [List.forall₂_map_left_iff, List.forall₂_map_right_iff, List.forall₂_same]
    exact fun g _ => fall_under d h g

/-- Passing time with nothing judged lowers ceilings alone. -/
theorem elapse_under_self (s : State) (a : Nat) : Under (elapse a s) s := by
  refine ⟨rfl, rfl, fun n => ?_⟩
  rcases class_elapse s a n with ⟨h1, h2⟩ | ⟨l, d, h1, h2⟩
  · exact .inl ⟨h2, h1⟩
  · refine .inr ⟨_, _, h2 a, h1, ?_⟩
    rw [List.forall₂_map_left_iff, List.forall₂_same]
    exact fun g _ => fall_under_self d a g

/-- Under the ceiling of a trip and at one line speed a test that holds goes on holding under lower ceilings. -/
theorem tests_under {s t : State} (h : Under s t) (ht : t.underTripCeiling = true) (hs : s.stu = t.stu)
    (hv : s.lineSpeed = t.lineSpeed) :
    (t.serviceTestNow = true → s.serviceTestNow = true) ∧
      (t.emergencyTestNow = true → s.emergencyTestNow = true) := by
  have haul : s.hc.haul = t.hc.haul := by rw [h.rest]
  have lineMax : s.hc.lineMax = t.hc.lineMax := by rw [h.rest]
  have still : s.standstill = t.standstill := by simp only [State.standstill, hs]
  have c : s.supervisedCeiling ≤ t.supervisedCeiling := by
    have := ceiling_under h
    rw [underTripCeiling_iff] at ht
    rcases ht with ht | ht <;> simpa only [State.supervisedCeiling, haul, ht] using this
  simp only [State.serviceTestNow, State.emergencyTestNow, State.aboveAbsolute, exceedsLevel1, exceedsLevel2,
    still, hv, lineMax, Bool.and_eq_true, Bool.or_eq_true, decide_eq_true_eq]
  generalize fineSpeed t.lineSpeed = v
  constructor
  · rintro ⟨h1, h2, h3⟩
    exact ⟨h1, by omega, by omega⟩
  · rintro ⟨h1, h2 | h2⟩
    · exact ⟨h1, .inl ⟨by omega, by omega⟩⟩
    · exact ⟨h1, .inr h2⟩

/-- A halving search finds the first place at which a predicate that goes on holding holds. -/
theorem bisect_least (p : Nat → Bool) : ∀ n lo hi m, hi - lo ≤ 2 ^ n → lo < m →
    (∀ a b, a ≤ b → b ≤ hi → p a = true → p b = true) → m ≤ hi → p m = true → bisect p n lo hi ≤ m
  | 0, lo, hi, m, hs, hm, _, _, _ => by simp only [bisect]; omega
  | n + 1, lo, hi, m, hs, hm, mono, hmh, hp => by
    rw [Nat.pow_succ] at hs
    simp only [bisect]
    split
    · omega
    · split
      · rename_i hmid
        by_cases hle : m ≤ (lo + hi) / 2
        · exact bisect_least p n lo _ m (by omega) hm (fun a b h1 h2 => mono a b h1 (by omega)) hle hp
        · have := (bisect_bounds p n lo ((lo + hi) / 2) (by omega)).2
          omega
      · rename_i hmid
        refine bisect_least p n _ hi m (by omega) ?_ mono hmh hp
        by_contra hc
        exact hmid (mono m _ (by omega) (by omega) hp)

/-- A test that goes on holding, and holds after some of the next d microseconds but not now, begins to hold no
later than that. -/
theorem risesWithin_first {s : State} {test : State → Bool} {d m : Nat} (hm : m ≤ d)
    (mono : ∀ a b, a ≤ b → b ≤ d → test (elapse a s) = true → test (elapse b s) = true)
    (now : test (elapse 0 s) = true → test s = true) (h0 : test s = false) (h1 : test (elapse m s) = true) :
    ∃ x, s.risesWithin test d = some x ∧ x ≤ m := by
  have pos : 0 < m := by
    rcases Nat.eq_zero_or_pos m with z | z
    · subst z; rw [now h1] at h0; cases h0
    · exact z
  have hd := mono m d hm (Nat.le_refl _) h1
  refine ⟨_, ?_, bisect_least (fun k => test (elapse k s)) (d.log2 + 1) 0 d m ?_ pos mono hm h1⟩
  · simp only [State.risesWithin, h0, hd]
    rw [if_neg (by simp; omega)]
  · exact Nat.le_of_lt (by simpa using Nat.lt_log2_self (n := d))

/-- The next change of an estimate is still to come. -/
theorem nextChange_later {s : State} {u : Nat} (h : s.nextChange = some u) : s.now < u := by
  have one : ∀ (ch : SpeedChannel) (c : Option Nat) (n v : Nat), ch.nextChange c n = some v → n < v := by
    intro ch c n v hv
    simp only [SpeedChannel.nextChange] at hv
    split at hv
    · rename_i cpm oldest newest _ _
      generalize ch.history.length - 1 = k at hv
      generalize newest - oldest = span at hv
      by_cases hq : (ch.quiet || decide (k = 0)) = true
      · rw [if_pos hq] at hv; cases hv
      rw [if_neg hq] at hv
      have hk : 0 < k := by
        rcases Nat.eq_zero_or_pos k with z | z
        · subst z; simp at hq
        · exact z
      by_cases hb : (n - newest) * k ≤ 4 * span
      · rw [if_pos hb] at hv
        cases hv
        have := (Nat.le_div_iff_mul_le hk).2 hb
        generalize 4 * span / k = y at this ⊢
        omega
      · rw [if_neg hb] at hv
        have t0 : n - newest ≠ 0 := by intro z; rw [z] at hb; omega
        have e0 : estimateMagnitude cpm k span (n - newest)
            = (20000000000 + cpm * (n - newest)) / (2 * (cpm * (n - newest))) := by
          simp only [estimateMagnitude, if_neg (Nat.pos_iff_ne_zero.1 hk), if_neg hb, t0, and_false, if_false,
            decayed_eq]
        rw [e0] at hv
        generalize hw : (20000000000 + cpm * (n - newest)) / (2 * (cpm * (n - newest))) = w at hv
        by_cases hz : w = 0
        · rw [if_pos hz] at hv; cases hv
        rw [if_neg hz] at hv
        cases hv
        have hc : 0 < cpm := by
          rcases Nat.eq_zero_or_pos cpm with z | z
          · subst z; simp at hw; omega
          · exact z
        have p0 : 0 < cpm * (n - newest) := Nat.mul_pos hc (by omega)
        have h1 : w * (2 * (cpm * (n - newest))) ≤ 20000000000 + cpm * (n - newest) := by
          rw [← hw]; exact Nat.div_mul_le_self _ _
        obtain ⟨x, rfl⟩ : ∃ x, w = x + 1 := ⟨w - 1, by omega⟩
        have e2 : 2 * (x + 1) - 1 = 2 * x + 1 := by omega
        have h2 : n - newest ≤ 20000000000 / (cpm * (2 * (x + 1) - 1)) := by
          rw [e2, Nat.le_div_iff_mul_le (Nat.mul_pos hc (by omega))]
          nlinarith [h1]
        generalize 20000000000 / (cpm * (2 * (x + 1) - 1)) = y at h2 ⊢
        omega
    · cases hv
  simp only [State.nextChange] at h
  cases hx : s.stu.speed.fst.nextChange (s.cpm? .drive) s.now with
  | none =>
    rw [hx] at h
    exact one _ _ _ _ h
  | some x =>
    rw [hx] at h
    have := one _ _ _ _ hx
    cases hy : s.stu.speed.snd.nextChange (s.cpm? .sheave) s.now with
    | none => rw [hy] at h; cases h; exact this
    | some y =>
      rw [hy] at h
      have := one _ _ _ _ hy
      cases h
      omega

/-- In the steady span no estimate changes. -/
theorem span_estimate {s : State} {t k : Nat} (ht : s.now ≤ t) (hk : k ≤ s.steadyUntil t - s.now) (e : Encoder) :
    (elapse k s).estimate e = s.estimate e := by
  apply elapse_estimate
  intro u hu
  have hn := nextChange_later hu
  simp only [State.steadyUntil, State.estimateChange, hu] at hk
  by_cases hle : u ≤ t
  · rw [Option.filter_some, if_pos (by simp; omega)] at hk
    dsimp only at hk
    omega
  · rw [Option.filter_some, if_neg (by simp; omega)] at hk
    dsimp only at hk
    omega

/-- What comes before the next judged moment lies in the steady span, before a test begins to hold. -/
theorem before_moment {s : State} {t m : Nat} (ht : s.now + m ≤ t)
    (h : ∀ u, s.nextMoment t = some u → s.now + m < u) :
    m ≤ s.steadyUntil t - s.now ∧ ∀ d, s.overspeedWithin (s.steadyUntil t - s.now) = some d → m < d := by
  simp only [State.nextMoment] at h
  cases ho : s.overspeedWithin (s.steadyUntil t - s.now) with
  | some d =>
    rw [ho] at h
    have b := overspeedWithin_bounds ho
    have := h _ rfl
    exact ⟨by omega, fun d' hd => by cases hd; omega⟩
  | none =>
    rw [ho] at h
    refine ⟨?_, fun d hd => by cases hd⟩
    simp only [State.steadyUntil]
    cases hc : s.estimateChange t with
    | none => dsimp only; omega
    | some u =>
      have := h u hc
      dsimp only
      omega

/-- Before the next judged moment no estimate changes (02 R21). -/
theorem moment_estimate {s : State} {t m : Nat} (ht : s.now + m ≤ t)
    (h : ∀ u, s.nextMoment t = some u → s.now + m < u) (e : Encoder) :
    (elapse m s).estimate e = s.estimate e :=
  span_estimate (by omega) (before_moment ht h).1 e

/-- Where no ceiling falls passing time lowers none. -/
theorem under_elapse {s : State} {m : Nat} (h : m = 0 ∨ s.ceilingFalls = false) : Under s (elapse m s) := by
  refine ⟨rfl, rfl, fun n => ?_⟩
  rcases class_elapse s m n with ⟨h1, h2⟩ | ⟨l, d, h1, h2⟩
  · exact .inl ⟨h1, h2⟩
  · refine .inr ⟨_, _, h1, h2 m, ?_⟩
    rw [List.forall₂_map_right_iff, List.forall₂_same]
    intro g hg
    have f := fall_fields d m g
    refine ⟨f.1.symm, f.2.2.symm, ?_⟩
    rw [effective_fall]
    simp only [Segment.effective]
    rcases h with h | h
    · subst h
      cases g.falling with
      | none => exact Nat.le_refl _
      | some v => dsimp only; omega
    · have none : g.falling = none := by
        by_contra hne
        have mem : some l ∈ s.hc.classes := by
          simp only [State.class?] at h1
          cases hc : s.hc.classes[n - 1]? with
          | none => rw [hc] at h1; cases h1
          | some c =>
            rw [hc] at h1
            simp only [Option.getD_some] at h1
            exact h1 ▸ List.mem_of_getElem? hc
        have : s.ceilingFalls = true := by
          simp only [State.ceilingFalls, List.any_eq_true]
          refine ⟨some l, mem, ?_⟩
          simp only [List.any_eq_true]
          exact ⟨g, hg, by cases hf : g.falling <;> simp_all⟩
        rw [h] at this
        cases this
      rw [none]

/-- Before the next judged moment no overspeed test begins to hold under the ceiling of a trip (04 R70). -/
theorem moment_overspeed {s : State} {t m : Nat} (hh : s.underTripCeiling = true) (ht : s.now + m ≤ t)
    (h : ∀ u, s.nextMoment t = some u → s.now + m < u) :
    ((elapse m s).serviceTestNow = true → s.serviceTestNow = true) ∧
      ((elapse m s).emergencyTestNow = true → s.emergencyTestNow = true) := by
  have b := before_moment ht h
  have speed : ∀ k, k ≤ s.steadyUntil t - s.now → (elapse k s).lineSpeed = s.lineSpeed := fun k hk => by
    simp only [State.lineSpeed, span_estimate (show s.now ≤ t by omega) hk]
  revert b speed
  generalize s.steadyUntil t - s.now = D
  intro b speed
  by_cases hf : s.ceilingFalls = true
  · have zero := tests_under (under_elapse (s := s) (m := 0) (.inl rfl)) hh rfl (speed 0 (by omega)).symm
    have mono : ∀ a b, a ≤ b → b ≤ D →
        ((elapse a s).serviceTestNow = true → (elapse b s).serviceTestNow = true) ∧
        ((elapse a s).emergencyTestNow = true → (elapse b s).emergencyTestNow = true) := fun a b hab hb =>
      tests_under (elapse_under s hab) (show (elapse a s).underTripCeiling = true from hh) rfl
        ((speed b hb).trans (speed a (by omega)).symm)
    have ho := b.2
    simp only [State.overspeedWithin, hh, hf, Bool.and_self, if_true] at ho
    constructor
    · intro h1
      by_contra h0
      obtain ⟨x, hx, hxm⟩ := risesWithin_first (test := State.serviceTestNow) b.1
        (fun a b hab hb => (mono a b hab hb).1) zero.1 (by simpa using h0) h1
      rw [hx] at ho
      cases hy : s.risesWithin State.emergencyTestNow D with
      | none => rw [hy] at ho; have := ho _ rfl; omega
      | some y => rw [hy] at ho; have := ho _ rfl; omega
    · intro h1
      by_contra h0
      obtain ⟨y, hy, hym⟩ := risesWithin_first (test := State.emergencyTestNow) b.1
        (fun a b hab hb => (mono a b hab hb).2) zero.2 (by simpa using h0) h1
      rw [hy] at ho
      cases hx : s.risesWithin State.serviceTestNow D with
      | none => rw [hx] at ho; have := ho _ rfl; omega
      | some x => rw [hx] at ho; have := ho _ rfl; omega
  · exact tests_under (under_elapse (.inr (by simpa using hf))) hh rfl (speed m b.1).symm

end Sys2Proof.Machine
end

