-- ==== Sys2Proof/Laws/Lists.lean ====
section
/-!
SUPPORT. What the list operations of Operands and of the blocks come to: a place changed, an ascending set,
a list without repeats, and the fault table slot by slot.
-/

namespace Sys2Proof.Machine

/-! ### Lists -/

/-- The list with place i changed, place by place. -/
theorem getElem?_updateAt {α : Type} (f : α → α) : ∀ (l : List α) (i j : Nat),
    (updateAt i f l)[j]? = if j = i then (l[j]?).map f else l[j]?
  | [], i, j => by simp [updateAt]
  | x :: xs, 0, 0 => by simp [updateAt]
  | x :: xs, 0, j + 1 => by simp [updateAt]
  | x :: xs, i + 1, 0 => by simp [updateAt]
  | x :: xs, i + 1, j + 1 => by simp [updateAt, getElem?_updateAt f xs i j]

/-- A place changed leaves the length. -/
@[simp] theorem length_updateAt {α : Type} (f : α → α) : ∀ (l : List α) (i : Nat),
    (updateAt i f l).length = l.length
  | [], i => by simp [updateAt]
  | x :: xs, 0 => by simp [updateAt]
  | x :: xs, i + 1 => by simp [updateAt, length_updateAt f xs i]

/-- An ascending set after an insertion holds the new number and the old ones. -/
theorem mem_insertSet (x y : Nat) : ∀ l : List Nat, y ∈ insertSet x l ↔ y = x ∨ y ∈ l
  | [] => by simp [insertSet]
  | z :: zs => by
    simp only [insertSet]
    split_ifs with h1 h2
    · simp
    · simp [h2]
    · simp only [List.mem_cons, mem_insertSet x y zs]
      tauto

/-- No number stands twice exactly when the list is without repeats. -/
theorem noneTwice_iff : ∀ l : List Nat, noneTwice l = true ↔ l.Nodup
  | [] => by simp [noneTwice]
  | x :: xs => by simp [noneTwice, noneTwice_iff xs]

/-- The same for the check of lane ids. -/
theorem distinct_iff : ∀ l : List Nat, distinct l = true ↔ l.Nodup
  | [] => by simp [distinct]
  | x :: xs => by simp [distinct, distinct_iff xs]

/-! ### The fault table -/

/-- The key of a rank is the one at that place of the ranking. -/
theorem key_of_rank {k : FaultKey} (h : k ∈ allKeys) : allKeys[k.rank]? = some k := by
  have key : ∀ k ∈ allKeys, allKeys[k.rank]? = some k := by decide +kernel
  exact key k h

/-- A removal slot by slot. -/
theorem slot_removed (p : FaultKey → FaultRec → Bool) (t : FaultTable) {k : FaultKey} (h : k ∈ allKeys) :
    (t.removed p).slot k = (t.slot k).bind (fun r => if p k r then none else some r) := by
  simp only [FaultTable.slot, FaultTable.removed, List.getElem?_zipWith, key_of_rank h]
  cases h2 : t.slots[k.rank]? with
  | none => simp
  | some x => cases x <;> simp

/-- A raise at its own slot. -/
theorem slot_raised_same (t : FaultTable) {k : FaultKey} (clock : Nat) (h : k ∈ allKeys)
    (hl : t.slots.length = 69) :
    (t.raised k clock).slot k = some (raisedRecord k.code.kind clock (t.slot k)) := by
  have hr : k.rank < t.slots.length := by
    rw [hl]
    have h1 := key_of_rank h
    by_contra h2
    rw [List.getElem?_eq_none (by
      have : allKeys.length = 69 := by decide +kernel
      omega)] at h1
    cases h1
  simp only [FaultTable.slot, FaultTable.raised, getElem?_updateAt]
  simp [List.getElem?_eq_getElem hr]

/-- A raise at every other slot. -/
theorem slot_raised_other (t : FaultTable) {k k' : FaultKey} (clock : Nat) (h : k' ∈ allKeys)
    (hk : k ∈ allKeys) (hn : k' ≠ k) : (t.raised k clock).slot k' = t.slot k' := by
  have hr : k'.rank ≠ k.rank := by
    intro he
    have h1 := key_of_rank h
    rw [he, key_of_rank hk] at h1
    cases h1
    exact hn rfl
  simp only [FaultTable.slot, FaultTable.raised, getElem?_updateAt, if_neg hr]

/-- A slot is reported after a removal when it was reported before and is not removed. -/
theorem mem_entries_removed (p : FaultKey → FaultRec → Bool) (t : FaultTable) (e : FaultEntry) :
    e ∈ (t.removed p).entries ↔ e ∈ t.entries ∧ p e.key e.record = false := by
  simp only [FaultTable.removed, FaultTable.entries]
  generalize allKeys = ks
  obtain ⟨sl⟩ := t
  simp only
  induction ks generalizing sl with
  | nil => simp
  | cons k ks ih =>
    cases sl with
    | nil => simp
    | cons r rs =>
      simp only [List.zipWith_cons_cons, List.zip_cons_cons, List.filterMap_cons]
      cases r with
      | none => simpa using ih rs
      | some x =>
        have := ih rs
        by_cases hp : p k x = true
        · simp only [hp, if_true]
          simp only [this, List.mem_cons]
          constructor
          · rintro ⟨a, b⟩
            exact ⟨.inr a, b⟩
          · rintro ⟨a | a, b⟩
            · subst a
              simp [hp] at b
            · exact ⟨a, b⟩
        · simp only [hp, List.mem_cons, Bool.false_eq_true, if_false]
          rw [this]
          constructor
          · rintro (a | a)
            · subst a
              simpa using hp
            · exact ⟨.inr a.1, a.2⟩
          · rintro ⟨a | a, b⟩
            · exact .inl a
            · exact .inr ⟨a, b⟩

/-- A condition that has ended ends no further. -/
theorem ended_ended (k : FaultKey) (t : FaultTable) : (t.ended k).ended k = t.ended k := by
  have slot : ∀ r, endedSlot k.code.kind (endedSlot k.code.kind r) = endedSlot k.code.kind r := by
    intro r
    rcases r with _ | ⟨_ | _, f, l, c⟩ <;> cases hk : k.code.kind <;> simp [endedSlot, hk]
  simp only [FaultTable.ended, FaultTable.mk.injEq]
  apply List.ext_getElem?
  intro j
  simp only [getElem?_updateAt]
  split
  · cases t.slots[j]? <;> simp [slot]
  · rfl

/-- What passing time leaves where no trip ceiling supervises: HC but for the classes and the ramp, GQU, LL,
BL but for the two test flags, and the fault table but for the condition of ENCODER_DISAGREE. -/
structure Still (s t : State) : Prop where
  hc : t.hc = { s.hc with classes := t.hc.classes, ramp := t.hc.ramp }
  gqu : t.gqu = s.gqu
  ll : t.ll = s.ll
  bl : t.bl = { s.bl with serviceTest := t.bl.serviceTest, emergencyTest := t.bl.emergencyTest }
  ft : t.ft = s.ft ∨ t.ft = s.ft.ended ⟨.encoderDisagree, 0⟩

/-- What the followed moments leave where no trip ceiling supervises (02 R26; 03 R40; 04 R70). -/
theorem follow_frame (n t : Nat) (s : State) (h : s.underTripCeiling = false) :
    Still s (followMoments n t s) := by
  have pass : ∀ (s : State) (dt : Nat), Still s (elapse dt s) := fun s dt => ⟨rfl, rfl, rfl, rfl, .inl rfl⟩
  have judge : ∀ s : State, s.underTripCeiling = false → Still s (judgeMoment s) := by
    intro s h
    have f := judgeMoment_still s h
    refine ⟨by rw [f.1], f.2.1, f.2.2.1, f.2.2.2, ?_⟩
    have h1 : (noteEncoders s).underTripCeiling = false := by simpa [State.underTripCeiling] using h
    simp only [judgeMoment, noteEnvelope, h1, Bool.false_eq_true, if_false, modBl_ft]
    simp only [noteEncoders]
    split <;> simp [endCondition]
  have trans : ∀ a b c : State, Still a b → Still b c → Still a c := by
    intro a b c x y
    refine ⟨by rw [y.hc, x.hc], by rw [y.gqu, x.gqu], by rw [y.ll, x.ll], by rw [y.bl, x.bl], ?_⟩
    rcases x.ft with g | g <;> rcases y.ft with k | k <;> rw [k, g] <;> simp [ended_ended]
  have calm : ∀ s t : State, Still s t → s.underTripCeiling = false → t.underTripCeiling = false := by
    intro s t x h
    have e : t.hc.haul = s.hc.haul := by rw [x.hc]
    simpa only [State.underTripCeiling, e] using h
  have follow : ∀ n t s, s.underTripCeiling = false → Still s (followMoments n t s) := by
    intro n
    induction n with
    | zero => intro t s _; exact pass s _
    | succ n ih =>
      intro t s h
      simp only [followMoments]
      split
      · exact pass s _
      · rename_i u _
        have h1 := calm _ _ (pass s (u - s.now)) h
        have x := judge _ h1
        exact trans _ _ _ (pass s _) (trans _ _ _ x (ih t _ (calm _ _ x h1)))
  exact follow _ _ _ h

/-- What passing time leaves where no trip ceiling supervises (02 R26; 03 R40; 04 R70). -/
theorem passTime_frame (s : State) (dt : Nat) (h : s.underTripCeiling = false) : Still s (passTime dt s) :=
  follow_frame _ _ _ h

/-! ### Demands -/

/-- The trip record is all that an abandonment changes in HC. -/
theorem abandonTrip_hc (s : State) (c : EndCause) : (abandonTrip c s).hc
    = { s.hc with trip := { s.hc.trip with state := .abandoned, cause := some c } } := by
  simp only [abandonTrip]
  split <;> simp

/-- A class EMERGENCY demand leaves the haul TRIPPED and the drive without torque. -/
theorem emergencyDemand_haul (s : State) (c : Option FaultCode) :
    (emergencyDemand c s).hc.haul = .tripped ∧ (emergencyDemand c s).hc.drive = .noTorque := by
  simp only [emergencyDemand]
  (repeat' split) <;> simp_all [abandonTrip_hc, command]

/-- A class EMERGENCY demand asks both brakes to apply. -/
theorem emergencyDemand_brake (s : State) (c : Option FaultCode) (b : Brake) :
    (emergencyDemand c s).bl.brakes.brake b = (s.bl.brakes.brake b).applied b s.now := by
  simp only [emergencyDemand]
  (repeat' split) <;> cases b <;> simp_all [applyBrake, modBrake, Two.brake, Two.setBrake, command]

/-- A brake that was asked to apply is neither RELEASED nor RELEASING. -/
theorem applied_state (b : Brake) (n : Nat) (r : BrakeRec) :
    (r.applied b n).state ≠ .released ∧ (r.applied b n).state ≠ .releasing := by
  simp only [BrakeRec.applied]
  split <;> simp_all

/-! ### The ramp while time passes (03 R43) -/

/-- OVERSPEED_SERVICE stops a trip in RUNNING or APPROACH. -/
theorem raise_service_haul (s : State) (h : s.hc.haul = .running ∨ s.hc.haul = .approach) :
    (raise ⟨.overspeedService, 0⟩ s).hc.haul = .stopping := by
  have c : FaultCode.overspeedService.cls = .service := rfl
  simp only [raise, handOn, c]
  generalize hq : s.modFt (FaultTable.raised ⟨.overspeedService, 0⟩ s.tt.clock) = q
  have base : q.hc = s.hc := by rw [← hq]; rfl
  have dem : (serviceDemand .overspeedService q).hc.haul = .stopping := by
    rcases h with h | h <;> simp [serviceDemand, base, h, enterStopping]
  simp only [abandonDeparture, dem]

/-- OVERSPEED_EMERGENCY trips the haul. -/
theorem raise_emergency_haul (s : State) : (raise ⟨.overspeedEmergency, 0⟩ s).hc.haul = .tripped := by
  have c : FaultCode.overspeedEmergency.cls = .emergency := rfl
  simp only [raise, handOn, c]
  exact (emergencyDemand_haul _ _).1

/-- What is judged at a moment leaves HC alone or stops or trips the haul. -/
theorem judgeMoment_hc (s : State) : (judgeMoment s).hc = s.hc ∨
    (judgeMoment s).hc.haul = .stopping ∨ (judgeMoment s).hc.haul = .tripped := by
  by_cases hu : s.underTripCeiling = true
  · have h1 : (noteEncoders s).underTripCeiling = true := by simpa [State.underTripCeiling] using hu
    rw [underTripCeiling_iff] at hu
    have base : (noteEncoders s).hc = s.hc := noteEncoders_hc s
    simp only [judgeMoment, noteEnvelope, h1, if_true]
    generalize noteEncoders s = q at base
    simp only [judgeEnvelope, modBl_hc]
    split
    · exact .inr (.inr (raise_emergency_haul _))
    · split
      · exact .inr (.inl (raise_service_haul q (by rw [base]; exact hu)))
      · exact .inl base
  · exact .inl (judgeMoment_still s (by simpa using hu)).1

/-- The active segment of a class after a time is the one of before, its ceiling apart. -/
theorem activeSegment_elapse (s : State) (dt n : Nat) :
    ((elapse dt s).activeSegment n).map (fun g => (g.accel, g.decel))
      = (s.activeSegment n).map (fun g => (g.accel, g.decel)) := by
  have acc : ∀ d (g : Segment), (g.fall d dt).accel = g.accel := by
    intro d g
    simp only [Segment.fall]
    (repeat' split) <;> rfl
  have pos : (elapse dt s).carPos .a = s.carPos .a := carPos_congr rfl .a
  simp only [State.activeSegment, pos]
  rcases class_elapse s dt n with ⟨h1, h2⟩ | ⟨l, d, h1, h2⟩
  · rw [h1, h2]
  · rw [h1, h2 dt]
    dsimp only
    rw [activeIndex_map_fall, List.getElem?_map]
    cases l[activeIndex l (s.carPos .a)]? with
    | none => rfl
    | some g => simp [acc, fall_fields]

/-- The ceiling of a trip does not depend on the ramp. -/
theorem tripCeiling_congr {s t : State} {r : TripRec} (hl : s.lgp = t.lgp)
    (hc : s.hc = { t.hc with ramp := s.hc.ramp }) (hr : t.hc.trip.rec? = some r) :
    s.tripCeiling r = t.tripCeiling r := by
  have under : ∀ {x y : State}, x.lgp = y.lgp → x.hc = { y.hc with ramp := x.hc.ramp } → Under x y := by
    intro x y h1 h2
    have cls : x.hc.classes = y.hc.classes := by rw [h2]
    refine ⟨h1, by rw [cls]; exact h2, fun n => ?_⟩
    have e : x.class? n = y.class? n := by simp only [State.class?, cls]
    rw [e]
    cases y.class? n with
    | none => exact .inl ⟨rfl, rfl⟩
    | some l => exact .inr ⟨l, l, rfl, rfl, List.forall₂_same.mpr fun g _ => ⟨rfl, rfl, Nat.le_refl _⟩⟩
  have hr' : s.hc.trip.rec? = some r := by rw [hc]; exact hr
  have h1 := ceiling_under (under hl hc)
  have h2 := ceiling_under (under hl.symm (show t.hc = { s.hc with ramp := t.hc.ramp } by rw [hc]))
  simp only [State.ceiling, hr, hr'] at h1 h2
  omega

/-- The ceiling of a trip does not rise while only time passes (03 R40). -/
theorem ceilingAfter_falls (s : State) {a b : Nat} {r : TripRec} (h : a ≤ b) (hr : s.hc.trip.rec? = some r) :
    s.ceilingAfter b r ≤ s.ceilingAfter a r := by
  have e : ∀ n, (elapse n s).tripCeiling r = s.ceilingAfter n r := fun n => tripCeiling_congr rfl rfl hr
  have u := ceiling_under (elapse_under s h)
  have ra : (elapse a s).hc.trip.rec? = some r := hr
  have rb : (elapse b s).hc.trip.rec? = some r := hr
  simp only [State.ceiling, ra, rb, e] at u
  exact u

/-- The ceiling of a trip after two intervals is that after their sum. -/
theorem ceilingAfter_add {s t : State} {r : TripRec} (a b : Nat) (hc : t.hc = (elapse a s).hc)
    (hl : t.lgp = s.lgp) (hr : s.hc.trip.rec? = some r) : t.ceilingAfter b r = s.ceilingAfter (a + b) r := by
  have cls : t.fallenClasses b = s.fallenClasses (a + b) := fallenClasses_add a b (by rw [hc]; rfl) hl
  refine tripCeiling_congr hl ?_ hr
  simp only [modHc_hc, cls, hc, elapse_hc]

/-- The ramp changes over two intervals as over their sum. -/
theorem rampAfter_add {s t : State} (a b : Nat) (hc : t.hc = (elapse a s).hc) (hl : t.lgp = s.lgp) :
    t.rampAfter b = s.rampAfter (a + b) := by
  have act : ∀ n, t.activeSegment n = (elapse a s).activeSegment n := fun n => by
    simp only [State.activeSegment, State.class?, hc, carPos_congr (show t.lgp = (elapse a s).lgp from hl)]
  have accel : ∀ k, t.classAccel k = s.classAccel k := by
    intro k
    have := activeSegment_elapse s a k.classNumber
    simp only [State.classAccel, act]
    cases h1 : (elapse a s).activeSegment k.classNumber <;> cases h2 : s.activeSegment k.classNumber <;>
      rw [h1, h2] at this <;> simp_all
  have decel : ∀ k, t.classDecel k = s.classDecel k := by
    intro k
    have := activeSegment_elapse s a k.classNumber
    simp only [State.classDecel, act]
    cases h1 : (elapse a s).activeSegment k.classNumber <;> cases h2 : s.activeSegment k.classNumber <;>
      rw [h1, h2] at this <;> simp_all
  have kind : t.kind = s.kind := by simp only [State.kind, hc, elapse_hc]
  have haul : t.hc.haul = s.hc.haul := by rw [hc]; rfl
  have unref : t.hc.unreferencedTrip = s.hc.unreferencedTrip := by rw [hc]; rfl
  have record : t.hc.trip.rec? = s.hc.trip.rec? := by rw [hc]; rfl
  have rises : t.rampRises = s.rampRises := by simp only [State.rampRises, haul, unref]
  have ramp : t.hc.ramp = s.rampAfter a := by rw [hc]; rfl
  have up : ∀ x, s.classAccel x * (a + b) = s.classAccel x * a + s.classAccel x * b := fun x => Nat.mul_add ..
  have down : ∀ x, s.classDecel x * (a + b) = s.classDecel x * a + s.classDecel x * b := fun x => Nat.mul_add ..
  cases hr : s.hc.trip.rec? with
  | none =>
    simp only [State.rampAfter, record, hr] at ramp ⊢
    cases hh : s.hc.haul <;> cases hu : s.hc.unreferencedTrip <;>
      simp [State.rampFree, haul, hh, unref, hu, kind, accel, decel, up, down] at ramp ⊢ <;> omega
  | some r =>
    have ceilings := ceilingAfter_add (r := r) a b hc hl hr
    have falls := ceilingAfter_falls s (a := a) (b := a + b) (by omega) hr
    simp only [State.rampAfter, record, hr, rises, ceilings] at ramp ⊢
    cases hh : s.hc.haul <;> cases hu : s.hc.unreferencedTrip <;>
      simp [State.rampRises, State.rampFree, haul, hh, unref, hu, kind, accel, decel, up, down] at ramp ⊢ <;> omega

/-- HC after a time in which no raise changed the haul state: its classes have fallen and the ramp has changed
(03 R40, R43). -/
theorem passTime_hc (s : State) (dt : Nat) (h : (passTime dt s).hc.haul = s.hc.haul) :
    (passTime dt s).hc = { s.hc with classes := s.fallenClasses dt, ramp := s.rampAfter dt } := by
  have follow : ∀ n t s, s.now ≤ t → (followMoments n t s).hc.haul = s.hc.haul →
      (followMoments n t s).hc = { s.hc with
        classes := s.fallenClasses (t - s.now), ramp := s.rampAfter (t - s.now) } := by
    intro n
    induction n with
    | zero => intro t s _ _; rfl
    | succ n ih =>
      intro t s ht
      simp only [followMoments]
      split
      · intro _; rfl
      · rename_i u hu
        have b := nextMoment_bounds hu
        intro h
        have hnow : (judgeMoment (elapse (u - s.now) s)).now = u := by
          simp only [judgeMoment_now, elapse_now]; omega
        have same : (judgeMoment (elapse (u - s.now) s)).hc = (elapse (u - s.now) s).hc := by
          rcases judgeMoment_hc (elapse (u - s.now) s) with e | e
          · exact e
          · by_cases hs : s.underTripCeiling = true
            · exfalso
              have calm : (judgeMoment (elapse (u - s.now) s)).underTripCeiling = false := by
                rcases e with e | e <;> simp [State.underTripCeiling, e]
              have stay := congrArg Hc.haul (follow_frame n t _ calm).hc
              rw [underTripCeiling_iff] at hs
              rw [h] at stay
              simp only at stay
              rcases hs with hs | hs <;> rcases e with e | e <;> simp_all
            · have hf : s.underTripCeiling = false := by simpa using hs
              exact (judgeMoment_still (elapse (u - s.now) s) hf).1
        have sum : u - s.now + (t - u) = t - s.now := by omega
        rw [ih t _ (by omega) (by rw [h, same]; rfl), rampAfter_add (u - s.now) _ same (by simp),
          fallenClasses_add (u - s.now) _ (by rw [same]; rfl) (by simp), hnow, sum, same]
        rfl
  simpa [passTime] using follow dt (s.now + dt) s (by omega) (by simpa [passTime] using h)

/-- The ramp after a time in which no raise changed the haul state (03 R43). -/
theorem passTime_ramp (s : State) (dt : Nat) (h : (passTime dt s).hc.haul = s.hc.haul) :
    (passTime dt s).hc.ramp = s.rampAfter dt := by rw [passTime_hc s dt h]

/-- The ceiling of a trip after a time in which no raise changed the haul state (03 R40, R42). -/
theorem passTime_ceiling (s : State) (dt : Nat) {r : TripRec} (h : (passTime dt s).hc.haul = s.hc.haul)
    (hr : s.hc.trip.rec? = some r) : (passTime dt s).tripCeiling r = s.ceilingAfter dt r := by
  refine tripCeiling_congr (by simp) ?_ hr
  simp only [passTime_hc s dt h, modHc_hc]

end Sys2Proof.Machine
end

