-- ==== Sys2Proof/Laws/PerInstr.lean ====
section
/-!
SUPPORT. What holds of every command as syntax, one lemma per constructor: the header and the request of a
well-formed request command fit the widths of their fields.
-/

namespace Sys2Proof.Laws.FrameFits

/-- The header and the request that a well-formed command carries fit their fields (11 section 11.1,
R181). -/
def Statement (i : Instr) : Prop :=
  ∀ h r, i.request? = some (h, r) → wellFormed i = true → h.fits = true ∧ r.fits = true

/-- A well-formed command that carries a request carries one that fits. -/
theorem fits_of_wellFormed (i : Instr) : Statement i := by
  intro h r hr hw
  simp only [wellFormed, hr, Bool.and_eq_true] at hw
  exact hw.1

theorem lineSet (h : Header) (r : LineRec) : Statement (.lineSet h r) := fits_of_wellFormed _
theorem markersSet (h : Header) (limit : Nat) (markers : List MarkerRec) : Statement (.markersSet h limit markers) :=
    fits_of_wellFormed _
theorem profileSet (h : Header) (p : ProfileBody) : Statement (.profileSet h p) := fits_of_wellFormed _
theorem tensionSet (h : Header) (one two : TensionSettings) : Statement (.tensionSet h one two) :=
    fits_of_wellFormed _
theorem lanesSet (h : Header) (lanes : List LaneDesc) : Statement (.lanesSet h lanes) :=
    fits_of_wellFormed _
theorem postsSet (h : Header) (pairs : List (Nat × Nat)) : Statement (.postsSet h pairs) :=
    fits_of_wellFormed _
theorem paramSetAll (h : Header) (p : ParamBody) : Statement (.paramSetAll h p) := fits_of_wellFormed _
theorem paramSetTiming (h : Header) (p : ParamBody) : Statement (.paramSetTiming h p) :=
    fits_of_wellFormed _
theorem ticketsLoad (h : Header) (t : TicketBody) : Statement (.ticketsLoad h t) := fits_of_wellFormed _
theorem ticketsDrop (h : Header) (block : Nat) : Statement (.ticketsDrop h block) := fits_of_wellFormed _
theorem ticketQuery (h : Header) (serial : Nat) : Statement (.ticketQuery h serial) :=
    fits_of_wellFormed _
theorem daySet (h : Header) (day time : Nat) : Statement (.daySet h day time) := fits_of_wellFormed _
theorem modeSet (h : Header) (mode : Nat) : Statement (.modeSet h mode) := fits_of_wellFormed _
theorem dispatch (h : Header) (target direction : Nat) : Statement (.dispatch h target direction) :=
    fits_of_wellFormed _
theorem hold (h : Header) : Statement (.hold h) := fits_of_wellFormed _
theorem resume (h : Header) : Statement (.resume h) := fits_of_wellFormed _
theorem stopNow (h : Header) : Statement (.stopNow h) := fits_of_wellFormed _
theorem tripReset (h : Header) : Statement (.tripReset h) := fits_of_wellFormed _
theorem doorsOpen (h : Header) (pair : Nat) : Statement (.doorsOpen h pair) := fits_of_wellFormed _
theorem doorsClose (h : Header) (pair : Nat) : Statement (.doorsClose h pair) := fits_of_wellFormed _
theorem doorsHoldSet (h : Header) (pair : Nat) : Statement (.doorsHoldSet h pair) := fits_of_wellFormed _
theorem doorsHoldClear (h : Header) (pair : Nat) : Statement (.doorsHoldClear h pair) :=
    fits_of_wellFormed _
theorem laneOpen (h : Header) (lane : Nat) : Statement (.laneOpen h lane) := fits_of_wellFormed _
theorem laneClose (h : Header) (lane : Nat) : Statement (.laneClose h lane) := fits_of_wellFormed _
theorem laneClear (h : Header) (lane : Nat) : Statement (.laneClear h lane) := fits_of_wellFormed _
theorem queueOpen (h : Header) (queue : Nat) : Statement (.queueOpen h queue) := fits_of_wellFormed _
theorem queueClose (h : Header) (queue : Nat) : Statement (.queueClose h queue) := fits_of_wellFormed _
theorem forceStopSet (h : Header) (stop : Nat) : Statement (.forceStopSet h stop) := fits_of_wellFormed _
theorem forceStopClear (h : Header) (stop : Nat) : Statement (.forceStopClear h stop) :=
    fits_of_wellFormed _
theorem weatherSet (h : Header) (weather : Nat) : Statement (.weatherSet h weather) :=
    fits_of_wellFormed _
theorem amend (h : Header) (cls segment ceiling accel decel : Nat) : Statement (.amend h cls segment ceiling accel decel) :=
    fits_of_wellFormed _
theorem brakeTest (h : Header) (brake direction torque duration : Nat) : Statement (.brakeTest h brake direction torque duration) :=
    fits_of_wellFormed _
theorem faultsAck (h : Header) : Statement (.faultsAck h) := fits_of_wellFormed _
theorem restart (h : Header) : Statement (.restart h) := fits_of_wellFormed _
theorem statusRead (h : Header) : Statement (.statusRead h) := fits_of_wellFormed _
theorem carRead (h : Header) (car : Nat) : Statement (.carRead h car) := fits_of_wellFormed _
theorem queueRead (h : Header) (queue place : Nat) : Statement (.queueRead h queue place) :=
    fits_of_wellFormed _
theorem laneRead (h : Header) (lane : Nat) : Statement (.laneRead h lane) := fits_of_wellFormed _
theorem faultsRead (h : Header) : Statement (.faultsRead h) := fits_of_wellFormed _
theorem tripRead (h : Header) : Statement (.tripRead h) := fits_of_wellFormed _
theorem brakesRead (h : Header) : Statement (.brakesRead h) := fits_of_wellFormed _
theorem tensionRead (h : Header) : Statement (.tensionRead h) := fits_of_wellFormed _
theorem unknownKindFrame (h : Header) (kind : Nat) : Statement (.unknownKindFrame h kind) :=
    fits_of_wellFormed _
theorem fullReset : Statement (.fullReset) := fits_of_wellFormed _
theorem restartLine : Statement (.restartLine) := fits_of_wellFormed _
theorem encoderEdge (e : Encoder) (sense : Dir) (elapsed : Nat) : Statement (.encoderEdge e sense elapsed) :=
    fits_of_wellFormed _
theorem estimateDecay (elapsed : Nat) : Statement (.estimateDecay elapsed) := fits_of_wellFormed _
theorem quietExpiry (e : Encoder) : Statement (.quietExpiry e) := fits_of_wellFormed _
theorem disagreementIntervalExpiry : Statement (.disagreementIntervalExpiry) := fits_of_wellFormed _
theorem presenceChange (input : Fin 6) (value : PresenceReport) : Statement (.presenceChange input value) :=
    fits_of_wellFormed _
theorem markerPulse (input : Fin 24) : Statement (.markerPulse input) := fits_of_wellFormed _
theorem tensionConversion (c : Chan) (raw : Fin 65536) : Statement (.tensionConversion c raw) :=
    fits_of_wellFormed _
theorem missingConversionExpiry (c : Chan) : Statement (.missingConversionExpiry c) :=
    fits_of_wellFormed _
theorem brakeFeedbackChange (b : Brake) (input : FeedbackInput) (value : Bool) : Statement (.brakeFeedbackChange b input value) :=
    fits_of_wellFormed _
theorem releaseProofExpiry (b : Brake) : Statement (.releaseProofExpiry b) := fits_of_wellFormed _
theorem applyProofExpiry (b : Brake) : Statement (.applyProofExpiry b) := fits_of_wellFormed _
theorem driveReportChange (ready : Bool) : Statement (.driveReportChange ready) := fits_of_wellFormed _
theorem escalationSample : Statement (.escalationSample) := fits_of_wellFormed _
theorem escalationCheck : Statement (.escalationCheck) := fits_of_wellFormed _
theorem warningExpiry : Statement (.warningExpiry) := fits_of_wellFormed _
theorem pulseExpiry : Statement (.pulseExpiry) := fits_of_wellFormed _
theorem carTrackBrakeReport (c : Car) (applied : Bool) : Statement (.carTrackBrakeReport c applied) :=
    fits_of_wellFormed _
theorem carEmergencyButtonReport (c : Car) (pressed : Bool) : Statement (.carEmergencyButtonReport c pressed) :=
    fits_of_wellFormed _
theorem carStopRequest (c : Car) (station : Nat) : Statement (.carStopRequest c station) :=
    fits_of_wellFormed _
theorem carDoorReport (c : Car) (closed opened obstructed : Bool) : Statement (.carDoorReport c closed opened obstructed) :=
    fits_of_wellFormed _
theorem carLineSilenceExpiry (c : Car) : Statement (.carLineSilenceExpiry c) := fits_of_wellFormed _
theorem platformDoorInputChange (station : Fin 6) (input : DoorInput) (value : Bool) : Statement (.platformDoorInputChange station input value) :=
    fits_of_wellFormed _
theorem openProofExpiry (set : Fin 8) : Statement (.openProofExpiry set) := fits_of_wellFormed _
theorem closeProofExpiry (set : Fin 8) : Statement (.closeProofExpiry set) := fits_of_wellFormed _
theorem dwellExpiry : Statement (.dwellExpiry) := fits_of_wellFormed _
theorem lanePresentation (lane : Fin 16) (serial : Fin 4294967296) : Statement (.lanePresentation lane serial) :=
    fits_of_wellFormed _
theorem lanePassage (lane : Fin 16) : Statement (.lanePassage lane) := fits_of_wellFormed _
theorem passageTimeout (lane : Fin 16) : Statement (.passageTimeout lane) := fits_of_wellFormed _
theorem leafJam (lane : Fin 16) : Statement (.leafJam lane) := fits_of_wellFormed _
theorem leafJamWithdrawn (lane : Fin 16) : Statement (.leafJamWithdrawn lane) := fits_of_wellFormed _
theorem settleIntervalExpiry : Statement (.settleIntervalExpiry) := fits_of_wellFormed _
theorem supervisionExpiry : Statement (.supervisionExpiry) := fits_of_wellFormed _
theorem linkByte (b : Byte) : Statement (.linkByte b) := fits_of_wellFormed _
theorem gapIntervalExpiry : Statement (.gapIntervalExpiry) := fits_of_wellFormed _
theorem frameSendEnd : Statement (.frameSendEnd) := fits_of_wellFormed _
theorem effectiveCeilingFall (elapsed : Nat) : Statement (.effectiveCeilingFall elapsed) :=
    fits_of_wellFormed _
theorem lineClockStop : Statement (.lineClockStop) := fits_of_wellFormed _

end Sys2Proof.Laws.FrameFits
end

