-- ==== Sys2Proof/Tests/Slice0.lean ====
section
/-!
SUPPORT. The model's own tests: ill-formed commands that the check refuses, one effect for each command,
and for each statement with hypotheses a state and operands that meet them.
-/

open Sys2Proof Sys2Proof.Machine

namespace Sys2Proof.Tests

set_option Elab.async false

/-! ### A line of four stations that stands ready -/

/-- Post 0 at level 0, tag 7. -/
def hdr : Header := ⟨7, 0, 0⟩

/-- A line of four stations, 1,800 m long. -/
def line4 : LineRec :=
  { length := 1800000, stations := 4,
    table := [⟨1, 20000, 2, 0, [0, 1]⟩, ⟨2, 600000, 3, 1, [2]⟩, ⟨3, 1200000, 4, 2, [3]⟩,
              ⟨4, 1780000, 5, 3, [4, 5]⟩],
    loopStart := 860000, loopEnd := 940500, window := 150, margin := 0, driveCpm := 4000,
    sheaveCpm := 2000 }

/-- The same with the defaults of the fields that 0 selects. -/
def line4' : LineRec := lineDefaults line4

/-- One marker on each track. -/
def markers4 : List MarkerRec :=
  [⟨300000, 0, 1000⟩, ⟨880000, 1, 500⟩, ⟨920000, 2, 500⟩, ⟨1500000, 3, 1000⟩]

/-- A class of two segments. -/
def profile (n : Nat) : ProfileBody :=
  { cls := n, lineMax := 12000, inspection := 0, segments := [⟨0, 8000, 500, 500⟩, ⟨700000, 6000, 400, 400⟩] }

/-- Settings of a tension channel. -/
def tension : TensionSettings :=
  { range := 1, rate := 10, window := 2, gain := 500, offset := -1000, min := -900000, max := 900000,
    standbyMin := -900000, standbyMax := 900000 }

/-- Five lanes. -/
def lanes5 : List LaneDesc := [⟨0, 0, 0⟩, ⟨1, 0, 2⟩, ⟨2, 1, 0⟩, ⟨3, 2, 1⟩, ⟨4, 3, 1⟩]

/-- The fields of PARAM_SET. -/
def params : ParamBody :=
  { dwell := 30, warning := 5000, passageTimeout := 8000, passback := 600, supervision := 10000,
    capacity := 80, mass := 80, imb1 := 1000, imb2 := 2000, imb3 := 3000, tolerance := 200,
    offsets := List.replicate 10 (20, 0) }

/-- One hundred single tickets. -/
def tickets : TicketBody :=
  { block := 1, first := 1000, count := 100, cls := 0, firstDay := 0, lastDay := 9,
    bitmap := List.replicate 13 0 }

/-- Command i done; the state itself should it stop. -/
def after (i : Instr) (s : State) : State :=
  match exec i s with
  | .next t => t
  | _ => s

/-- The reply that stands in the slot or on the line. -/
def replyOf (s : State) : Option Reply :=
  match s.ll.replySlot, s.ll.sending with
  | some r, _ => some r
  | none, some { frame := .reply r, due := _ } => some r
  | none, _ => none

/-- The refusal code of that reply: none without a reply or for a DONE one. -/
def codeOf (s : State) : Option RefusalCode := (replyOf s).bind Reply.refusal

/-- A brake at rest in a state. -/
def brakeAt (x : BrakeState) : BrakeRec :=
  { state := x, appliedIn := decide (x = .applied), releasedIn := decide (x = .released), proofDue := none }

/-- A quiet speed channel. -/
def quietChannel : SpeedChannel :=
  { history := [], sense := none, lastEdge := none, quiet := true, quietDue := none }

/-- A tension channel with two readings of 14,000 kg. -/
def tensionChannel : TensionChannel :=
  { range := 1, rate := 10, size := 2, gain := 500, offset := -1000,
    limits := some { min := -900000, max := 900000, standbyMin := -900000, standbyMax := 900000 },
    state := .valid, window := [14000000, 14000000], latest := some (30000, 14000000),
    average := some 14000000, outside := 0, limitCondition := false, standbyFlag := false,
    missingDue := some 400000 }

/-- A live car line that will be silent at 2 s. -/
def aliveLine : CarLine :=
  { alive := true, brakeApplied := false, buttonPressed := false, requests := [], silenceDue := some 2000000 }

/-- A PASS of today. -/
def passed : TestRec := { pass := true, day := 0, slip := 0, torque := 100, dir := .up }

/-- An open entry lane at station n. -/
def entryLane (i n : Nat) (x : LaneRole) : Lane :=
  { id := i, station := n, role := x, hostClosed := false, jammed := false, passage := none,
    lastSerial := none, lastOutcome := none, countDay := 0, admissions := 0, refusals := 0, passages := 0,
    unpaid := 0 }

/-- A LOCKED door set. -/
def lockedSet : DoorSet :=
  { state := .locked, command := .none, proof := none, reopen := 0, hold := false, lastProof := none }

/-- The line configured, proven and parked at stop 0 in ATTENDED, with nothing on the link. -/
def ready : State :=
  { State.reset with
    lgp := { Lgp.reset with
      line := some line4', markers := markers4, p := 80000000, position := .referenced,
      presence := ⟨some 0, some 3⟩, presenceIn := [.carA, .none, .none, .carB, .none, .none] }
    stu := { Stu.reset with
      speed := ⟨quietChannel, quietChannel⟩, tension := ⟨tensionChannel, tensionChannel⟩ }
    hc := { Hc.reset with
      classes := List.replicate 4 (some [⟨0, 8000, 500, 500, none⟩, ⟨700000, 6000, 400, 400, none⟩]),
      lineMax := some 12000, inspection := some 1000, weather := .dry, haul := .parked,
      thresholds := some (1000, 2000, 3000), carLine := ⟨aliveLine, aliveLine⟩, drive := .noTorque }
    bl := { Bl.reset with brakes := ⟨brakeAt .applied, brakeAt .released⟩ }
    bpu := { Bpu.reset with records := ⟨some passed, some passed⟩ }
    dc := { Dc.reset with
      inputs := List.replicate 8 { closed := true, opened := false, obstructed := false },
      sets := List.replicate 6 lockedSet }
    tt := { Tt.reset with
      blocks := [{ id := 1, first := 1000, count := 100, cls := .single, firstDay := 0, lastDay := 9,
                   marks := 2 },
                 { id := 2, first := 5000, count := 10, cls := .day, firstDay := 1, lastDay := 9,
                   marks := 0 }] }
    gqu := { Gqu.reset with
      lanes := [entryLane 0 0 .entryUp, entryLane 1 0 .exit, entryLane 2 1 .entryUp,
                entryLane 3 2 .entryDown, entryLane 4 3 .entryDown],
      queues := List.replicate 6 { hostClosed := false, entries := [] }, capacity := some 80,
      tolerance := some 200 }
    mau := { Mau.reset with
      mode := .attended, supervision := .running, supDue := some 2000000,
      config := { line := true, profiles := List.replicate 4 true, tension := true, lanes := true,
                  params := true } }
    ll := { Ll.reset with notices := [] } }

/-- The same in line mode OFF, the haul TRIPPED and the emergency brake APPLIED. -/
def asleep : State :=
  { ready with
    hc := { ready.hc with haul := .tripped }
    bl := { ready.bl with brakes := ⟨brakeAt .applied, brakeAt .applied⟩ }
    mau := { ready.mau with mode := .off, supervision := .suspended, supDue := none } }

/-- In another line mode. -/
def inMode (m : LineMode) (s : State) : State := s.modMau fun x => { x with mode := m }

/-- In another haul state. -/
def inHaul (x : HaulState) (s : State) : State := s.modHc fun h => { h with haul := x }

/-- A trip from stop 0 to stop 3. -/
def trip03 : TripRec :=
  { number := 5, origin := some 0, target := some 3, dir := .up, kind := .cls 1, committed := false,
    batches := none, reapproach := false, startTime := 0, topSpeed := 0 }

/-- The line RUNNING up at 100 m, both brakes RELEASED. -/
def running : State :=
  { ready with
    lgp := { ready.lgp with p := 400000000 }
    hc := { ready.hc with
      haul := .running, trip := { state := .active, rec? := some trip03, cause := none },
      drive := .speed .up 300000000, ramp := 300000000 }
    bl := { ready.bl with brakes := ⟨brakeAt .released, brakeAt .released⟩ } }

/-- The line in the departure warning, which ends at 5 s. -/
def warning : State :=
  { ready with
    hc := { ready.hc with
      haul := .warning, warnDue := some 5000000,
      trip := { state := .active, rec? := some trip03, cause := none } } }

/-- A service stop of a stage, sampled or not. -/
def stopping (stage : Nat) (sample : Option Nat) : State :=
  { running with
    hc := { running.hc with haul := .stopping }
    bl := { running.bl with
      stop := some { stage := stage, start := 0, ceiling := 8000000000, cause := .hold, sample := sample,
                     nextDue := 500000 } } }

/-- A fault slot made ACTIVE or ENDED. -/
def withFault (k : FaultKey) (x : SlotState) (s : State) : State :=
  s.modFt fun f => { f with slots := updateAt k.rank (fun _ =>
    some { state := x, first := 0, last := 0, count := 1 }) f.slots }

/-- Door set i with state x, and its inputs. -/
def withDoor (i : Nat) (x : DoorState) (p : Option Proof) (inp : DoorInputs) (s : State) : State :=
  s.modDc fun d => { d with
    sets := updateAt i (fun y => { y with state := x, proof := p }) d.sets,
    inputs := updateAt i (fun _ => inp) d.inputs }

/-- Car B's pair released at stop 0, its sets 1 and 5 in state x. -/
def released (x : DoorState) : State :=
  (withDoor 1 x none ⟨false, decide (x = .open), false⟩
    (withDoor 5 x none ⟨false, decide (x = .open), false⟩ ready)).modDc fun d => { d with
      pairs := ⟨{ released := none, pendingStop := none },
        { released := some { stop := 0, closeDemand := false, closureStopped := false },
          pendingStop := none }⟩ }

/-! ### Well-formedness: each check refuses something -/

/-- A request command is well formed when its header, its fields and its length fit. -/
theorem test_ready_request_is_well_formed :
    wellFormed (.lineSet hdr line4) = true ∧ wellFormed (.ticketsLoad hdr tickets) = true ∧
    wellFormed (.unknownKindFrame hdr 0) = true ∧ wellFormed (.carStopRequest .a 5) = true := by decide

/-- Tag, post and level have one byte each. -/
theorem test_illformed_headers :
    wellFormed (.hold ⟨256, 0, 0⟩) = false ∧ wellFormed (.hold ⟨0, 256, 0⟩) = false ∧
    wellFormed (.hold ⟨0, 0, 256⟩) = false := by decide

/-- The fields of a line record have widths. -/
theorem test_illformed_line :
    wellFormed (.lineSet hdr { line4 with length := 4294967296 }) = false ∧
    wellFormed (.lineSet hdr { line4 with stations := 256 }) = false ∧
    wellFormed (.lineSet hdr { line4 with window := 65536 }) = false ∧
    wellFormed (.lineSet hdr { line4 with table := [⟨65536, 0, 0, 0, []⟩] }) = false ∧
    wellFormed (.lineSet hdr { line4 with table := [⟨0, 0, 0, 0, [256]⟩] }) = false := by decide

/-- The fields of markers, profiles and tension channels have widths. -/
theorem test_illformed_tables :
    wellFormed (.markersSet hdr 65536 []) = false ∧
    wellFormed (.markersSet hdr 0 [⟨4294967296, 0, 0⟩]) = false ∧
    wellFormed (.markersSet hdr 0 (List.replicate 256 ⟨0, 0, 0⟩)) = false ∧
    wellFormed (.profileSet hdr { profile 1 with cls := 256 }) = false ∧
    wellFormed (.profileSet hdr { profile 1 with segments := [⟨0, 65536, 0, 0⟩] }) = false ∧
    wellFormed (.tensionSet hdr { tension with offset := 2147483648 } tension) = false ∧
    wellFormed (.tensionSet hdr tension { tension with min := -2147483649 }) = false := by decide +kernel

/-- The fields of lanes, posts, parameters and tickets have widths. -/
theorem test_illformed_lists :
    wellFormed (.lanesSet hdr [⟨256, 0, 0⟩]) = false ∧ wellFormed (.postsSet hdr [(0, 256)]) = false ∧
    wellFormed (.paramSetAll hdr { params with imb1 := 4294967296 }) = false ∧
    wellFormed (.paramSetTiming hdr { params with offsets := [(256, 0)] }) = false ∧
    wellFormed (.ticketsLoad hdr { tickets with count := 65536 }) = false ∧
    wellFormed (.ticketsDrop hdr 256) = false ∧ wellFormed (.ticketQuery hdr 4294967296) = false ∧
    wellFormed (.daySet hdr 65536 0) = false := by decide

/-- The fields of the short requests have widths. -/
theorem test_illformed_operations :
    wellFormed (.modeSet hdr 256) = false ∧ wellFormed (.dispatch hdr 256 0) = false ∧
    wellFormed (.doorsOpen hdr 256) = false ∧ wellFormed (.doorsClose hdr 256) = false ∧
    wellFormed (.doorsHoldSet hdr 256) = false ∧ wellFormed (.doorsHoldClear hdr 256) = false ∧
    wellFormed (.laneOpen hdr 256) = false ∧ wellFormed (.laneClose hdr 256) = false ∧
    wellFormed (.laneClear hdr 256) = false ∧ wellFormed (.queueOpen hdr 256) = false ∧
    wellFormed (.queueClose hdr 256) = false ∧ wellFormed (.forceStopSet hdr 256) = false ∧
    wellFormed (.forceStopClear hdr 256) = false ∧ wellFormed (.weatherSet hdr 256) = false ∧
    wellFormed (.amend hdr 1 0 65536 0 0) = false ∧ wellFormed (.brakeTest hdr 0 0 0 65536) = false ∧
    wellFormed (.carRead hdr 256) = false ∧ wellFormed (.queueRead hdr 0 256) = false ∧
    wellFormed (.laneRead hdr 256) = false := by decide

/-- A body has at most 1,060 bytes. -/
theorem test_illformed_length :
    wellFormed (.ticketsLoad hdr { tickets with bitmap := List.replicate 1048 0 }) = true ∧
    wellFormed (.ticketsLoad hdr { tickets with bitmap := List.replicate 1049 0 }) = false := by
  decide +kernel

/-- A request kind is no unknown kind, and a line has no station 6. -/
theorem test_illformed_frame_and_station :
    wellFormed (.unknownKindFrame hdr 1) = false ∧ wellFormed (.unknownKindFrame hdr 34) = false ∧
    wellFormed (.unknownKindFrame hdr 256) = false ∧ wellFormed (.carStopRequest .b 6) = false := by decide

/-! ### One effect of each request -/

theorem test_lineSet : (after (.lineSet hdr line4) State.reset).lgp.line = some line4' ∧
    codeOf (after (.lineSet hdr { line4 with loopEnd := 950000 }) State.reset) = some .symmetry := by
  decide +kernel

theorem test_markersSet : (after (.markersSet hdr 0 markers4) asleep).lgp.corrLimit = 500 ∧
    codeOf (after (.markersSet hdr 0 []) State.reset) = some .notConfigured := by decide +kernel

theorem test_profileSet :
    (after (.profileSet hdr (profile 2)) asleep).hc.classes[1]?
      = some (some [⟨0, 8000, 500, 500, none⟩, ⟨700000, 6000, 400, 400, none⟩]) ∧
    codeOf (after (.profileSet hdr (profile 5)) asleep) = some .bounds := by decide +kernel

theorem test_tensionSet : (after (.tensionSet hdr tension tension) asleep).stu.tension.fst.state = .filling ∧
    codeOf (after (.tensionSet hdr { tension with rate := 7 } tension) asleep) = some .bounds := by
  decide +kernel

theorem test_lanesSet : ((after (.lanesSet hdr lanes5) asleep).gqu.lanes.map Lane.id) = [0, 1, 2, 3, 4] ∧
    codeOf (after (.lanesSet hdr [⟨0, 1, 0⟩]) asleep) = some .bounds := by decide +kernel

theorem test_postsSet : (after (.postsSet hdr [(0, 0), (2, 1)]) asleep).mau.posts = [0, 3, 1, 3, 3, 3, 3, 3] ∧
    codeOf (after (.postsSet hdr [(0, 1)]) asleep) = some .bounds := by decide +kernel

theorem test_paramSetAll : (after (.paramSetAll hdr params) asleep).gqu.tolerance = some 200 ∧
    codeOf (after (.paramSetAll hdr params) ready) = some .mode := by decide +kernel

theorem test_paramSetTiming :
    (after (.paramSetTiming hdr { params with dwell := 10 }) ready).dc.dwellS = 10 ∧
    codeOf (after (.paramSetTiming hdr { params with dwell := 9 }) ready) = some .bounds := by
  decide +kernel

theorem test_ticketsLoad :
    (after (.ticketsLoad hdr { tickets with block := 3, first := 2000 }) ready).tt.blocks.length = 3 ∧
    codeOf (after (.ticketsLoad hdr tickets) ready) = some .overlap := by decide +kernel

theorem test_ticketsDrop : (after (.ticketsDrop hdr 1) ready).tt.blocks.length = 1 ∧
    codeOf (after (.ticketsDrop hdr 9) ready) = some .notFound := by decide +kernel

theorem test_ticketQuery : (replyOf (after (.ticketQuery hdr 1001) ready)).map Reply.body
    = some (.ticket { block := 1, cls := .single, firstDay := 0, lastDay := 9, inDays := true,
                      marks := [true], passback := none }) := by decide +kernel

theorem test_daySet : (after (.daySet hdr 7 1000) ready).tt.day = 7 ∧
    codeOf (after (.daySet hdr 7 86400000) ready) = some .bounds := by decide +kernel

theorem test_modeSet : (after (.modeSet hdr 3) ready).mau.mode = .inspection ∧
    codeOf (after (.modeSet hdr 9) ready) = some .state := by decide +kernel

theorem test_dispatch : (after (.dispatch hdr 3 0) ready).hc.haul = .warning ∧
    codeOf (after (.dispatch hdr 0 0) ready) = some .direction := by decide +kernel

theorem test_hold : (after (.hold hdr) running).hc.haul = .stopping ∧
    codeOf (after (.hold hdr) ready) = some .state := by decide +kernel

/-- The line parked at 100 m with its trip SUSPENDED. -/
def suspended : State :=
  { ready with
    lgp := { ready.lgp with p := 400000000 }
    hc := { ready.hc with trip := { state := .suspended, rec? := some trip03, cause := some .hold } } }

theorem test_resume : (after (.resume hdr) suspended).hc.haul = .warning ∧
    codeOf (after (.resume hdr) ready) = some .state := by decide +kernel

theorem test_stopNow : (after (.stopNow hdr) running).hc.haul = .tripped ∧
    (after (.stopNow hdr) running).bl.brakes.snd.state = .applying := by decide +kernel

/-- The line TRIPPED at stop 0 with both brakes APPLIED, in ATTENDED. -/
def tripped : State :=
  { ready with
    hc := { ready.hc with haul := .tripped }
    bl := { ready.bl with brakes := ⟨brakeAt .applied, brakeAt .applied⟩ } }

/-- The same with a holding brake whose feedback says both. -/
def disagreeing : State :=
  { tripped with
    bl := { tripped.bl with brakes := ⟨{ brakeAt .applied with releasedIn := true }, brakeAt .applied⟩ } }

theorem test_tripReset : (after (.tripReset hdr) tripped).hc.haul = .parked ∧
    codeOf (after (.tripReset hdr) (withFault ⟨.brakeFeedback, 0⟩ .active disagreeing))
      = some .blockedByFault := by decide +kernel

theorem test_doorsOpen : (after (.doorsOpen hdr 0) ready).dc.sets.map DoorSet.state
    = [.opening, .locked, .opening, .locked, .locked, .locked] ∧
    codeOf (after (.doorsOpen hdr 0) running) = some .state := by decide +kernel

theorem test_doorsClose :
    (after (.doorsClose hdr 1) (released .open)).dc.sets.map DoorSet.state
      = [.locked, .closing, .locked, .locked, .locked, .closing] ∧
    codeOf (after (.doorsClose hdr 2) ready) = some .bounds := by decide +kernel

theorem test_doorsHoldSet : (after (.doorsHoldSet hdr 1) (released .open)).dc.sets.map DoorSet.hold
    = [false, true, false, false, false, true] ∧
    codeOf (after (.doorsHoldSet hdr 1) ready) = some .state := by decide +kernel

theorem test_doorsHoldClear :
    (after (.doorsHoldClear hdr 1) (after (.doorsHoldSet hdr 1) (released .open))).dc.sets.map DoorSet.hold
      = List.replicate 6 false := by decide +kernel

theorem test_laneClose_laneOpen :
    ((after (.laneClose hdr 2) ready).gqu.lanes.map Lane.hostClosed) = [false, false, true, false, false] ∧
    (after (.laneOpen hdr 2) (after (.laneClose hdr 2) ready)).gqu = ready.gqu := by decide +kernel

theorem test_laneClear : (after (.laneClear hdr 2) (withFault ⟨.gateLaneFault, 2⟩ .active ready)).ft.entries = [] ∧
    codeOf (after (.laneClear hdr 2) (after (.leafJam 2) ready)) = some .state := by decide +kernel

theorem test_queueClose_queueOpen :
    (after (.queueClose hdr 5) ready).gqu.queues[5]? = some { hostClosed := true, entries := [] } ∧
    (after (.queueOpen hdr 5) (after (.queueClose hdr 5) ready)).gqu = ready.gqu ∧
    codeOf (after (.queueOpen hdr 6) ready) = some .notFound := by decide +kernel

theorem test_forceStop : (after (.forceStopSet hdr 2) ready).demandSet = [0, 2, 3] ∧
    (after (.forceStopClear hdr 2) (after (.forceStopSet hdr 2) ready)).hc.forced = [] ∧
    codeOf (after (.forceStopSet hdr 3) ready) = some .bounds := by decide +kernel

theorem test_weatherSet : (after (.weatherSet hdr 1) ready).hc.weather = .wet ∧
    codeOf (after (.weatherSet hdr 3) ready) = some .bounds := by decide +kernel

theorem test_amend :
    (after (.amend hdr 1 1 5000 300 300) ready).hc.classes[0]?
      = some (some [⟨0, 8000, 500, 500, none⟩, ⟨700000, 5000, 300, 300, none⟩]) ∧
    ((after (.amend hdr 1 1 5000 300 300) running).hc.amendments.map Option.isSome)
      = [true, false, false, false] := by decide +kernel

theorem test_brakeTest :
    (after (.brakeTest hdr 0 0 100 1000) (inMode .inspection ready)).hc.haul = .brakeTest ∧
    codeOf (after (.brakeTest hdr 0 0 9 1000) (inMode .inspection ready)) = some .bounds := by decide +kernel

theorem test_faultsAck :
    (after (.faultsAck hdr) (withFault ⟨.doorUnproven, 0⟩ .ended
      (withFault ⟨.loadDisagree, 0⟩ .active ready))).ft.entries.map FaultEntry.key = [⟨.loadDisagree, 0⟩] ∧
    (replyOf (after (.faultsAck hdr) (withFault ⟨.doorUnproven, 0⟩ .ended ready))).map Reply.body
      = some (.removed 1) := by decide +kernel

theorem test_restart : (after (.restart hdr) ready).gqu.loads = ⟨none, none⟩ ∧
    codeOf (after (.restart hdr) running) = some .state := by decide +kernel

theorem test_reads :
    (replyOf (after (.statusRead hdr) ready)).map Reply.kind = some 155 ∧
    (replyOf (after (.faultsRead hdr) ready)).map Reply.body
      = some (.faults { mostUrgent := none, present := [] }) ∧
    (replyOf (after (.tripRead hdr) running)).map Reply.kind = some 160 ∧
    (replyOf (after (.brakesRead hdr) ready)).map Reply.kind = some 161 ∧
    (replyOf (after (.tensionRead hdr) ready)).map Reply.kind = some 162 := by decide +kernel

theorem test_reads_of_one :
    codeOf (after (.carRead hdr 2) ready) = some .bounds ∧
    (replyOf (after (.carRead hdr 1) ready)).map Reply.kind = some 156 ∧
    codeOf (after (.queueRead hdr 6 0) ready) = some .notFound ∧
    (replyOf (after (.queueRead hdr 5 0) ready)).map Reply.kind = some 157 ∧
    codeOf (after (.laneRead hdr 15) ready) = some .notFound ∧
    (replyOf (after (.laneRead hdr 0) ready)).map Reply.kind = some 158 := by decide +kernel

theorem test_unknownKindFrame :
    replyOf (after (.unknownKindFrame hdr 99) ready)
      = some { kind := 255, tag := 7, refusal := some .unknownKind, body := .empty } := by decide +kernel

theorem test_judgement_order :
    codeOf (after (.hold ⟨7, 8, 0⟩) ready) = some .format ∧
    codeOf (after (.hold ⟨7, 1, 0⟩) ready) = some .authority ∧
    codeOf (after (.lineSet hdr line4) ready) = some .mode ∧
    codeOf (after (.lineSet hdr { line4 with stations := 2 }) ready) = some .format := by decide +kernel

/-! ### One effect of each reset, event and expiry -/

theorem test_fullReset : (after .fullReset running).hc = State.reset.hc ∧
    (after .fullReset running).ft.slot ⟨.brakeFeedback, 0⟩
      = some { state := .active, first := 0, last := 0, count := 1 } := by decide +kernel

theorem test_restartLine : (after .restartLine (inMode .automatic running)).mau.mode = .attended := by
  decide +kernel

theorem test_encoderEdge : (after (.encoderEdge .drive .down 10) running).lgp.p = 399999000 ∧
    (after (.encoderEdge .sheave .down 10) running).lgp.p = 400000000 := by decide +kernel

theorem test_estimateDecay : (after (.estimateDecay 2500) ready).tt.clock = 2 ∧
    (after (.estimateDecay 2500) ready).tt.clockUs = 500 := by decide +kernel

/-- The DRIVE channel not quiet until 500 ms. -/
def moving : State :=
  ready.modStu fun x => { x with speed := ⟨{ quietChannel with quiet := false, quietDue := some 500000 },
    quietChannel⟩ }

theorem test_quietExpiry : (after (.quietExpiry .drive) moving).standstill = true ∧
    (after (.quietExpiry .drive) moving).now = 500000 ∧
    (after (.quietExpiry .drive) ready) = ready := by decide +kernel

/-- The disagreement interval runs. -/
def crossChecked : State := running.modStu fun x => { x with disagreeDue := some 300000 }

theorem test_disagreementIntervalExpiry :
    (after .disagreementIntervalExpiry crossChecked).hc.haul = .tripped := by decide +kernel

/-- The line in OFF at stop 0 with its position lost. -/
def unknown : State :=
  asleep.modLgp fun g => { g with position := .unknown, p := 0, presence := ⟨none, some 3⟩,
                                  presenceIn := [.none, .none, .none, .carB, .none, .none] }

theorem test_presenceChange :
    (after (.presenceChange 0 .carA) unknown).lgp.position = .referenced ∧
    (after (.presenceChange 0 .carA) unknown).lgp.p = 80000000 := by decide +kernel

/-- Car A 120 mm before the marker at 300 m. -/
def atMarker : State := running.modLgp fun g => { g with p := 1199520000 }

theorem test_markerPulse : (after (.markerPulse 0) atMarker).lgp.corr.fst = 120 ∧
    (after (.markerPulse 0) running).lgp.position = .doubtful ∧
    (after (.markerPulse 23) running).lgp = running.lgp := by decide +kernel

theorem test_tensionConversion :
    (after (.tensionConversion .one 32000) ready).stu.tension.fst.average = some 14500000 ∧
    (after (.tensionConversion .one 65535) ready).stu.tension.fst.state = .recovering := by decide +kernel

theorem test_missingConversionExpiry :
    (after (.missingConversionExpiry .two) ready).stu.tension.snd.state = .silent := by decide +kernel

theorem test_brakeFeedbackChange :
    (after (.brakeFeedbackChange .holding .applied false) ready).hc.haul = .tripped ∧
    after (.brakeFeedbackChange .holding .applied true) ready = ready := by decide +kernel

/-- The holding brake on its way to a state, its proof due at 1 s. -/
def brakeMoving (x : BrakeState) (s : State) : State :=
  s.modBl fun b => { b with brakes := ⟨{ brakeAt x with proofDue := some 1000000 }, b.brakes.snd⟩ }

theorem test_releaseProofExpiry :
    (after (.releaseProofExpiry .holding) (brakeMoving .releasing (inHaul .releasing ready))).hc.haul
      = .tripped := by decide +kernel

theorem test_applyProofExpiry :
    (after (.applyProofExpiry .holding) (brakeMoving .applying ready)).hc.haul = .tripped := by
  decide +kernel

theorem test_driveReportChange :
    (after (.driveReportChange false) running).hc.haul = .stopping ∧
    (after (.driveReportChange false) running).hc.drive = .noTorque := by decide +kernel

theorem test_escalationSample :
    (after .escalationSample (stopping 1 none)).bl.stop.bind StopRec.sample = some 0 := by decide +kernel

theorem test_escalationCheck :
    (after .escalationCheck (stopping 1 (some 0))).bl.stop.map StopRec.stage = some 1 ∧
    (after .escalationCheck (stopping 1 (some 0))).hc.haul = .stopping := by decide +kernel

theorem test_warningExpiry : (after .warningExpiry warning).hc.haul = .releasing ∧
    (after .warningExpiry warning).hc.drive = .holding := by decide +kernel

/-- The pulse of a test of the holding brake. -/
def pulsing : State :=
  (inHaul .brakeTest ready).modBpu fun _ => {
    records := ⟨none, none⟩, pulseDue := some 1000000,
    test := some { brake := .holding, dir := .up, torque := 100, duration := 1000, phase := .pulse,
                   start := some 80000000, slip := some 0 } }

theorem test_pulseExpiry :
    ((after .pulseExpiry pulsing).bpu.records.fst.map TestRec.pass) = some true ∧
    (after .pulseExpiry pulsing).bl.brakes.snd.state = .applying := by decide +kernel

theorem test_carTrackBrakeReport : (after (.carTrackBrakeReport .a true) running).hc.haul = .tripped := by
  decide +kernel

theorem test_carEmergencyButtonReport :
    (after (.carEmergencyButtonReport .b true) running).hc.haul = .stopping := by decide +kernel

theorem test_carStopRequest :
    (after (.carStopRequest .b 1) ready).hc.carLine.snd.requests = [1] ∧
    (after (.carStopRequest .b 3) ready).hc.carLine.snd.requests = [] := by decide +kernel

theorem test_carDoorReport :
    (after (.carDoorReport .a false false false) ready).doorState? 0 = some .unproven := by decide +kernel

theorem test_carLineSilenceExpiry :
    (after (.carLineSilenceExpiry .a) ready).hc.carLine.fst.alive = false := by decide +kernel

theorem test_platformDoorInputChange :
    (after (.platformDoorInputChange 2 .closedAndLocked false) ready).doorState? 4 = some .unproven ∧
    after (.platformDoorInputChange 2 .closedAndLocked true) ready = ready := by decide +kernel

/-- Set 1 with its proof due at 1 s. -/
def proving (x : DoorState) : State :=
  withDoor 1 x (some { start := 0, due := 1000000 }) ⟨false, false, false⟩ (released .open)

theorem test_openProofExpiry :
    (after (.openProofExpiry 1) (proving .opening)).doorState? 1 = some .open ∧
    ((after (.openProofExpiry 1) (proving .opening)).ft.slot ⟨.doorTimeout, 1⟩).isSome = true := by
  decide +kernel

theorem test_closeProofExpiry :
    (after (.closeProofExpiry 1) (proving .closing)).doorState? 1 = some .open ∧
    (after (.closeProofExpiry 1) (proving .closing)).dc.pairs.snd.released
      = some { stop := 0, closeDemand := false, closureStopped := true } := by decide +kernel

/-- Both pairs' doors in AUTOMATIC, pair B's open, the dwell to end at 30 s. -/
def dwelling : State :=
  (inMode .automatic (released .open)).modDc fun d => { d with dwell := .running 0 30000000 }

theorem test_dwellExpiry : (after .dwellExpiry dwelling).dc.dwell = .expired ∧
    (after .dwellExpiry dwelling).doorState? 1 = some .closing := by decide +kernel

theorem test_lanePresentation :
    ((after (.lanePresentation 0 1000) ready).lane? 0).bind Lane.lastOutcome = some .admits ∧
    ((after (.lanePresentation 0 1001) ready).lane? 0).bind Lane.lastOutcome = some .used ∧
    ((after (.lanePresentation 0 5000) ready).lane? 0).bind Lane.lastOutcome = some .notValid := by
  decide +kernel

theorem test_lanePassage :
    ((after (.lanePassage 0) (after (.lanePresentation 0 1000) ready)).lane? 0).map Lane.passages = some 1 ∧
    ((after (.lanePassage 0) ready).lane? 0).map Lane.unpaid = some 1 := by decide +kernel

theorem test_passageTimeout :
    (after (.passageTimeout 0) (after (.lanePresentation 0 1000) ready)).tt.blocks = ready.tt.blocks := by
  decide +kernel

theorem test_leafJam_leafJamWithdrawn :
    ((after (.leafJam 3) ready).lane? 3).map Lane.jammed = some true ∧
    (after (.leafJamWithdrawn 3) (after (.leafJam 3) ready)).gqu.jamIn = List.replicate 16 false := by
  decide +kernel

/-- The settle interval runs. -/
def settling : State := ready.modGqu fun g => { g with settleDue := some 3000000 }

theorem test_settleIntervalExpiry : (after .settleIntervalExpiry settling).gqu.disagree = true := by
  decide +kernel

theorem test_supervisionExpiry : (after .supervisionExpiry ready).mau.supervision = .lost := by
  decide +kernel

/-- The frame of HOLD, byte by byte: start byte, length 4, kind 14, tag, post, level, and the check. -/
theorem test_linkByte_takes_a_frame :
    ((165#8 :: requestTail hdr .hold).foldl (fun s b => after (.linkByte b) s) running).hc.haul
      = .stopping := by decide +kernel

theorem test_request_frame_bytes :
    (requestTail hdr (.dispatch 3 0)).take 8 = [6, 0, 13, 7, 0, 0, 3, 0] := by decide +kernel

theorem test_gapIntervalExpiry :
    (after .gapIntervalExpiry (after (.linkByte 165) ready)).ll.rx = none := by decide +kernel

theorem test_frameSendEnd :
    (after .frameSendEnd (after (.hold hdr) running)).ll.sending.map (fun x => decide (x.due = 0))
      = some false ∧ replyOf (after .frameSendEnd (after (.hold hdr) running)) = none := by decide +kernel

theorem test_effectiveCeilingFall : (after (.effectiveCeilingFall 1000) ready).now = 1000 := by
  decide +kernel

theorem test_lineClockStop : (after .lineClockStop ready).tt.clock = 4294967295 := by decide +kernel

/-! ### States and operands that meet the statements' hypotheses

Each theorem `hyp_X` meets the hypotheses of `Obligations.X`; where it has clauses, those of each. -/

/-- Nothing runs: no interval of the part. -/
def still : State :=
  { ready with
    stu := { ready.stu with tension := ⟨{ tensionChannel with missingDue := none },
      { tensionChannel with missingDue := none }⟩ }
    hc := { ready.hc with carLine := ⟨{ aliveLine with silenceDue := none },
      { aliveLine with silenceDue := none }⟩ }
    mau := { ready.mau with supDue := none } }

theorem hyp_AStepWithoutCommandsLetsTimePass :
    (still.pending = [] ∧ earliest still.timers = none) ∧
    (ready.pending = [] ∧ earliest ready.timers = some (400000, .missingConversionExpiry .one) ∧
      ready.now < 400000) ∧
    (earliest ({ ready with now := 400000 }).timers = some (400000, .missingConversionExpiry .one)) := by
  decide +kernel

theorem hyp_FullResetValuesAreThoseOfTheChapters :
    (running.bl.brakes.fst.appliedIn = false) ∧
    (ready.bl.brakes.fst.appliedIn = true ∧ ready.bl.brakes.fst.releasedIn = false) ∧
    (ready.bl.brakes.snd.releasedIn = true) := by decide

/-- A present EMERGENCY fault with both brakes APPLIED, a link in use, and a command waiting. -/
def faulted : State :=
  { withFault ⟨.brakeFeedback, 0⟩ .active disagreeing with
    pending := [.leafJamWithdrawn 0]
    ll := { Ll.reset with
      replySlot := some (refusedReply 130 7 .bounds), holding := [{ header := hdr, content := .unknownKind 99 }],
      sending := some { frame := .notice .haul none, due := 50 } } }

/-- The six invariants that every step keeps: statements O7 to O12. -/
theorem hyp_invariants_that_every_step_keeps :
    (faulted.ft.presentClass .emergency = true ∧ faulted.emergencyHeld) ∧ faulted.linkSound ∧
    (faulted.ft.slots.length = 69 ∧ ∀ r ∈ faulted.ft.slots, ∀ x, r = some x → x.counted) ∧
    faulted.listsBounded ∧ faulted.haulSound ∧ ((stopping 1 none).haulSound ∧ warning.haulSound) ∧
    faulted.positionIdle ∧ (State.reset.lgp.line = none ∧ State.reset.lgp.p = 0) ∧
    faulted.countersBounded ∧ step faulted = .next (after (.leafJamWithdrawn 0) (faulted.setPending [])) := by
  refine ⟨⟨by decide +kernel, fun _ => by decide⟩, ?_, ⟨by decide +kernel, ?_⟩, ?_, ?_, ⟨?_, ?_⟩, ?_, ⟨rfl, rfl⟩,
    ?_, rfl⟩
  · unfold State.linkSound; decide +kernel
  · intro r hr x hx
    subst hx
    have h : ∀ r ∈ faulted.ft.slots, (match r with
        | none => true
        | some x => decide (1 ≤ x.count) && decide (x.count ≤ 255)) = true := by decide +kernel
    have := h _ hr
    simp only [Bool.and_eq_true, decide_eq_true_eq] at this
    exact this
  · unfold State.listsBounded; decide +kernel
  · unfold State.haulSound; decide +kernel
  · unfold State.haulSound; decide +kernel
  · unfold State.haulSound; decide +kernel
  · unfold State.positionIdle; decide +kernel
  · unfold State.countersBounded; decide +kernel

/-- Settings at the ends of their fields. -/
def extreme : TensionSettings :=
  { range := 255, rate := 255, window := 255, gain := 4294967295, offset := -2147483648, min := 2147483647,
    max := -1, standbyMin := 0, standbyMax := -2147483648 }

theorem hyp_RequestFramesReadBackAsTheyWereSent :
    (Header.fits ⟨255, 255, 255⟩ = true ∧ Request.fits (.tensionSet extreme extreme) = true ∧
      lengthMatches (.tensionSet extreme extreme) = true) ∧
    (Request.fits (.lineSet line4) = true ∧ lengthMatches (.lineSet line4) = true) ∧
    (Request.fits (.markersSet 65535 (List.replicate 255 ⟨4294967295, 255, 65535⟩)) = true) ∧
    (Request.fits (.paramSet 255 params) = true ∧ lengthMatches (.paramSet 255 params) = true) ∧
    (Request.fits (.ticketsLoad tickets) = true ∧ lengthMatches (.ticketsLoad tickets) = true) ∧
    (Request.fits (.doors 255 255 255) = true ∧ lengthMatches (.doors 255 255 255) = true) := by
  decide +kernel

/-- A receiver with bytes of a frame. -/
def receiving (l : List Byte) : State :=
  ready.modLl fun x => { x with rx := some l, gapDue := some 50000 }

theorem hyp_TheLastByteOfAFrameMakesItArrive :
    hdr.fits = true ∧ (Request.dispatch 3 0).fits = true ∧ lengthMatches (.dispatch 3 0) = true ∧
    (requestBytes (.dispatch 3 0)).length ≤ 1060 ∧
    requestTail hdr (.dispatch 3 0)
      = (requestTail hdr (.dispatch 3 0)).dropLast ++ [(requestTail hdr (.dispatch 3 0)).getLastD 0] ∧
    (receiving (requestTail hdr (.dispatch 3 0)).dropLast).ll.rx
      = some (requestTail hdr (.dispatch 3 0)).dropLast := by decide +kernel

theorem hyp_BytesShortOfAFrameReachTheReceiver :
    (ready.ll.rx = none ∧ (0#8 : Byte) ≠ 165#8) ∧
    ((receiving []).ll.rx = some [] ∧ (([] : List Byte) ++ [4]).length < 2) ∧
    (4 ≤ bytesValue ([4#8, 0] : List Byte) ∧ ([4#8] ++ [0] : List Byte).length
      < bytesValue (([4#8] ++ [0] : List Byte).take 2) + 4) ∧
    (bytesValue (([40#8] ++ [4] : List Byte).take 2) = 1064) ∧
    (bytesValue (([3#8] ++ [0] : List Byte).take 2) < 4) ∧
    (1064 < bytesValue (([41#8] ++ [4] : List Byte).take 2)) ∧
    (receiving []).ll.gapDue = some 50000 := by decide +kernel

theorem hyp_FramesOfNoKindOrNoLengthAreRefused :
    ready.linkFree ∧ (Instr.lineSet hdr { line4 with stations := 2 }).request?
      = some (hdr, .lineSet { line4 with stations := 2 }) ∧
    lengthMatches (.lineSet { line4 with stations := 2 }) = false := by
  unfold State.linkFree; decide +kernel

/-- Whether a request passes form, authority and mode in a state. -/
def passing (s : State) (h : Header) (r : Request) : Bool :=
  s.ll.holding.isEmpty && s.ll.replySlot.isNone && lengthMatches r && ((s.asTaken h r).judge h r).isNone

/-- The decision of `Passes`. -/
theorem passes_of (s : State) (h : Header) (r : Request) (e : passing s h r = true) : Passes s h r := by
  simp only [passing, Bool.and_eq_true, List.isEmpty_iff, Option.isNone_iff_eq_none] at e
  exact ⟨⟨e.1.1.1, e.1.1.2⟩, e.1.2, e.2⟩

theorem hyp_FormAuthorityAndModeAreJudgedInThatOrder :
    (Instr.hold ⟨7, 8, 0⟩).request? = some (⟨7, 8, 0⟩, .hold) ∧
    (ready.asTaken ⟨7, 1, 0⟩ .hold).requiredLevel .hold
      < max 0 ((ready.asTaken ⟨7, 1, 0⟩ .hold).mau.posts.getD 1 3) ∧
    (max 0 ((ready.asTaken hdr (.lineSet line4)).mau.posts.getD 0 3)
        ≤ (ready.asTaken hdr (.lineSet line4)).requiredLevel (.lineSet line4) ∧
      takenIn (ready.asTaken hdr (.lineSet line4)).mau.mode (.lineSet line4) = false) ∧
    takenIn (ready.asTaken hdr .hold).mau.mode .hold = true ∧ passing ready hdr .hold = true ∧
    (own ((ready.asTaken hdr .hold).effectiveLevel hdr) .hold (ready.asTaken hdr .hold)).toOption = none := by
  decide +kernel

theorem hyp_FramesWaitWhileAReplyDoes :
    faulted.ll.replySlot = some (refusedReply 130 7 .bounds) ∧ faulted.ll.sending.isSome = true ∧
    faulted.ll.holding.length < 2 ∧
    2 ≤ (faulted.ll.holding ++ faulted.ll.holding).length := by decide +kernel

theorem hyp_AnIdleTransmitterSendsTheReplyFirst :
    (faulted.ll.sending.isSome = true) ∧
    (ready.ll.sending = none ∧ (placeReply (refusedReply 130 7 .bounds) ready).ll.replySlot
      = some (refusedReply 130 7 .bounds)) ∧
    (State.reset.ll.sending = none ∧ State.reset.ll.replySlot = none ∧
      State.reset.ll.notices = .mode :: [.wake]) ∧
    (ready.ll.replySlot = none ∧ ready.ll.notices = []) := by decide

theorem hyp_ReadsAnswerTheirReportsAndChangeNothing :
    passing ready hdr .statusRead = true ∧ passing ready hdr .faultsRead = true ∧
    passing ready hdr .tripRead = true ∧ passing ready hdr .brakesRead = true ∧
    passing ready hdr .tensionRead = true ∧ passing ready hdr (.carRead 1) = true ∧
    passing ready hdr (.carRead 2) = true ∧
    (passing ready hdr (.queueRead 5 0) = true ∧
      ((ready.asTaken hdr (.queueRead 5 0)).gqu.queues[5]?).isSome = true ∧
      ((ready.asTaken hdr (.queueRead 5 0)).queueFields 5).isSome = true) ∧
    (passing ready hdr (.queueRead 6 0) = true ∧
      (ready.asTaken hdr (.queueRead 6 0)).gqu.queues.length ≤ 6) ∧
    (passing ready hdr (.laneRead 4) = true ∧ ((ready.asTaken hdr (.laneRead 4)).lane? 4).isSome = true) ∧
    (passing ready hdr (.laneRead 5) = true ∧ (ready.asTaken hdr (.laneRead 5)).lane? 5 = none) := by
  decide +kernel

theorem hyp_LineSetLoadsTheLineAndDiscardsWhatHungOnIt :
    (passing State.reset hdr (.lineSet { line4 with length := 199999 }) = true ∧
      lineInBounds (lineDefaults { line4 with length := 199999 }) = false) ∧
    (passing State.reset hdr (.lineSet { line4 with loopEnd := 950000 }) = true ∧
      lineInBounds (lineDefaults { line4 with loopEnd := 950000 }) = true ∧
      lineSymmetric (lineDefaults { line4 with loopEnd := 950000 }) = false) ∧
    (passing State.reset hdr (.lineSet line4) = true ∧ lineInBounds line4' = true ∧
      lineSymmetric line4' = true ∧ (State.reset.asTaken hdr (.lineSet line4)).hc.haul = .tripped) := by
  decide +kernel

theorem hyp_MarkersSetReplacesTheMarkerTable :
    (passing State.reset hdr (.markersSet 0 []) = true ∧
      (State.reset.asTaken hdr (.markersSet 0 [])).lgp.line = none) ∧
    (passing asleep hdr (.markersSet 99 []) = true ∧ within 100 2000 99 = false) ∧
    (passing asleep hdr (.markersSet 2000 markers4) = true ∧
      (asleep.asTaken hdr (.markersSet 2000 markers4)).lgp.line = some line4' ∧ markers4.length ≤ 24 ∧
      within 100 2000 2000 = true ∧ markers4.all (markerOk line4') = true ∧
      ascending (markers4.map MarkerRec.position) = true ∧
      windowsApart (markers4.filter (fun m => m.visible .a)) = true ∧
      windowsApart (markers4.filter (fun m => m.visible .b)) = true) := by decide +kernel

theorem hyp_ProfileSetLoadsOneClass :
    (passing State.reset hdr (.profileSet (profile 1)) = true ∧
      (State.reset.asTaken hdr (.profileSet (profile 1))).lgp.line = none) ∧
    (passing asleep hdr (.profileSet (profile 4)) = true ∧
      (asleep.asTaken hdr (.profileSet (profile 4))).lgp.line = some line4' ∧
      profileOk line4'.length (asleep.asTaken hdr (.profileSet (profile 4))).hc.classes 1000 (profile 4)
        = true) ∧
    (passing asleep hdr (.profileSet (profile 5)) = true ∧
      profileOk line4'.length (asleep.asTaken hdr (.profileSet (profile 5))).hc.classes 1000 (profile 5)
        = false) := by decide +kernel

theorem hyp_TensionSetRestartsBothChannels :
    (passing asleep hdr (.tensionSet tension tension) = true ∧
      (tensionOk tension && tensionOk tension) = true) ∧
    (passing asleep hdr (.tensionSet tension extreme) = true ∧
      (tensionOk tension && tensionOk extreme) = false) := by decide +kernel

theorem hyp_LanesSetBuildsTheLaneTableAnew :
    (passing State.reset hdr (.lanesSet []) = true ∧
      (State.reset.asTaken hdr (.lanesSet [])).lgp.line = none) ∧
    (passing asleep hdr (.lanesSet lanes5) = true ∧
      (asleep.asTaken hdr (.lanesSet lanes5)).lgp.line = some line4' ∧ lanes5.length ≤ 16 ∧
      lanes5.all (laneOk line4') = true ∧ distinct (lanes5.map LaneDesc.lane) = true) ∧
    (passing asleep hdr (.lanesSet [⟨0, 0, 1⟩]) = true ∧ [LaneDesc.mk 0 0 1].all (laneOk line4') = false) ∧
    (passing asleep hdr (.lanesSet [⟨0, 0, 0⟩, ⟨0, 0, 2⟩]) = true ∧ distinct [0, 0] = false) := by
  decide +kernel

theorem hyp_PostsSetReplacesThePostTable :
    (passing asleep hdr (.postsSet [(7, 3), (0, 0)]) = true ∧
      (∀ x ∈ [((7 : Nat), (3 : Nat)), (0, 0)], x.1 ≤ 7 ∧ x.2 ≤ 3) ∧ [(7 : Nat), 0].Nodup) ∧
    (passing asleep hdr (.postsSet [(8, 0)]) = true ∧ passing asleep hdr (.postsSet [(0, 4)]) = true ∧
      passing asleep hdr (.postsSet [(0, 0), (0, 1)]) = true ∧ passing asleep hdr (.postsSet []) = true) := by
  decide +kernel

theorem hyp_ParamSetHandsItsFieldsToTheirOwners :
    (passing ready hdr (.paramSet 1 params) = true ∧ timingOk (paramDefaults params) = true) ∧
    (passing ready hdr (.paramSet 1 { params with dwell := 9 }) = true ∧
      timingOk (paramDefaults { params with dwell := 9 }) = false) ∧
    (passing asleep hdr (.paramSet 0 params) = true ∧
      (timingOk (paramDefaults params) && allOk (paramDefaults params)) = true) ∧
    (passing asleep hdr (.paramSet 0 { params with imb1 := 2000 }) = true ∧
      (timingOk (paramDefaults { params with imb1 := 2000 })
        && allOk (paramDefaults { params with imb1 := 2000 })) = false) := by decide +kernel

theorem hyp_DaySetSetsDayClockAndPassbackList :
    passing ready hdr (.daySet 0 86399999) = true ∧ passing ready hdr (.daySet 0 86400000) = true ∧
    (0 = (ready.asTaken hdr (.daySet 0 0)).tt.day ∧ passing ready hdr (.daySet 0 0) = true) ∧
    (65535 ≠ (ready.asTaken hdr (.daySet 65535 0)).tt.day ∧ passing ready hdr (.daySet 65535 0) = true) := by
  decide +kernel

theorem hyp_WeatherAndForcedStopsAreSet :
    (passing ready hdr (.weatherSet 2) = true ∧ passing ready hdr (.weatherSet 3) = true) ∧
    (passing ready hdr (.forceStop 1 0) = true ∧ 1 + 2 ≤ (ready.asTaken hdr (.forceStop 1 0)).stations) ∧
    (passing ready hdr (.forceStop 2 1) = true ∧ 2 + 2 ≤ (ready.asTaken hdr (.forceStop 2 1)).stations) ∧
    (passing ready hdr (.forceStop 0 0) = true ∧ passing ready hdr (.forceStop 3 1) = true ∧
      (ready.asTaken hdr (.forceStop 3 1)).stations < 3 + 2) := by decide +kernel

/-- A block that fits beside the two of `ready`. -/
def tickets3 : TicketBody := { tickets with block := 3, first := 2000 }

theorem hyp_TicketsAreLoadedDroppedAndQueried :
    (passing ready hdr (.ticketsLoad tickets3) = true ∧ ticketClass? 0 = some .single ∧
      (∀ x ∈ (ready.asTaken hdr (.ticketsLoad tickets3)).tt.blocks, x.id ≠ 3 ∧
        ¬(x.first < 2100 ∧ 2000 < x.first + x.count)) ∧
      (ready.asTaken hdr (.ticketsLoad tickets3)).tt.blocks.length < 32) ∧
    (passing ready hdr (.ticketsLoad tickets) = true ∧
      ∃ x ∈ (ready.asTaken hdr (.ticketsLoad tickets)).tt.blocks, x.id = 1) ∧
    (passing ready hdr (.ticketsLoad { tickets3 with lastDay := 9, firstDay := 10 }) = true) ∧
    (passing ready hdr (.ticketsDrop 1) = true ∧
      ((ready.asTaken hdr (.ticketsDrop 1)).tt.blocks.find? (fun x => decide (x.id = 1))).map
        (ready.asTaken hdr (.ticketsDrop 1)).blockInUse = some false) ∧
    (passing (after (.lanePresentation 0 1000) ready) hdr (.ticketsDrop 1) = true ∧
      (((after (.lanePresentation 0 1000) ready).asTaken hdr (.ticketsDrop 1)).tt.blocks.find?
        (fun x => decide (x.id = 1))).map
          ((after (.lanePresentation 0 1000) ready).asTaken hdr (.ticketsDrop 1)).blockInUse = some true) ∧
    (passing ready hdr (.ticketsDrop 9) = true ∧
      ((ready.asTaken hdr (.ticketsDrop 9)).tt.blocks.find? (fun x => decide (x.id = 9))) = none) ∧
    (passing ready hdr (.ticketQuery 1099) = true ∧
      ((ready.asTaken hdr (.ticketQuery 1099)).tt.find 1099).isSome = true) ∧
    (passing ready hdr (.ticketQuery 1100) = true ∧
      (ready.asTaken hdr (.ticketQuery 1100)).tt.find 1100 = none) := by decide +kernel

/-- Thirty-two blocks. -/
def full : State :=
  ready.modTt fun t => { t with blocks := (List.range 32).map (fun i =>
    { id := i + 10, first := 100000 * (i + 1), count := 1, cls := .day, firstDay := 0, lastDay := 0,
      marks := 0 }) }

theorem hyp_TicketsAreLoadedDroppedAndQueried_full :
    passing full hdr (.ticketsLoad tickets3) = true ∧
    (∀ x ∈ (full.asTaken hdr (.ticketsLoad tickets3)).tt.blocks, x.id ≠ 3 ∧
      ¬(x.first < 2100 ∧ 2000 < x.first + x.count)) ∧
    32 ≤ (full.asTaken hdr (.ticketsLoad tickets3)).tt.blocks.length := by decide +kernel

/-- The line in OFF, PARKED, fully configured. -/
def parkedOff : State := { asleep with hc := { asleep.hc with haul := .parked } }

theorem hyp_ModeSetChangesTheModeAndHandsItOn :
    (passing ready hdr (.modeSet 5) = true ∧ mode? 5 = none) ∧
    (passing ready hdr (.modeSet 2) = true ∧ (ready.asTaken hdr (.modeSet 2)).mau.mode = .attended) ∧
    (passing (inMode .inspection ready) hdr (.modeSet 1) = true ∧ modeRow .inspection .automatic = none) ∧
    (passing running hdr (.modeSet 0) = true ∧
      (firstRefusal (ModeRow.toOff.checks (running.asTaken hdr (.modeSet 0)))).isSome = true) ∧
    (passing ready hdr (.modeSet 0) = true ∧
      firstRefusal (ModeRow.toOff.checks (ready.asTaken hdr (.modeSet 0))) = none) ∧
    (passing parkedOff hdr (.modeSet 2) = true ∧ (parkedOff.asTaken hdr (.modeSet 2)).mau.mode = .off ∧
      firstRefusal ((ModeRow.leaveOff 1).checks (parkedOff.asTaken hdr (.modeSet 2))) = none) ∧
    (passing ready hdr (.modeSet 1) = true ∧
      firstRefusal (ModeRow.attendedToAuto.checks (ready.asTaken hdr (.modeSet 1))) = none) ∧
    (passing (inMode .automatic ready) hdr (.modeSet 2) = true ∧
      ((inMode .automatic ready).asTaken hdr (.modeSet 2)).mau.mode = .automatic ∧
      firstRefusal (ModeRow.autoToAttended.checks ((inMode .automatic ready).asTaken hdr (.modeSet 2)))
        = none) := by decide +kernel

theorem hyp_DispatchOpensATripInWarning :
    let q := ready.asTaken hdr (.dispatch 3 0)
    (passing ready hdr (.dispatch 3 0) = true ∧ q.hc.haul = .parked ∧ q.standstill = true ∧
      q.bl.driveReady = true ∧ q.mau.mode.inService = true ∧ q.lgp.position = .referenced ∧
      q.stop.isSome = true ∧ q.recordValid .holding = true ∧ q.recordValid .emergency = true ∧
      q.targetOk 3 0 = true ∧ (q.route 3 0).isSome = true ∧ q.allLocked = true ∧
      q.ft.blocksDispatch q.mau.mode = false ∧ q.stu.tension.fst.average.isSome = true ∧
      q.stu.tension.snd.average.isSome = true) ∧
    (passing ready hdr (.dispatch 4 0) = true ∧
      ((ready.asTaken hdr (.dispatch 4 0)).checkDispatch 4 0).toOption = none) := by decide +kernel

/-- RELEASING from stop 0. -/
def releasing : State :=
  { ready with
    hc := { ready.hc with
      haul := .releasing, trip := { state := .active, rec? := some trip03, cause := none },
      drive := .holding }
    bl := { ready.bl with brakes := ⟨{ brakeAt .applied with state := .releasing, proofDue := some 1500000 },
      brakeAt .released⟩ } }

theorem hyp_HoldStopsATripOrAbandonsADeparture :
    (passing running hdr .hold = true ∧ (running.asTaken hdr .hold).hc.haul = .running) ∧
    (passing (stopping 1 none) hdr .hold = true ∧
      ((stopping 1 none).asTaken hdr .hold).hc.haul = .stopping) ∧
    (passing warning hdr .hold = true ∧ (warning.asTaken hdr .hold).hc.haul = .warning) ∧
    (passing releasing hdr .hold = true ∧ (releasing.asTaken hdr .hold).hc.haul = .releasing) ∧
    (passing ready hdr .hold = true ∧ (ready.asTaken hdr .hold).hc.haul = .parked) ∧
    (passing (inMode .automatic warning) hdr .hold = true ∧
      ((inMode .automatic warning).asTaken hdr .hold).mau.mode = .automatic) := by decide +kernel

/-- The automatic cycle HELD at stop 0. -/
def held : State := (inMode .automatic ready).modHc fun h => { h with cycle := .held }

theorem hyp_ResumeContinuesASuspendedTrip :
    let q := suspended.asTaken hdr .resume
    (passing suspended hdr .resume = true ∧ q.hc.cycle ≠ .held ∧ q.hc.haul = .parked ∧
      q.standstill = true ∧ q.bl.driveReady = true ∧ q.hc.trip.state = .suspended ∧
      q.lgp.position = .referenced ∧ q.hc.trip.rec? = some trip03 ∧
      q.targetDistance trip03 = some 1680000 ∧ (q.stopWindow : Int) < 1680000 ∧ q.departureChecks = none) ∧
    (passing held hdr .resume = true ∧ (held.asTaken hdr .resume).mau.mode = .automatic ∧
      (held.asTaken hdr .resume).hc.cycle = .held ∧
      (held.asTaken hdr .resume).parkedStop.isSome = true) ∧
    (passing ready hdr .resume = true ∧ (ready.asTaken hdr .resume).checkResume = some .state) := by
  decide +kernel

theorem hyp_StopNowTripsTheHaulInEveryState :
    passing running hdr .stopNow = true ∧ passing pulsing hdr .stopNow = true ∧
    (pulsing.asTaken hdr .stopNow).hc.haul = .brakeTest := by decide +kernel

theorem hyp_TripResetParksATrippedHaul :
    let blocked := withFault ⟨.brakeFeedback, 0⟩ .active disagreeing
    let off := inMode .off tripped
    (passing tripped hdr .tripReset = true ∧ (tripped.asTaken hdr .tripReset).hc.haul = .tripped ∧
      (tripped.asTaken hdr .tripReset).standstill = true ∧
      (tripped.asTaken hdr .tripReset).bl.brakes.fst.state = .applied ∧
      (tripped.asTaken hdr .tripReset).bl.brakes.snd.state = .applied ∧
      (tripped.asTaken hdr .tripReset).ft.entries = []) ∧
    (passing ready hdr .tripReset = true ∧ (ready.asTaken hdr .tripReset).hc.haul ≠ .tripped) ∧
    (passing blocked hdr .tripReset = true ∧
      (blocked.asTaken hdr .tripReset).ft.entries.any (fun e => decide (e.cls = .emergency) &&
        decide (e.record.state = .active) && !(false && decide (e.key.code = .overtravel))) = true) ∧
    (passing off hdr .tripReset = true ∧ (off.asTaken hdr .tripReset).mau.mode = .off) := by
  decide +kernel

theorem hyp_DoorsOpenReleasesAPairAtTheStop :
    (passing ready hdr (.doors 0 2 0) = true) ∧
    (passing running hdr (.doors 0 0 0) = true ∧ (running.asTaken hdr (.doors 0 0 0)).stop = none) ∧
    (passing ready hdr (.doors 0 1 0) = true ∧ 1 = Car.b.index ∧
      (ready.asTaken hdr (.doors 0 1 0)).stop = some 0 ∧
      (ready.asTaken hdr (.doors 0 1 0)).mayRelease .b 0 = true ∧
      (ready.asTaken hdr (.doors 0 1 0)).dc.pairs.snd.released = none) ∧
    (passing tripped hdr (.doors 0 0 0) = true ∧
      (tripped.asTaken hdr (.doors 0 0 0)).mayRelease .a 0 = false) := by decide +kernel

theorem hyp_DoorsCloseClosesAReleasedPair :
    let q := (released .open).asTaken hdr (.doors 1 1 0)
    (passing ready hdr (.doors 1 2 0) = true) ∧
    (passing ready hdr (.doors 1 0 0) = true ∧
      (ready.asTaken hdr (.doors 1 0 0)).dc.pairs.fst.released = none) ∧
    (passing (released .open) hdr (.doors 1 1 0) = true ∧
      q.dc.pairs.snd.released = some { stop := 0, closeDemand := false, closureStopped := false } ∧
      (∀ i ∈ q.pairSets .b 0, (q.doorIn i).closed = false ∧ (q.doorIn i).obstructed = false) ∧
      q.doorState? 5 = some .open) := by decide +kernel

theorem hyp_DoorsHoldSetsAndClearsTheHoldFlags :
    (passing ready hdr (.doors 2 2 0) = true ∧ passing ready hdr (.doors 2 0 0) = true ∧
      (ready.asTaken hdr (.doors 2 0 0)).dc.pairs.fst.released = none) ∧
    (passing (released .open) hdr (.doors 2 1 0) = true ∧
      ((released .open).asTaken hdr (.doors 2 1 0)).dc.pairs.snd.released.isSome = true) ∧
    (passing (released .open) hdr (.doors 2 1 1) = true ∧
      ((released .open).asTaken hdr (.doors 2 1 1)).mau.mode ≠ .automatic ∧
      ((released .open).asTaken hdr (.doors 2 1 1)).dc.pairs.snd.released.isSome = true) := by decide +kernel

theorem hyp_LaneAndQueueOperationsActOnTheirFlags :
    (passing ready hdr (.lane 4 1) = true ∧ ((ready.asTaken hdr (.lane 4 1)).lane? 4).isSome = true) ∧
    (passing ready hdr (.lane 5 0) = true ∧ (ready.asTaken hdr (.lane 5 0)).lane? 5 = none) ∧
    (passing ready hdr (.lane 2 2) = true ∧
      (ready.asTaken hdr (.lane 2 2)).gqu.jamIn.getD 2 false = false) ∧
    (passing (after (.leafJam 2) ready) hdr (.lane 2 2) = true ∧
      ((after (.leafJam 2) ready).asTaken hdr (.lane 2 2)).gqu.jamIn.getD 2 false = true) ∧
    (passing ready hdr (.queue 5 1) = true ∧ 5 < (ready.asTaken hdr (.queue 5 1)).gqu.queues.length) ∧
    (passing ready hdr (.queue 6 0) = true ∧ (ready.asTaken hdr (.queue 6 0)).gqu.queues.length ≤ 6) := by
  decide +kernel

theorem hyp_AmendWaitsWhileTheClassIsInUse :
    let r : Request := .amend 1 1 5000 300 300
    (passing ready hdr r = true ∧ ((ready.asTaken hdr r).class? 1).map List.length = some 2 ∧
      (within 300 ((ready.asTaken hdr r).hc.lineMax.getD 0) 5000 && within 50 2000 300
        && within 50 2000 300) = true ∧ (ready.asTaken hdr r).classInUse 1 = false) ∧
    (passing running hdr r = true ∧ (running.asTaken hdr r).classInUse 1 = true) ∧
    (passing ready hdr (.amend 1 2 5000 300 300) = true ∧ passing ready hdr (.amend 0 0 5000 300 300) = true ∧
      passing ready hdr (.amend 1 1 299 300 300) = true) := by decide +kernel

theorem hyp_BrakeTestLiftsTheOtherBrakeAndBegins :
    let r : Request := .brakeTest 0 1 10 1000
    let s := inMode .inspection ready
    let q := s.asTaken hdr r
    let s' := inMode .inspection { ready with bl := tripped.bl }
    let r' : Request := .brakeTest 1 0 150 10000
    let q' := s'.asTaken hdr r'
    (passing s hdr r = true ∧ q.hc.haul = .parked ∧ q.standstill = true ∧ q.bl.driveReady = true ∧
      q.windowStop.isSome = true ∧ q.allLocked = true ∧ q.ft.presentClass .emergency = false ∧
      q.ft.presentClass .service = false ∧ q.bl.brakes.fst.state = .applied ∧
      q.bl.brakes.snd.state = .released) ∧
    (passing s' hdr r' = true ∧ q'.hc.haul = .parked ∧ q'.windowStop.isSome = true ∧ q'.allLocked = true ∧
      q'.bl.brakes.snd.state = .applied ∧ q'.bl.brakes.fst.state = .applied) ∧
    (passing s hdr (.brakeTest 2 0 10 1000) = true ∧ passing s hdr (.brakeTest 0 0 151 1000) = true ∧
      passing s hdr (.brakeTest 0 0 10 999) = true ∧ passing s hdr (.brakeTest 0 0 10 10001) = true) := by
  decide +kernel

theorem hyp_FaultsAckRemovesEndedServiceAndBlockSlots :
    passing (withFault ⟨.doorUnproven, 0⟩ .ended ready) hdr .faultsAck = true ∧
    ((withFault ⟨.doorUnproven, 0⟩ .ended ready).asTaken hdr .faultsAck).ft.slots.length = 69 ∧
    ((withFault ⟨.doorUnproven, 0⟩ .ended ready).asTaken hdr .faultsAck).ft.slots.all (fun r => match r with
      | none => true
      | some x => decide (1 ≤ x.count) && decide (x.count ≤ 255)) = true := by decide +kernel

theorem hyp_RestartEmptiesTheTrafficAndKeepsTheConfiguration :
    (passing ready hdr .restart = true ∧ (ready.asTaken hdr .restart).hc.haul = .parked ∧
      (ready.asTaken hdr .restart).standstill = true) ∧
    (passing running hdr .restart = true ∧ (running.asTaken hdr .restart).hc.haul = .running) := by
  decide +kernel

theorem hyp_EdgesMoveTheRopeAndTimePasses :
    ready.tt.clock < 4294967295 ∧
    4294967295 ≤ (ready.modTt fun t => { t with clock := 4294967295 }).tt.clock := by decide

/-- The DRIVE channel moving, the position UNKNOWN, the pair of stop 0 complete. -/
def lost : State :=
  { moving with lgp := { moving.lgp with position := .unknown, p := 0 } }

theorem hyp_QuietChannelsAndPresenceInputsReference :
    (lost.stu.speed.encoder .drive).quietDue = some 500000 ∧
    (lost.stu.speed.encoder .sheave).quiet = true ∧ lost.completePair = some 0 ∧
    lost.lgp.position = .unknown ∧ ready.lgp.presenceIn[5]? = some .none ∧
    ready.lgp.presenceIn[5]? ≠ some .carB := by decide +kernel

theorem hyp_PulsesAreIgnoredOrAttributedAndApplied :
    (ready.lgp.markers.length ≤ 23) ∧ (unknown.lgp.position = .unknown) ∧
    (atMarker.lgp.position = .referenced ∧ atMarker.lgp.markers[0]? = some ⟨300000, 0, 1000⟩ ∧
      atMarker.attributed ⟨300000, 0, 1000⟩ = some .a ∧
      (((300000 : Nat) : Int) - atMarker.carPos .a).natAbs ≤ atMarker.lgp.corrLimit) ∧
    (running.lgp.position = .referenced ∧ running.attributed ⟨300000, 0, 1000⟩ = none) ∧
    ((ready.modLgp fun g => { g with p := 1197600000 }).attributed ⟨300000, 0, 1000⟩ = some .a ∧
      (ready.modLgp fun g => { g with p := 1197600000 }).lgp.corrLimit
        < (((300000 : Nat) : Int) - (ready.modLgp fun g => { g with p := 1197600000 }).carPos .a).natAbs) := by
  decide +kernel

/-- Channel one with an outside count of 1. -/
def outside1 : TensionChannel := { tensionChannel with outside := 1, limits := some ⟨0, 100, 0, 100⟩ }

theorem hyp_ConversionsFillTheWindowOrFaultTheChannel :
    let ch := tensionChannel
    let x : Int := ((30000 : Nat) : Int) * ch.gain + ch.offset * 1000
    let w := (ch.window ++ [x]).drop (ch.window.length + 1 - ch.size)
    (ch.size ≤ w.length ∧ ready.stu.tension.chan .one = ch) ∧
    (((([] : List Int) ++ [x]).drop (0 + 1 - ch.size)).length < ch.size) ∧
    (ready.mau.mode ≠ .off ∧ withinKg 0 100 (roundDiv w.sum ch.size) = false ∧ 1 ≤ outside1.outside ∧
      outside1.limitCondition = false) ∧
    ch.missingDue = some 400000 := by decide +kernel

theorem hyp_BrakeFeedbackAndDriveReportsAreActedOn :
    ((brakeAt .applied).agrees = true ∧ ({ brakeAt .applied with appliedIn := false } : BrakeRec).agrees = false
      ∧ ready.bl.brakes.fst = brakeAt .applied) ∧
    (disagreeing.bl.brakes.fst.agrees = false) ∧
    ((brakeMoving .releasing ready).bl.brakes.fst.state = .releasing ∧
      (brakeMoving .releasing ready).bl.brakes.fst.proofDue = some 1000000) ∧
    ((brakeMoving .applying ready).bl.brakes.fst.state = .applying ∧
      (brakeMoving .applying ready).bl.brakes.fst.proofDue = some 1000000) ∧
    (ready.bl.driveReady = true ∧ ready.hc.haul = .parked ∧ running.hc.haul = .running ∧
      running.bl.driveReady = true ∧ warning.hc.haul = .warning ∧ warning.bl.driveReady = true) ∧
    ((ready.modBl fun b => { b with driveReady := false }).bl.driveReady = false) := by decide +kernel

/-- The rope moves up at 8 m/s as it did at the last sample, in a stop of a stage. -/
def unslowed (stage : Nat) : State :=
  (stopping stage (some 80000)).modStu fun x => { x with speed :=
    ⟨{ quietChannel with quiet := false, history := [499969, 500000], sense := some .up },
     { quietChannel with quiet := false, history := [499938, 500000], sense := some .up }⟩ }

theorem hyp_StopsEscalateAndDeparturesRelease :
    ((stopping 1 none).bl.stop.map StopRec.sample = some none) ∧
    ((stopping 1 (some 0)).bl.stop.bind StopRec.sample = some 0 ∧
      (passUntil 500000 (stopping 1 (some 0))).slowsEnough 0 = true ∧
      (stopping 1 (some 0)).hc.haul = .stopping) ∧
    ((passUntil 500000 (unslowed 1)).slowsEnough 80000 = false ∧
      (unslowed 1).bl.stop.map StopRec.stage = some 1) ∧
    ((passUntil 500000 (unslowed 2)).slowsEnough 80000 = false ∧
      (unslowed 2).bl.stop.map StopRec.stage = some 2) ∧
    (warning.hc.warnDue = some 5000000 ∧ warning.ft.presentClass .emergency = false) ∧
    (pulsing.bpu.pulseDue = some 1000000 ∧ pulsing.bpu.test.map Test.phase = some .pulse) := by decide +kernel

theorem hyp_CarLinesReportAndFallSilent :
    ((ready.hc.carLine.car .a).brakeApplied = false ∧ (ready.hc.carLine.car .b).buttonPressed = false) ∧
    (running.hc.haul = .running ∧ asleep.mau.mode = .off) ∧
    (2 + 2 ≤ running.stations ∧ running.parkedStop = none) ∧
    (ready.parkedStop = some 0 ∧ ready.stationOf .b 0 = 3 ∧ ready.stations < 3 + 2) ∧
    (ready.hc.carLine.car .a).silenceDue = some 2000000 := by decide +kernel

theorem hyp_DoorInputsMoveTheDoorSets :
    (ready.doorState? 4 = some .locked ∧ (ready.doorIn 4).closed = true) ∧
    ((released .closing).doorState? 5 = some .closing ∧ ((released .closing).doorIn 5).closed = false) ∧
    ((released .opening).doorState? 5 = some .opening ∧ ((released .opening).doorIn 5).opened = false) ∧
    (∀ c r, ((released .opening).dc.pairs.car c).released = some r → r.closeDemand = false) ∧
    ready.dc.inputs.length = 8 ∧
    ((released .closing).doorState? 1 = some .closing ∧ ((released .closing).doorIn 1).closed = false) := by
  refine ⟨by decide +kernel, by decide +kernel, by decide +kernel, ?_, by decide +kernel, by decide +kernel⟩
  intro c r h
  cases c <;> cases h
  rfl

theorem hyp_DoorProofsAndTheDwellExpire :
    ((proving .opening).doorState? 1 = some .opening ∧
      ((proving .opening).dc.sets[1]?).bind DoorSet.proof = some { start := 0, due := 1000000 }) ∧
    (∀ c r, ((proving .opening).dc.pairs.car c).released = some r → r.closeDemand = false) ∧
    ((proving .closing).doorState? 1 = some .closing ∧ (proving .closing).pairOf 1 = some .b) ∧
    (dwelling.dc.dwell = .running 0 30000000 ∧ dwelling.unheld .b = true ∧
      ∀ i ∈ dwelling.pairSets .b 0, (dwelling.doorIn i).closed = false ∧
        (dwelling.doorIn i).obstructed = false) ∧
    (∀ c r, (dwelling.dc.pairs.car c).released = some r → c = .b ∧ r.stop = 0) ∧
    ((ready.modDc fun d => { d with dwell := .running 0 30000000 }).unheld .a = false ∧
      (ready.modDc fun d => { d with dwell := .running 0 30000000 }).unheld .b = false) := by
  refine ⟨by decide +kernel, ?_, by decide +kernel, by decide +kernel, ?_, by decide +kernel⟩
  · intro c r h
    cases c <;> cases h
    rfl
  · intro c r h
    cases c <;> cases h
    exact ⟨rfl, rfl⟩

theorem hyp_PresentationsAreAdmittedOrRefused :
    (ready.lane? 15 = none) ∧ ((ready.lane? 1).map Lane.role = some .exit) ∧
    (ready.lane? 0 = some (entryLane 0 0 .entryUp) ∧ queueIndex ready.stations 0 .up = some 0 ∧
      ready.gqu.queues[0]? = some { hostClosed := false, entries := [] } ∧
      ready.laneState (entryLane 0 0 .entryUp) = .open) ∧
    ((inMode .inspection ready).laneState (entryLane 0 0 .entryUp) = .closed) ∧
    (validate 1000 0 .up false ready.tt).outcome = .admits ∧
    (validate 1001 0 .up false ready.tt).outcome = .used ∧
    (validate 5000 0 .up false ready.tt).outcome = .notValid ∧
    (validate 1 0 .up false ready.tt).outcome = .unknown ∧ ready.tt.find 1 = none ∧
    ((ready.tt.find 1001).map (fun b => (b.validOn ready.tt.day, b.cls, b.marks.testBit (1001 - b.first)))
      = some (true, .single, true)) ∧
    ((ready.tt.find 1000).map (fun b => (b.validOn ready.tt.day, b.cls, b.marks.testBit (1000 - b.first)))
      = some (true, .single, false)) ∧
    ((ready.tt.find 5009).map (fun b => b.validOn ready.tt.day) = some false) := by decide +kernel

/-- Queue 0 holds 160 entries. -/
def crowded : State :=
  ready.modGqu fun g => { g with queues := updateAt 0 (fun _ =>
    { hostClosed := false, entries := List.replicate 160
        { serial := 9, cls := .day, lane := 0, admitted := some 0, batch := none } }) g.queues }

theorem hyp_PresentationsAreAdmittedOrRefused_full :
    crowded.laneState (entryLane 0 0 .entryUp) = .open ∧
    (crowded.gqu.queues[0]?).map (fun x => x.entries.length) = some 160 := by decide +kernel

/-- A ticket was admitted at lane 0. -/
def admitted : State := after (.lanePresentation 0 1000) ready

theorem hyp_PassagesTimeoutsAndJamsAreCounted :
    (ready.lane? 15 = none) ∧
    ((admitted.lane? 0).map (fun l => (l.role.dir, l.passage.map Passage.serial, admitted.laneQueue l))
      = some (some .up, some 1000, some 0)) ∧
    ((ready.lane? 0).map (fun l => (l.role.dir, l.passage.isNone)) = some (some .up, true)) ∧
    ((ready.lane? 1).map (fun l => (l.role, ready.alighting l.station)) = some (.exit, none)) ∧
    (((inMode .attended (withDoor 0 .open none ⟨false, true, false⟩ (withDoor 2 .open none ⟨false, true, false⟩
        ready))).modDc fun d => { d with pairs := ⟨{ released := some ⟨0, false, false⟩, pendingStop := none },
          d.pairs.snd⟩ }).alighting 0 = some .a) ∧
    (((admitted.lane? 0).bind Lane.passage).map Passage.due = some 8000000) := by decide +kernel

theorem hyp_CrossChecksAndSupervisionExpire :
    crossChecked.stu.disagreeDue = some 300000 ∧ settling.gqu.settleDue = some 3000000 ∧
    (settling.gqu.disagree = false ∧ ready.mau.supDue = some 2000000) ∧
    (running.mau.supDue = some 2000000 ∧ running.hc.haul = .running) ∧
    (pulsing.mau.supDue = some 2000000 ∧ pulsing.bpu.test.map Test.phase = some .pulse) := by decide +kernel

theorem hyp_AMarkedKeyStandsOnceInTheNoticeList :
    (NoticeKey.haul ∉ State.reset.ll.notices ∧ NoticeKey.wake ∈ State.reset.ll.notices ∧
      State.reset.ll.notices.Nodup) ∧
    (noticeKeys.Nodup ∧ ∀ k ∈ noticeKeys, k ∈ noticeKeys) ∧
    (State.reset.ll.sending = none ∧ State.reset.ll.replySlot = none ∧
      State.reset.ll.notices = .mode :: [.wake]) ∧
    (NoticeKey.mode ∈ noticeKeys ∧ changed ready (settle ready (inMode .inspection ready)) .mode = true) := by
  decide +kernel

theorem hyp_ARaiseOfAPresentSlotKeepsItsFirstTime :
    (withFault ⟨.brakeFeedback, 0⟩ .ended ready).ft.slots.length = 69 ∧
    FaultKey.mk .brakeFeedback 0 ∈ allKeys ∧ FaultKey.mk .gateLaneFault 15 ∈ allKeys ∧
    (withFault ⟨.brakeFeedback, 0⟩ .ended ready).ft.slot ⟨.brakeFeedback, 0⟩
      = some { state := .ended, first := 0, last := 0, count := 1 } := by decide +kernel

theorem hyp_TheAutomaticTargetIsTheNextDemandedStop :
    (ready.hc.heading = .up ∧ ready.autoTarget 0 = some 3 ∧ 0 < ready.stations ∧ 2 ≤ ready.stations) ∧
    ((ready.modHc fun h => { h with heading := .down }).hc.heading = .down ∧
      (ready.modHc fun h => { h with heading := .down }).autoTarget 3 = some 0) := by decide +kernel

/-- The standby travel is 1 mm after a count of 1 mm, and 3 mm after a further count of 2 mm. -/
theorem test_standbyTravel :
    addCount 1000 .up (0, 1) = (1000, 1000) ∧ addCount 500 .up (1000, 1000) = (1500000, 500000) := by
  decide +kernel

/-! ### Witnesses of the clauses on the end of an event, on movement and on standstill -/

/-- Bytes that make a complete frame of HOLD but for its check. -/
theorem hyp_BytesShortOfAFrameReachTheReceiver_check :
    let core := (requestTail hdr .hold).take 6
    core.length = bytesValue ((core ++ [0#8, 0]).take 2) + 2 ∧ 4 ≤ bytesValue ((core ++ [0#8, 0]).take 2) ∧
    bytesValue ((core ++ [0#8, 0]).take 2) ≤ 1064 ∧ bytesValue [0#8, 0] ≠ (crc core).toNat ∧
    (receiving (core ++ [0#8])).ll.rx = some (core ++ [0#8]) := by decide +kernel

theorem hyp_FramesWaitWhileAReplyDoes_empty :
    let s := ready.modLl fun x => { x with sending := some { frame := .notice .haul none, due := 50 } }
    ready.ll.sending = none ∧ s.ll.sending = some { frame := .notice .haul none, due := 50 } ∧
    s.ll.replySlot = none ∧ s.ll.holding = [] := by decide +kernel

/-- The line RUNNING with car A d mm before its target. -/
def ahead (d : Nat) : State := running.modLgp fun g => { g with p := (1780000 - d) * 4000 }

/-- In AUTOMATIC at stop 0 after an arrival. -/
def arrived : State := (inMode .automatic ready).modHc fun h => { h with arrivalDue := true }

/-- In AUTOMATIC at stop 0, the cycle READY. -/
def cycleReady : State := (inMode .automatic ready).modHc fun h => { h with cycle := .ready }

theorem hyp_WhatTheEndOfAnEventAndAFrameLeaveAlone :
    ((ahead 40).hc.haul = .running ∧ (ahead 40).hc.trip.rec? = some trip03 ∧
      (ahead 40).hc.unreferencedTrip = false ∧ (ahead 40).targetDistance trip03 = some 40 ∧
      2 * (ahead 40).classDecel trip03.kind * 40 * 1000000000000
        ≤ (ahead 40).creep trip03.kind * (ahead 40).creep trip03.kind) ∧
    ((ahead 3000).targetDistance trip03 = some 3000 ∧ (ahead 3001).targetDistance trip03 = some 3001) ∧
    (trip03.kind = .cls 1 ∧ ((ahead 40).class? 1).map List.length = some 2 ∧
      (ahead 40).hc.trip.rec?.map TripRec.dir = some .up) ∧
    (ready.hc.haul = .parked ∧ ready.parkedStop = some 0 ∧ unknown.lgp.position ≠ .referenced) ∧
    (running.classInUse 1 = true ∧ ready.classInUse 1 = false ∧ suspended.hc.trip.state ≠ .none ∧
      ready.hc.trip.state = .none) ∧
    (arrived.hc.arrivalDue = true ∧ arrived.bl.brakes.fst.state = .applied ∧ arrived.mau.mode = .automatic) ∧
    (ready.mayRelease .b 0 = true ∧ ready.mayRelease .b 1 = false) ∧
    (suspended.hc.trip.state = .suspended ∧
      (cycleReady.checkDispatch cycleReady.attemptTarget 0).toOption = some (some 3, .up) ∧
      ((withFault ⟨.doorUnproven, 0⟩ .ended cycleReady).checkDispatch cycleReady.attemptTarget 0).toOption
        = none) ∧
    (attemptDue arrived cycleReady = true ∧ attemptDue cycleReady cycleReady = false ∧
      cycleReady.hc.cycle = .ready ∧ arrived.hc.cycle ≠ .ready ∧
      (attempt (withFault ⟨.doorUnproven, 0⟩ .ended cycleReady)).hc.cycle = .ready) := by decide +kernel

theorem hyp_DispatchOpensATripInWarning_codes :
    let bad := { ready with bpu := { ready.bpu with records := ⟨none, some passed⟩ } }
    (passing ready hdr (.dispatch 4 0) = true ∧ (ready.asTaken hdr (.dispatch 4 0)).targetOk 4 0 = false) ∧
    (passing bad hdr (.dispatch 3 0) = true ∧
      (bad.asTaken hdr (.dispatch 3 0)).recordValid .holding = false) ∧
    codeOf (after (.dispatch hdr 3 0) bad) = some .brakeTestDue := by decide +kernel

theorem hyp_ResumeContinuesASuspendedTrip_codes :
    let s := suspended.modBl fun b => { b with driveReady := false }
    (passing s hdr .resume = true ∧ (s.asTaken hdr .resume).bl.driveReady = false ∧
      (s.asTaken hdr .resume).hc.trip.rec? = some trip03) ∧
    ((ready.asTaken hdr .resume).hc.trip.rec? = none ∧ (ready.asTaken hdr .resume).hc.cycle ≠ .held) := by
  decide +kernel

theorem hyp_BrakeTestLiftsTheOtherBrakeAndBegins_codes :
    let s := (inMode .inspection ready).modLgp fun g => { g with p := 90000000 }
    passing s hdr (.brakeTest 0 1 10 1000) = true ∧ (s.asTaken hdr (.brakeTest 0 1 10 1000)).windowStop = none ∧
    codeOf (after (.brakeTest hdr 0 1 10 1000) s) = some .offStop := by decide +kernel

/-- Car A at x mm with a watch of its own. -/
def watching (x : Int) (w : Option Watch) : State :=
  running.modLgp fun g => { g with p := x * 4000, watch := ⟨w, none⟩ }

/-- Car A at x mm with an overtravel field of its own. -/
def overshot (x : Int) (o : Option Side) : State :=
  running.modLgp fun g => { g with p := x * 4000, overtravel := ⟨o, none⟩ }

/-- In OFF with a standby travel of n counts. -/
def travelled (n : Int) : State :=
  asleep.modMau fun m => { m with standbyTravel := n * 1000, standbyScale := 4000 }

theorem hyp_EdgesMoveTheRopeAndTimePasses_cases :
    ((watching 301000 (some ⟨0, true, false⟩)).carPos .a = 301000 ∧
      (watching 301001 (some ⟨0, true, false⟩)).carPos .a = 301001 ∧
      running.lgp.markers[0]? = some ⟨300000, 0, 1000⟩) ∧
    ((watching 301000 none).markerAt .a 301000 = some 0 ∧
      (watching 301001 none).markerAt .a 301001 = none ∧ running.lgp.position = .referenced) ∧
    ((overshot (-1001) none).overtravelSide (-1001) = some .below ∧
      (overshot (-1000) (some .below)).overtravelSide (-1000) = none ∧
      (overshot 1801001 (some .below)).overtravelSide 1801001 = some .above ∧ unknown.lgp.position = .unknown) ∧
    (ready.mau.mode ≠ .off ∧ (travelled 199).mau.mode = .off ∧ (travelled 199).lgp.line ≠ none ∧
      (199 + 1) * 1000 = 50 * (travelled 199).driveCpm ∧
      50 * (travelled 200).driveCpm < (200 + 1) * 1000) ∧
    ((running.hc.classes[0]?).map (fun c => c.map List.length) = some (some 2) ∧
      running.hc.haul = .running ∧ (stopping 1 none).hc.haul = .stopping) := by decide +kernel

theorem test_encoderEdge_standby : (after (.encoderEdge .drive .up 10) (travelled 200)).mau.wakeSet
      = [.movement, .power] ∧
    (after (.encoderEdge .drive .up 10) (travelled 199)).mau.standbyTravel = 200000 := by decide +kernel

/-- The haul in APPROACH to stop 0, where it stands. -/
def reaching : State :=
  (inHaul .approach ready).modHc fun h => { h with
    trip := { state := .active, rec? := some { trip03 with target := some 0, dir := .down }, cause := none } }

/-- The haul in APPROACH d mm before stop 3, with no car reported at a station. -/
def short (d : Nat) : State :=
  inHaul .approach ((ahead d).modLgp fun g => { g with presence := ⟨none, none⟩ })

/-- Standing with a position state, freshness needed or not, the rope at p. -/
def placed (x : PosState) (fresh : Bool) (p : Int) : State :=
  ready.modLgp fun g => { g with position := x, freshNeeded := fresh, p := p }

/-- An unreferenced trip RUNNING with no pair complete. -/
def blind : State :=
  (running.modLgp fun g => { g with
    position := .unknown, presence := ⟨none, some 3⟩,
    presenceIn := [.none, .none, .none, .carB, .none, .none] }).modHc fun h => { h with
      unreferencedTrip := true,
      trip := { state := .active, rec? := some { trip03 with target := none }, cause := none } }

theorem hyp_QuietChannelsAndPresenceInputsReference_cases :
    let q := formPresences (blind.modLgp fun g => { g with
      presenceIn := updateAt 0 (fun _ => .carA) g.presenceIn })
    ((modSpeed .drive SpeedChannel.silence (passUntil 500000 moving)).standstill = true ∧
      (modSpeed .drive SpeedChannel.silence (passUntil 500000 (moving.modStu fun x => { x with
        speed := ⟨x.speed.fst, x.speed.fst⟩ }))).standstill = false) ∧
    (reaching.hc.haul = .approach ∧ reaching.windowStop = some 0 ∧ reaching.pairComplete 0 = true ∧
      reaching.hc.unreferencedTrip = false) ∧
    ((short 1150).targetDistance trip03 = some 1150 ∧ (short 1150).stopWindow = 150 ∧
      (short 151).targetDistance trip03 = some 151 ∧ (short 1151).targetDistance trip03 = some 1151 ∧
      (short 150).targetDistance trip03 = some 150 ∧ (short 150).pairComplete 3 = false) ∧
    ((stopping 1 none).hc.haul = .stopping ∧ (stopping 1 none).bl.stop.map StopRec.cause = some .hold) ∧
    (ready.hc.haul ≠ .approach ∧ ready.hc.haul ≠ .stopping) ∧
    (moving.standstill = false ∧ unknown.completePair = none ∧ ready.standstill = true ∧
      ready.completePair = some 0) ∧
    ((placed .unknown false 0).lgp.position = .unknown ∧
      (placed .doubtful false 0).lgp.freshNeeded = false ∧
      (placed .doubtful true 0).lgp.freshNeeded = true) ∧
    ((placed .referenced false 78000000).carNear .a 0 500 = true ∧
      (placed .referenced false 77996000).carNear .a 0 500 = false ∧ ready.ft.slots.length = 69 ∧
      ready.lgp.corrLimit = 500) ∧
    ((∀ x ∈ line4'.table, x.sensor ≠ 5) ∧ (∃ x ∈ line4'.table, x.sensor = 3) ∧
      ready.lgp.line = some line4') ∧
    (q.completePair = some 0 ∧ q.hc.haul = .running ∧ q.hc.unreferencedTrip = true ∧
      blind.completePair = none) := by decide +kernel

theorem test_quietExpiry_arrives :
    (after (.quietExpiry .drive) { reaching with stu := moving.stu }).hc.trip.state = .completed ∧
    (after (.quietExpiry .drive) { short 1150 with stu := moving.stu }).hc.haul = .approach ∧
    (after (.quietExpiry .drive) { short 1151 with stu := moving.stu }).hc.trip.cause = some .overrun := by
  decide +kernel

/-- An input that no station record names keeps its value and does nothing else. -/
theorem test_presenceChange_unnamed :
    (after (.presenceChange 4 .carA) (placed .referenced false 0)).lgp
      = { (placed .referenced false 0).lgp with
          presenceIn := [.carA, .none, .none, .carB, .carA, .none] } ∧
    (after (.presenceChange 0 .carA) ((placed .referenced false 0).modLgp fun g => { g with
      presenceIn := unknown.lgp.presenceIn, presence := unknown.lgp.presence })).lgp.position = .doubtful := by
  decide +kernel

theorem hyp_PulsesAreIgnoredOrAttributedAndApplied_cases :
    (-6000000 ≤ atMarker.lgp.corr.car .a + ((300000 : Nat) - atMarker.carPos .a) ∧
      atMarker.lgp.corr.car .a + ((300000 : Nat) - atMarker.carPos .a) ≤ 6000000) ∧
    (atMarker.lgp.watch.car .a = none ∧ atMarker.carPos .a ≠ (300000 : Nat)) ∧
    ((watching 299880 (some ⟨0, false, false⟩)).lgp.watch.car .a = some ⟨0, false, false⟩ ∧
      (watching 299880 (some ⟨0, false, false⟩)).attributed ⟨300000, 0, 1000⟩ = some .a) ∧
    running.ft.slots.length = 69 := by decide +kernel

/-- A capture at the other marker leaves the window of the watch by the far side. -/
theorem test_markerPulse_missed :
    let s := (watching 880300 (some ⟨0, true, false⟩)).modLgp fun g => { g with corrLimit := 2000 }
    ((after (.markerPulse 1) s).ft.slot ⟨.markerMissed, 0⟩).isSome = true ∧
    (after (.markerPulse 1) s).lgp.watch.fst = some ⟨1, false, true⟩ := by decide +kernel

/-- Channel one with standby limits of its own and a standby flag. -/
def standby (flag : Bool) : TensionChannel :=
  { tensionChannel with limits := some ⟨0, 100, 14000, 14000⟩, standbyFlag := flag }

theorem hyp_ConversionsFillTheWindowOrFaultTheChannel_cases :
    let w : List Int := [14000000, ((30000 : Nat) : Int) * 500 + -1000 * 1000]
    let v : List Int := [14000000, ((30002 : Nat) : Int) * 500 + -1000 * 1000]
    (withinKg 14000 14000 (roundDiv w.sum 2) = true ∧ withinKg 14000 14000 (roundDiv v.sum 2) = false) ∧
    ((standby false).standbyFlag = false ∧ (standby true).standbyFlag = true) ∧
    (asleep.mau.mode = .off ∧ ready.mau.mode ≠ .off ∧ tensionChannel.outside = 0 ∧
      tensionChannel.limitCondition = false) := by decide +kernel

theorem test_tensionConversion_standby :
    let s := asleep.modStu fun x => { x with tension := ⟨standby false, x.tension.snd⟩ }
    (after (.tensionConversion .one 30002) s).mau.wakeSet = [.tension, .power] ∧
    (after (.tensionConversion .one 30000) s).mau = s.mau := by decide +kernel

theorem hyp_BrakeFeedbackAndDriveReportsAreActedOn_cases :
    let lifted : BrakeRec := { brakeAt .releasing with releasedIn := true }
    let closed : BrakeRec := { brakeAt .applying with appliedIn := true }
    (lifted.state = .releasing ∧ lifted.appliedIn = false ∧ closed.state = .applying ∧
      closed.releasedIn = false) ∧
    ((brakeAt .releasing).releasedIn = false ∧ (brakeAt .applying).appliedIn = false) ∧
    ((stopping 1 none).bl.driveReady = true ∧ (stopping 1 none).bl.stop.map StopRec.stage = some 1 ∧
      (stopping 2 none).bl.stop.map StopRec.stage = some 2) ∧
    (pulsing.bl.driveReady = true ∧ pulsing.hc.haul = .brakeTest ∧
      pulsing.bpu.test.map Test.phase = some .pulse) := by decide +kernel

theorem test_driveReportChange_stop :
    ((after (.driveReportChange false) (stopping 1 none)).bl.stop.map
      (fun r => (r.stage, r.cause))) = some (2, .fault .brakeEscalated) ∧
    ((after (.driveReportChange false) pulsing).bpu.test.map Test.phase) = some .restoring := by
  decide +kernel

/-- The last entry of queue 0 is in the batch of car A, the first is not. -/
def batched : State :=
  (running.modGqu fun g => { g with
    queues := updateAt 0 (fun _ => { hostClosed := false, entries :=
      [{ serial := 8, cls := .day, lane := 0, admitted := some 0, batch := none },
       { serial := 9, cls := .day, lane := 0, admitted := some 0, batch := some .a }] }) g.queues,
    batches := ⟨some { stop := 0, queue := 0 }, none⟩ }).modHc fun h => { h with commitRef := 398000000 }

/-- The rope at 0.5 m/s up on both channels at 500 ms. -/
def creeping (x : HaulState) : State :=
  { (inHaul x ready).modStu (fun y => { y with speed :=
      ⟨{ quietChannel with quiet := false, history := [499500, 500000], sense := some .up },
       { quietChannel with quiet := false, history := [499000, 500000], sense := some .up }⟩ }) with
    now := 500000 }

theorem hyp_StopsEscalateAndDeparturesRelease_cases :
    ((inHaul .releasing running).bl.brakes.fst.state = .released ∧
      (inHaul .releasing running).bl.brakes.snd.state = .released ∧
      releasing.bl.brakes.fst.state ≠ .released ∧ releasing.hc.haul = .releasing) ∧
    ((ahead 3000).nearTarget = true ∧ (ahead 3001).nearTarget = false ∧ (ahead 3000).hc.haul = .running) ∧
    (batched.hc.trip.rec? = some trip03 ∧ batched.hc.haul = .running ∧ batched.hc.trip.state = .active ∧
      500 * batched.driveCpm = (batched.lgp.p - batched.hc.commitRef).natAbs ∧ batched.batchSize .a = 1 ∧
      trip03.committed = false) ∧
    ((batched.modLgp fun g => { g with p := 399999000 }).lgp.p - batched.hc.commitRef).natAbs
      < 500 * batched.driveCpm ∧
    ((creeping .parked).serviceTestNow = true ∧ (creeping .parked).bl.serviceTest = false ∧
      (creeping .parked).emergencyTestNow = false) ∧
    ((passUntil 500000 (inHaul .parked (unslowed 1))).emergencyTestNow = true ∧
      (passUntil 500000 (inHaul .parked (unslowed 1))).bl.emergencyTest = false) ∧
    (ready.serviceTestNow = false ∧ ready.emergencyTestNow = false) ∧
    (pulsing.bpu.test.bind Test.start = some 80000000 ∧
      max 0 ((80080000 : Int) - 80000000).natAbs = 20 * pulsing.driveCpm ∧
      20 * pulsing.driveCpm < max 0 ((80081000 : Int) - 80000000).natAbs) ∧
    (passUntil 5000000 warning).ft.presentClass .emergency = false := by decide +kernel

/-- The commit takes the batch of car A out of its queue and into its load. -/
theorem test_commit :
    ((after (.encoderEdge .drive .up 10) batched).gqu.queues[0]?).map (fun q => q.entries.map Entry.serial)
      = some [8] ∧ (after (.encoderEdge .drive .up 10) batched).gqu.loads.fst = some 1 := by decide +kernel

theorem hyp_CarLinesReportAndFallSilent_cases :
    let silent : CarLine := { aliveLine with alive := false, brakeApplied := true, buttonPressed := true }
    (silent.alive = false ∧ silent.brakeApplied = true ∧ silent.buttonPressed = true) ∧
    (aliveLine.alive = true ∧ aliveLine.brakeApplied = false ∧ aliveLine.buttonPressed = false) ∧
    (asleep.mau.mode = .off ∧ ready.mau.mode ≠ .off) := by decide +kernel

/-- A repeated report PRESSED wakes again. -/
theorem test_carEmergencyButtonReport_again :
    (after (.carEmergencyButtonReport .a true) (after (.carEmergencyButtonReport .a true) asleep)).mau.wakeCount
      = 3 := by decide +kernel

/-- Car B's pair released at stop 0 with its close demand, set 5 in state x and set 1 OPEN; the reopen counts
are n. -/
def demanded (x : DoorState) (p : Option Proof) (n : Nat) : State :=
  (withDoor 5 x p ⟨false, false, false⟩ (withDoor 1 .open none ⟨false, false, false⟩ (released .open))).modDc
    fun d => { d with
      sets := d.sets.map (fun y => { y with reopen := n }),
      pairs := ⟨d.pairs.fst, { released := some ⟨0, true, false⟩, pendingStop := none }⟩ }

theorem hyp_DoorInputsMoveTheDoorSets_cases :
    ((demanded .opening none 0).doorState? 5 = some .opening ∧
      (demanded .opening none 0).dc.pairs.snd.released = some ⟨0, true, false⟩ ∧
      (demanded .opening none 0).dc.pairs.fst.released = none ∧
      (demanded .opening none 0).pairSets .b 0 = [1, 5] ∧
      (∀ j ∈ [1, 5], ((demanded .opening none 0).doorIn j).closed = false ∧
        ((demanded .opening none 0).doorIn j).obstructed = false) ∧
      (demanded .opening none 0).doorState? 1 = some .open) ∧
    ((demanded .closing none 1).doorState? 5 = some .closing ∧ (demanded .closing none 1).pairOf 5 = some .b ∧
      (∀ j ∈ [1, 5], ((demanded .closing none 1).doorIn j).opened = false)) ∧
    ((demanded .closing none 1).dc.sets[5]?.map DoorSet.reopen = some 1 ∧
      (demanded .closing none 2).dc.sets[5]?.map DoorSet.reopen = some 2) ∧
    (queueIndex ready.stations (ready.stationOf .b 0) (ready.headingOf .b) = some 5 ∧
      ready.gqu.batches.car .b = none ∧ (ready.gqu.queues[5]?).isSome = true) := by decide +kernel

theorem test_platformDoorInputChange_obstruction :
    let t := after (.platformDoorInputChange 3 .obstruction true) (demanded .closing none 2)
    t.doorState? 5 = some .opening ∧ t.dc.pairs.snd.released = some ⟨0, false, true⟩ ∧
    (t.ft.slot ⟨.doorObstructed, 5⟩).isSome = true ∧
    (after (.platformDoorInputChange 3 .obstruction true) (demanded .closing none 1)).ft.entries = [] ∧
    (after (.platformDoorInputChange 3 .fullyOpen true) (demanded .opening none 0)).dc.sets.map DoorSet.state
      = [.locked, .closing, .locked, .locked, .locked, .closing] := by decide +kernel

theorem hyp_DoorProofsAndTheDwellExpire_cases :
    let s := demanded .opening (some { start := 0, due := 1000000 }) 0
    (s.doorState? 5 = some .opening ∧ (s.dc.sets[5]?).bind DoorSet.proof = some { start := 0, due := 1000000 } ∧
      5 ∈ s.pairSets .b 0 ∧ (after (.openProofExpiry 5) s).doorState? 5 = some .closing) ∧
    ((released .open).releasedOpen = true ∧ (released .opening).releasedOpen = false ∧
      (released .open).dc.dwell = .idle ∧ (released .open).releasePending = false ∧
      (inMode .automatic (released .open)).mau.mode = .automatic) ∧
    (dwelling.dc.dwell ≠ .idle ∧ dwelling.dc.pairs.snd.released ≠ none ∧
      ready.dc.pairs.fst.released = none ∧ ready.dc.pairs.snd.released = none) := by decide +kernel

/-- Blocks of every class, with passback entries of serial 41 at station 1. -/
def classes : State :=
  ready.modTt fun t => { t with
    blocks := [{ id := 1, first := 20, count := 2, cls := .return, firstDay := 0, lastDay := 0, marks := 4 },
               { id := 2, first := 40, count := 2, cls := .day, firstDay := 0, lastDay := 0, marks := 0 },
               { id := 3, first := 60, count := 2, cls := .staff, firstDay := 0, lastDay := 0, marks := 0 }],
    passback := [{ serial := 41, station := 1, time := 0 }] }

theorem hyp_PresentationsAreAdmittedOrRefused_classes :
    ((classes.tt.find 21).map (fun b => (b.cls, b.validOn 0, b.marks.testBit 2, b.marks.testBit 3))
      = some (.return, true, true, false)) ∧
    (validate 21 1 .up false classes.tt).outcome = .used ∧
    (validate 21 1 .down false classes.tt).outcome = .admits ∧
    (validate 41 1 .up false classes.tt).outcome = .passback ∧
    (validate 41 2 .up false classes.tt).outcome = .admits ∧
    (validate 40 1 .up true classes.tt).outcome = .passback ∧
    (validate 41 1 .up false { classes.tt with passbackS := 0 }).outcome = .admits ∧
    (validate 60 1 .up true classes.tt).outcome = .passback ∧
    (validate 60 1 .up false classes.tt).outcome = .admits ∧
    ((classes.tt.find 40).map (fun b => (b.cls, b.validOn 0)) = some (.day, true)) ∧
    ((classes.tt.find 60).map (fun b => (b.cls, b.validOn 0)) = some (.staff, true)) ∧
    classes.tt.passbackS = 600 := by decide +kernel

theorem hyp_CrossChecksAndSupervisionExpire_cases :
    let fast := { running with now := 500000 }.modStu fun x => { x with speed :=
      ⟨(creeping .running).stu.speed.fst, quietChannel⟩ }
    let against := { running with now := 500000 }.modStu fun x => { x with speed :=
      ⟨(creeping .running).stu.speed.fst,
       { (creeping .running).stu.speed.snd with sense := some .down }⟩ }
    (fast.magnitudeTest = true ∧ fast.stu.magnitudeHolds = false ∧ fast.stu.disagreeDue = none ∧
      fast.directionTest = false) ∧
    (against.directionTest = true ∧ against.stu.directionHolds = false ∧ against.magnitudeTest = false) ∧
    (ready.magnitudeTest = false ∧ crossChecked.stu.disagreeDue = some 300000 ∧
      crossChecked.now < 300000 ∧ 300000 ≤ (passUntil 300000 crossChecked).now ∧
      (passUntil 300000 crossChecked).stu.disagreeDue = some 300000) ∧
    ((ready.modStu fun x => { x with tension := ⟨{ tensionChannel with average := some 14200001 },
      tensionChannel⟩ }).farSide = true ∧ ready.farSide = false) := by decide +kernel

/-- A magnitude test that decay ends before the interval does raises nothing. -/
theorem test_disagreementIntervalExpiry_ceased :
    let s := { running with now := 500000 }.modStu fun x => { x with
      speed := ⟨{ (creeping .running).stu.speed.fst with history := [499500, 500000] }, quietChannel⟩,
      magnitudeHolds := true, disagreeDue := some 700000 }
    (after .disagreementIntervalExpiry s).stu.disagreeDue = none ∧
    (after .disagreementIntervalExpiry s).ft.entries = [] := by decide +kernel

/-! ### The clauses of the second review -/

/-- The demand terms of R42: a later segment up and down, and no class, no reference, INSPECTION, RECOVERY. -/
theorem hyp_WhatTheEndOfAnEventAndAFrameLeaveAlone_terms :
    let down := (watching 800000 none).modHc fun h => { h with
      trip := { h.trip with rec? := some { trip03 with dir := .down, target := some 0 } } }
    (running.class? 1 = some [⟨0, 8000, 500, 500, none⟩, ⟨700000, 6000, 400, 400, none⟩] ∧
      activeIndex [⟨0, 8000, 500, 500, none⟩, ⟨700000, 6000, 400, 400, none⟩] (running.carPos .a) = 0 ∧
      activeIndex [⟨0, 8000, 500, 500, none⟩, ⟨700000, 6000, 400, 400, none⟩] (down.carPos .a) = 1) ∧
    (running.tripCeiling trip03 = 8000000000 ∧
      down.tripCeiling { trip03 with dir := .down, target := some 0 } = 6000000000) ∧
    (State.reset.class? 1 = none ∧ State.reset.tripCeiling trip03 = 300000000) ∧
    (running.tripCeiling { trip03 with kind := .inspection } = 1000000000 ∧
      running.tripCeiling { trip03 with kind := .recovery } = 300000000 ∧
      blind.tripCeiling { trip03 with target := none } = 300000000) := by decide +kernel

/-- Car B's pair released at stop 0 in AUTOMATIC with the dwell EXPIRED. -/
def expired (x : DoorState) : State :=
  (inMode .automatic (released x)).modDc fun d => { d with dwell := .expired }

theorem hyp_DoorsOpenReleasesAPairAtTheStop_again :
    let q := (expired .closing).asTaken hdr (.doors 0 1 0)
    (passing (expired .closing) hdr (.doors 0 1 0) = true ∧ q.stop = some 0 ∧ q.mayRelease .b 0 = true ∧
      q.dc.pairs.snd.released = some ⟨0, false, false⟩ ∧ q.doorState? 5 = some .closing ∧
      q.mau.mode = .automatic ∧ q.dc.dwell = .expired) ∧
    ((after (.doorsOpen hdr 1) (expired .closing)).doorState? 5 = some .opening ∧
      (after (.doorsOpen hdr 1) (expired .closing)).dc.dwell = .idle) := by decide +kernel

theorem hyp_DoorsHoldSetsAndClearsTheHoldFlags_expired :
    let q := (expired .open).asTaken hdr (.doors 2 1 1)
    let moving := (expired .opening).asTaken hdr (.doors 2 1 1)
    (passing (expired .open) hdr (.doors 2 1 1) = true ∧ q.mau.mode = .automatic ∧ q.dc.dwell = .expired ∧
      q.dc.pairs.snd.released = some ⟨0, false, false⟩ ∧ q.pairSets .b 0 = [1, 5] ∧
      (∀ i ∈ [1, 5], (q.doorIn i).closed = false ∧ (q.doorIn i).obstructed = false) ∧
      (∀ i ∈ [1, 5], q.doorState? i = some .open)) ∧
    (passing (expired .opening) hdr (.doors 2 1 1) = true ∧ moving.doorState? 5 = some .opening) ∧
    (after (.doorsHoldClear hdr 1) (expired .open)).doorState? 5 = some .closing := by decide +kernel

theorem hyp_RestartEmptiesTheTrafficAndKeepsTheConfiguration_cases :
    (moving.standstill = false ∧ tripped.hc.haul = .tripped ∧ ready.standstill = true ∧
      ready.hc.haul = .parked ∧ ready.stop = some 0 ∧ (lineRestart ready).ft.presentClass .emergency = false) ∧
    ((lineRestart ((ready.modHc fun h => { h with
      carLine := ⟨{ aliveLine with brakeApplied := true }, aliveLine⟩ }))).ft.presentClass .emergency = true) ∧
    (suspended.hc.trip.state = .suspended ∧ running.hc.trip.state = .active) ∧
    ((lineRestart suspended).hc.trip.cause = some .restart ∧ (lineRestart ready).hc.heading = .up ∧
      (lineRestart running).ll.notices.take 2 = [.haul, .mode]) := by decide +kernel

theorem hyp_EdgesMoveTheRopeAndTimePasses_ramp :
    (passTime 1000 running).hc.haul = .running ∧ (inHaul .approach running).hc.haul = .approach ∧
    (passTime 1000 (inHaul .approach running)).hc.haul = .approach ∧ ready.hc.haul ≠ .running ∧
    ready.hc.haul ≠ .approach := by decide +kernel

theorem hyp_QuietChannelsAndPresenceInputsReference_heading :
    let s := (stopping 1 none).modLgp fun g => { g with p := 80000000 }
    s.stop = some 0 ∧ s.hc.haul = .stopping ∧ s.bl.stop.isSome = true := by decide +kernel

theorem hyp_BrakeFeedbackAndDriveReportsAreActedOn_ends :
    ((brakeAt .applied).state = .applied ∧ (brakeAt .applied).appliedIn = true ∧
      (brakeAt .applied).releasedIn = false) ∧
    ((brakeAt .released).releasedIn = true ∧ (brakeAt .released).appliedIn = false) ∧
    (disagreeing.bl.brakes.fst.state = .applied ∧ disagreeing.bl.brakes.fst.releasedIn = true) ∧
    ((passUntil 1000000 (brakeMoving .releasing ready)).bl.brakes = (brakeMoving .releasing ready).bl.brakes ∧
      (passUntil 1000000 (brakeMoving .applying ready)).bl.brakes
        = (brakeMoving .applying ready).bl.brakes) := by decide +kernel

/-- A test of the holding brake in a phase, the emergency brake in a state. -/
def testing (x : TestPhase) (y : BrakeState) : State :=
  (pulsing.modBpu fun b => { b with test := b.test.map fun t => { t with phase := x } }).modBl
    fun l => { l with brakes := ⟨l.brakes.fst, brakeAt y⟩ }

theorem hyp_StopsEscalateAndDeparturesRelease_tests :
    ((testing .lifting .released).hc.haul = .brakeTest ∧
      (testing .lifting .released).bl.brakes.snd.state = .released ∧
      (testing .lifting .releasing).bl.brakes.snd.state ≠ .released) ∧
    ((testing .restoring .applied).bl.brakes.snd.state = .applied ∧ (testing .restoring .applied).stop = some 0 ∧
      (testing .restoring .applying).bl.brakes.snd.state ≠ .applied) ∧
    ((stopping 1 none).hc.haul = .stopping ∧ (stopping 1 none).supervisedCeiling = 8000000000) ∧
    (running.supervisedCeiling = 8000000000 ∧ tripped.supervisedCeiling = 300000000 ∧
      ready.supervisedCeiling = 300000000) ∧
    ((passUntil 1000000 (withFault ⟨.brakeTestFailed, 0⟩ .ended pulsing)).ft.slots.length = 69 ∧
      (after .pulseExpiry (withFault ⟨.brakeTestFailed, 0⟩ .ended pulsing)).ft.entries = []) := by
  decide +kernel

theorem hyp_DoorInputsMoveTheDoorSets_reopened :
    let s := ready.modGqu fun _ => batched.gqu
    (s.windowStop ≠ none ∧ s.hc.trip.state ≠ .active ∧ s.doorState? 0 = some .locked ∧
      s.gqu.batches.fst = some { stop := 0, queue := 0 }) ∧
    (batched.windowStop = none ∧ ready.gqu.batches.fst = none) ∧
    ((after (.doorsOpen hdr 0) s).gqu.queues[0]?).map (fun q => q.entries.map Entry.batch)
      = some [none, none] := by decide +kernel

theorem hyp_DoorProofsAndTheDwellExpire_sets :
    (∀ c' r', c' ≠ Car.b → (dwelling.dc.pairs.car c').released = some r' →
      dwelling.stationOf c' r'.stop ≠ dwelling.stationOf .b 0) ∧
    (∀ i ∈ dwelling.pairSets .b 0, dwelling.doorState? i = some .open) ∧
    (withDoor 1 .closing none ⟨false, false, false⟩ dwelling).doorState? 1 = some .closing ∧
    (after .dwellExpiry dwelling).doorState? 5 = some .closing := by
  refine ⟨?_, by decide +kernel, by decide +kernel, by decide +kernel⟩
  intro c' r' hc h
  cases c' with
  | a => cases h
  | b => exact absurd rfl hc

/-- RUNNING at 5 m/s on both channels, the last edges at time 0 (as 400 us), under a ceiling of class 1 that
falls past the level of the service test after 100 us. -/
def falling : State :=
  { (running.modStu fun x => { x with speed :=
      ⟨{ quietChannel with quiet := false, history := [0, 50, 100, 150, 200, 250, 300, 350, 400],
                           sense := some .up },
       { quietChannel with quiet := false, history := [0, 100, 200, 300, 400], sense := some .up }⟩ }).modHc
      fun h => { h with classes := updateAt 0 (fun _ => some
        [⟨0, 4000, 500, 500, some 4717031132⟩, ⟨700000, 6000, 400, 400, none⟩]) h.classes } with now := 400 }

theorem hyp_CrossChecksAndSupervisionExpire_moments :
    (falling.nextMoment 1400 = some 500 ∧ falling.nextMoment 499 = none ∧
      falling.estimateChange 1400 = some 601) ∧
    (falling.hc.haul = .running ∧ falling.serviceTestNow = false ∧ ready.hc.haul ≠ .running) ∧
    (ready.nextMoment 1000 = none ∧ ready.magnitudeTest = false) := by decide +kernel

/-- An overspeed that begins and ceases within one passing time is raised at its moment. -/
theorem test_estimateDecay_overspeed :
    ((after (.estimateDecay 1000) falling).ft.slot ⟨.overspeedService, 0⟩).map FaultRec.count = some 1 ∧
    (after (.estimateDecay 1000) falling).hc.haul = .stopping ∧
    (after (.estimateDecay 1000) falling).bl.stop.map (fun r => (r.start, r.ceiling)) = some (500, 4716981132) ∧
    (after (.estimateDecay 1000) falling).bl.serviceTest = false ∧
    (after (.estimateDecay 99) falling).ft.entries = [] := by decide +kernel

/-- A re-reference that moves car A out of the window of its watch by the far side raises MARKER_MISSED. -/
theorem test_referenceAt_missed :
    let s := ready.modLgp fun g => { g with
      markers := [⟨19700, 0, 200⟩], p := 79200000, watch := ⟨some ⟨0, true, false⟩, none⟩ }
    ((evaluateReferencing s).ft.slot ⟨.markerMissed, 0⟩).isSome = true ∧
    (evaluateReferencing s).lgp.p = 80000000 ∧ (evaluateReferencing s).lgp.watch.fst = none := by
  decide +kernel

/-- The heading of an arrival at a terminal stands though the referencing of its standstill trips the haul. -/
theorem test_quietExpiry_arrives_and_trips :
    let s := (reaching.modLgp fun g => { g with
      line := some { line4' with window := 300 }, corrLimit := 100, p := 80800000 }).modHc fun h =>
        { h with heading := .down }
    let t := after (.quietExpiry .drive) { s with stu := moving.stu }
    t.hc.trip.state = .completed ∧ t.hc.haul = .tripped ∧ t.hc.heading = .up := by decide +kernel

/-- Changes that an event may undo mark their keys where they happen. -/
theorem test_marks_of_undone_changes :
    (setDwell .expired ready).ll.notices = [.door 0, .door 1] ∧
    ((closeDoors 1 (withDoor 5 .open none ⟨false, true, true⟩ (demanded .opening none 3))).toOption.map
      (fun x => (x.1.ll.notices.contains (.door 5), (x.1.dc.sets[5]?).map DoorSet.state)))
      = some (true, some .open) := by decide +kernel

/-- The widths of QUEUE_READ's and TENSION_READ's replies (08 R137, 02 R30). -/
theorem test_report_widths :
    ((ready.queueFields 5).map (fun f => ((QueueReport.bytes { fields := f, entries := [] }).length,
      f.bytes.length))) = some (7, 9) ∧
    ready.tensionReport.bytes.length
      = (ready.modStu fun x => { x with tension := ⟨{ tensionChannel with average := none, state := .filling },
          tensionChannel⟩ }).tensionReport.bytes.length := by decide +kernel

/-! ### The clauses of the third review -/

/-- A brake test, which runs in INSPECTION, turns RESUME away by its mode; at its owner it would be refused too. -/
theorem hyp_ResumeContinuesASuspendedTrip_test :
    (passing pulsing hdr .resume = true ∧ (pulsing.asTaken hdr .resume).hc.haul = .brakeTest) ∧
    codeOf (after (.resume hdr) pulsing) = some .state ∧
    codeOf (after (.resume hdr) (inMode .inspection pulsing)) = some .mode := by decide +kernel

/-- TRIPPED in INSPECTION on a line whose terminal stations stand at its ends, car A 250 mm below and car B 250 mm
above them: within a window of 300 mm, beyond a margin of 200 mm. -/
def beyond : State :=
  (withFault ⟨.overtravel, 0⟩ .active (inMode .inspection tripped)).modLgp fun g => { g with
    line := some { line4' with
      window := 300, margin := 200,
      table := [⟨1, 0, 2, 0, [0, 1]⟩, ⟨2, 600000, 3, 1, [2]⟩, ⟨3, 1200000, 4, 2, [3]⟩,
                ⟨4, 1800000, 5, 3, [4, 5]⟩] },
    p := -1000000, overtravel := ⟨some .below, some .above⟩ }

theorem hyp_TripResetParksATrippedHaul_overtravel :
    let q := beyond.asTaken hdr .tripReset
    (passing beyond hdr .tripReset = true ∧ q.hc.haul = .tripped ∧ q.effectiveLevel hdr = 0 ∧
      q.mau.mode = .inspection ∧ q.lgp.overtravel.fst = some .below) ∧
    (beyond.windowStop = some 0 ∧ (tripped.asTaken hdr .tripReset).lgp.overtravel = ⟨none, none⟩) ∧
    (after (.tripReset hdr) beyond).hc.haul = .parked ∧ (after (.tripReset hdr) beyond).parkedStop = none ∧
    (after (.tripReset hdr) tripped).parkedStop = some 0 := by decide +kernel

/-- Moving up at the edge of overtravel, 499.75 mm beyond the commit reference, with a DRIVE edge every 50 us. -/
def atTheEdge (p : Int) : State :=
  { ((running.modLgp fun g => { g with p := p }).modHc fun h => { h with commitRef := p + 1000 - 2000000 }).modStu
      fun x => { x with speed := { x.speed with
        fst := { quietChannel with
          quiet := false, history := [0, 50, 100, 150, 200, 250, 300, 350, 400], sense := some .up } } } with
    now := 400 }

/-- The line speed of an edge stands in the record of the trip that the edge ends, and overtravel comes before the
commit. -/
theorem test_encoderEdge_top_speed :
    let t := after (.encoderEdge .drive .up 42) (atTheEdge 7204001000)
    let u := after (.encoderEdge .drive .up 42) (atTheEdge 7000000000)
    (t.hc.haul = .tripped ∧ t.hc.trip.state = .abandoned ∧
      t.hc.trip.rec?.map (fun r => (r.topSpeed, r.committed)) = some (51020, false)) ∧
    u.hc.trip.state = .active ∧ u.hc.trip.rec?.map (fun r => (r.topSpeed, r.committed)) = some (51020, true) := by
  decide +kernel

theorem hyp_EdgesMoveTheRopeAndTimePasses_trip :
    running.hc.trip.state = .active ∧ running.hc.trip.rec? = some trip03 ∧ ready.hc.trip.state ≠ .active := by
  decide +kernel

/-- A stop that ends where the presence pair disagrees leaves the trip SUSPENDED and the haul TRIPPED. -/
theorem test_quietExpiry_ends_the_stop_first :
    let s := { (stopping 1 none).modLgp (fun g => { g with corrLimit := 100, p := 80800000 }) with stu := moving.stu }
    (after (.quietExpiry .drive) s).hc.trip.state = .suspended ∧
    (after (.quietExpiry .drive) s).hc.haul = .tripped := by decide +kernel

/-- LINE_SET at a stop that it finds again marks HAUL, since the stop was lost on the way. -/
theorem test_lineSet_marks_the_lost_stop :
    let s := inMode .off ready
    s.parkedStop = some 0 ∧ (after (.lineSet hdr line4) s).parkedStop = some 0 ∧
    (after (.lineSet hdr line4) s).ll.notices.contains .haul = true := by decide +kernel

theorem hyp_AMarkedKeyStandsOnceInTheNoticeList_stop :
    ready.parkedStop ≠ lost.parkedStop ∧ ready.parkedStop = (inMode .off ready).parkedStop := by decide +kernel

/-- The pair records of STATUS_READ name their door sets (06 R95), and TENSION_READ says that the imbalance is
valid (02 R34). -/
theorem test_report_fields :
    (released .open).statusReport.pairs.snd.sets = some [1, 5] ∧
    ((released .open).statusReport.pairs.snd.bytes.map BitVec.toNat) = [1, 0, 1, 5, 0, 0, 0] ∧
    (ready.statusReport.pairs.snd.bytes.map BitVec.toNat) = [0, 0, 0, 0, 0, 0] ∧
    ready.tensionReport.bytes.getLast?.map BitVec.toNat = some 1 := by decide +kernel

/-! ### The clauses of the fourth review -/

/-- RUNNING down at the upper end of a segment with the ramp at the ceiling of 6,000 mm/s of the segment above. -/
def leaving : State :=
  (running.modLgp fun g => { g with p := 2799998000 }).modHc fun h => { h with
    ramp := 6000000000, trip := { h.trip with rec? := some { trip03 with dir := .down, target := some 0 } } }

/-- The ceiling of the old position holds the ramp down until the edge that brings the higher one. -/
theorem test_encoderEdge_ramp :
    leaving.ceiling = 6000000000 ∧ (after (.encoderEdge .drive .down 1000000) leaving).ceiling = 8000000000 ∧
    (after (.encoderEdge .drive .down 1000000) leaving).hc.haul = .running ∧
    (after (.encoderEdge .drive .down 1000000) leaving).hc.ramp = 6000000000 := by decide +kernel

/-- The platform set of station 1 CLOSING while no pair is released. -/
def orphan (n : Nat) : State :=
  (withDoor 3 .closing (some ⟨0, 6000000⟩) ⟨false, false, false⟩ ready).modDc fun d => { d with
    sets := updateAt 3 (fun y => { y with reopen := n }) d.sets }

theorem hyp_DoorInputsMoveTheDoorSets_alone :
    ((orphan 0).doorState? 3 = some .closing ∧ (orphan 0).pairOf 3 = none ∧
      ((orphan 0).doorIn 3).obstructed = false ∧ ((orphan 0).doorIn 3).opened = false) ∧
    ((after (.platformDoorInputChange 1 .obstruction true) (orphan 0)).dc.sets[3]?).map
      (fun d => (d.state, d.command, d.reopen)) = some (.opening, .open, 1) ∧
    ((after (.platformDoorInputChange 1 .obstruction true) (orphan 2)).ft.slot ⟨.doorObstructed, 3⟩).isSome
      = true := by decide +kernel

/-- Car B's door set in a state at stop 0, its load 5, its pair with or without a close demand. -/
def carSet (x : DoorState) (demand : Bool) : State :=
  ((withDoor 1 x (some ⟨0, 4000000⟩) ⟨false, false, false⟩ (released .open)).modGqu fun g =>
    { g with loads := ⟨some 4, some 5⟩ }).modDc fun d => { d with
      pairs := ⟨d.pairs.fst, { released := some ⟨0, demand, false⟩, pendingStop := none }⟩ }

theorem hyp_DoorInputsMoveTheDoorSets_report :
    ((carSet .opening false).dc.inputs.length = 8 ∧ (carSet .opening false).doorState? 1 = some .opening ∧
      ((carSet .opening false).doorIn 1).opened = false ∧
      (carSet .opening true).doorState? 5 = some .open ∧ ((carSet .opening true).doorIn 5).closed = false ∧
      (carSet .opening true).dc.pairs.snd.released = some ⟨0, true, false⟩ ∧
      (carSet .opening true).dc.pairs.fst.released = none) ∧
    ((after (.carDoorReport .b false true false) (carSet .opening false)).doorState? 1 = some .open ∧
      (after (.carDoorReport .b false true false) (carSet .opening false)).gqu.loads = ⟨some 4, some 0⟩) ∧
    ((after (.carDoorReport .b false true false) (carSet .opening true)).doorState? 1 = some .closing ∧
      (after (.carDoorReport .b false true false) (carSet .opening true)).doorState? 5 = some .closing ∧
      (after (.carDoorReport .b false true false) (carSet .opening true)).gqu.loads = ⟨some 4, some 0⟩) ∧
    (after (.carDoorReport .b true false false) (carSet .unproven false)).doorState? 1 = some .locked ∧
    (withDoor 5 .closing none ⟨false, false, false⟩ (carSet .closing true)).doorState? 5 = some .closing ∧
    (((after (.carDoorReport .b false false true) (withDoor 5 .closing none ⟨false, false, false⟩
      (carSet .closing true))).dc.sets.map (fun d => (d.state, d.reopen)))[1]? = some (.opening, 1)) ∧
    (after (.carDoorReport .b false false false) ready).doorState? 1 = some .unproven := by decide +kernel

theorem hyp_DoorProofsAndTheDwellExpire_load :
    ((carSet .opening false).dc.sets[1]?.bind DoorSet.proof).isSome = true ∧
    (after (.openProofExpiry 1) (carSet .opening false)).gqu.loads = ⟨some 4, some 0⟩ ∧
    (after (.openProofExpiry 1) (carSet .opening true)).gqu.loads = ⟨some 4, some 0⟩ ∧
    (after (.closeProofExpiry 1) (carSet .closing true)).gqu.loads = ⟨some 4, some 0⟩ := by decide +kernel

/-- What a change of mode hands on: the brakes and the channels at OFF, a SUSPENDED trip elsewhere. -/
theorem hyp_ModeSetChangesTheModeAndHandsItOn_handed :
    let t := after (.modeSet hdr 0) ready
    (passing ready hdr (.modeSet 0) = true ∧ ready.bl.brakes.snd.state = .released ∧ ready.mau.mode = .attended) ∧
    (t.mau.mode = .off ∧ t.bl.brakes.snd = { brakeAt .released with
      state := .applying, proofDue := some 800000 } ∧
      t.stu.tension.fst.state = .filling ∧ t.stu.tension.fst.missingDue = some 800000) ∧
    (passing suspended hdr (.modeSet 3) = true ∧ suspended.hc.trip.state = .suspended ∧
      suspended.mau.mode ≠ .off ∧ suspended.hc.trip.committed = false) ∧
    ((after (.modeSet hdr 3) suspended).mau.mode = .inspection ∧
      (after (.modeSet hdr 3) suspended).hc.trip.state = .abandoned) := by decide +kernel

/-- The rules that name the window test keep to the positions, also in overtravel. -/
theorem test_window_test_in_overtravel :
    let s := inHaul .parked beyond
    s.stop = none ∧ firstRefusal (ModeRow.backToAttended.checks s) = none ∧
    (boardingReopened 0 (s.modGqu fun g => { g with batches := ⟨some { stop := 0, queue := 0 }, none⟩ })).gqu.batches
      = ⟨none, none⟩ := by decide +kernel

end Sys2Proof.Tests
end

section

namespace Sys2Proof.Machine

/-! ### The trip counter (03 R45) -/

variable (s : State)

@[simp] theorem command_trips (d : DriveCommand) : (command d s).hc.tripCounter = s.hc.tripCounter := by
  simp [command]
@[simp] theorem setHaul_trips (x : HaulState) : (setHaul x s).hc.tripCounter = s.hc.tripCounter := by
  simp [setHaul]
@[simp] theorem abandonTrip_trips (cause : EndCause) :
    (abandonTrip cause s).hc.tripCounter = s.hc.tripCounter := by
  simp only [abandonTrip]; (repeat' split) <;> simp [*]
@[simp] theorem parkedCycle_trips (held : Bool) : (parkedCycle held s).hc.tripCounter = s.hc.tripCounter := by
  simp only [parkedCycle]; (repeat' split) <;> simp [*]
@[simp] theorem abandonDeparture_trips (cause : EndCause) :
    (abandonDeparture cause s).hc.tripCounter = s.hc.tripCounter := by
  simp only [abandonDeparture]; (repeat' split) <;> simp [*]
@[simp] theorem emergencyDemand_trips (code : Option FaultCode) :
    (emergencyDemand code s).hc.tripCounter = s.hc.tripCounter := by
  simp only [emergencyDemand]; (repeat' split) <;> simp [*]
@[simp] theorem enterStopping_trips (stage : Nat) (cause : StopCause) :
    (enterStopping stage cause s).hc.tripCounter = s.hc.tripCounter := by
  simp [enterStopping]
@[simp] theorem serviceDemand_trips (c : FaultCode) : (serviceDemand c s).hc.tripCounter = s.hc.tripCounter := by
  simp only [serviceDemand]; (repeat' split) <;> simp [*]
@[simp] theorem handOn_trips (c : FaultCode) : (handOn c s).hc.tripCounter = s.hc.tripCounter := by
  simp only [handOn]; (repeat' split) <;> simp [*]
@[simp] theorem raise_trips (k : FaultKey) : (raise k s).hc.tripCounter = s.hc.tripCounter := by
  simp [raise]
@[simp] theorem moveStage2_trips : (moveStage2 s).hc.tripCounter = s.hc.tripCounter := by
  simp [moveStage2]
@[simp] theorem moveStage3_trips : (moveStage3 s).hc.tripCounter = s.hc.tripCounter := by
  simp [moveStage3]
@[simp] theorem judgeEnvelope_trips : (judgeEnvelope s).hc.tripCounter = s.hc.tripCounter := by
  simp only [judgeEnvelope]; (repeat' split) <;> simp [*]
@[simp] theorem noteEnvelope_trips : (noteEnvelope s).hc.tripCounter = s.hc.tripCounter := by
  simp only [noteEnvelope]; split <;> simp
@[simp] theorem judgeMoment_trips : (judgeMoment s).hc.tripCounter = s.hc.tripCounter := by simp [judgeMoment]
@[simp] theorem passTime_trips (dt : Nat) : (passTime dt s).hc.tripCounter = s.hc.tripCounter :=
  followMoments_keeps (fun s => s.hc.tripCounter) (fun _ _ => rfl) judgeMoment_trips _ _ s
@[simp] theorem passUntil_trips (t : Nat) : (passUntil t s).hc.tripCounter = s.hc.tripCounter := by
  simp [passUntil]
@[simp] theorem raiseJams_trips : ∀ l s, (raiseJams l s).hc.tripCounter = s.hc.tripCounter
  | [], _ => rfl
  | k :: ks, s => by rw [raiseJams, raiseJams_trips ks]; split <;> simp
@[simp] theorem jamLane_trips (id : Nat) : (jamLane id s).hc.tripCounter = s.hc.tripCounter := by
  simp only [jamLane]; (repeat' split) <;> simp [*]
@[simp] theorem settleExpires_trips : (settleExpires s).hc.tripCounter = s.hc.tripCounter := by
  simp only [settleExpires]; (repeat' split) <;> simp [*]
@[simp] theorem restartGates_trips : (restartGates s).hc.tripCounter = s.hc.tripCounter := by
  simp [restartGates]
@[simp] theorem leaveWindow_trips (c : Car) : (leaveWindow c s).hc.tripCounter = s.hc.tripCounter := by
  simp only [leaveWindow]; (repeat' split) <;> simp [*]
@[simp] theorem followWatch_trips (c : Car) (xOld : Int) :
    (followWatch c xOld s).hc.tripCounter = s.hc.tripCounter := by
  simp [followWatch]
@[simp] theorem judgeOvertravel_trips (c : Car) : (judgeOvertravel c s).hc.tripCounter = s.hc.tripCounter := by
  simp only [judgeOvertravel]; (repeat' split) <;> simp [*]
@[simp] theorem judgeOvertravels_trips : (judgeOvertravels s).hc.tripCounter = s.hc.tripCounter := by
  simp [judgeOvertravels]
@[simp] theorem raiseAll_trips (cs : List Car) : ∀ s,
    (cs.foldl (fun t c => raise ⟨.positionDisagree, c.index⟩ t) s).hc.tripCounter = s.hc.tripCounter := by
  induction cs with
  | nil => intro s; rfl
  | cons c cs ih => intro s; simp only [List.foldl_cons]; rw [ih, raise_trips]
@[simp] theorem doubt_trips (cars : List Car) : (doubt cars s).hc.tripCounter = s.hc.tripCounter := by
  simp [doubt]
@[simp] theorem referenceAt_trips (k : Nat) : (referenceAt k s).hc.tripCounter = s.hc.tripCounter := by
  simp only [referenceAt]; split <;> simp
@[simp] theorem evaluateReferencing_trips : (evaluateReferencing s).hc.tripCounter = s.hc.tripCounter := by
  simp only [evaluateReferencing]; (repeat' split) <;> simp [*]
@[simp] theorem capture_trips (j : Nat) (m : MarkerRec) (c : Car) :
    (capture j m c s).hc.tripCounter = s.hc.tripCounter := by
  simp only [capture]; (repeat' split) <;> simp [*]
@[simp] theorem pulse_trips (j : Nat) : (pulse j s).hc.tripCounter = s.hc.tripCounter := by
  simp only [pulse]; (repeat' split) <;> simp [*]
@[simp] theorem followCars_trips (xA xB : Int) : (followCars xA xB s).hc.tripCounter = s.hc.tripCounter := by
  simp [followCars]
@[simp] theorem restartPosition_trips : (restartPosition s).hc.tripCounter = s.hc.tripCounter := by
  simp [restartPosition]
@[simp] theorem judgeEncoders_trips : (judgeEncoders s).hc.tripCounter = s.hc.tripCounter := by
  simp only [judgeEncoders]; (repeat' split) <;> simp [*]
@[simp] theorem disagreementExpires_trips : (disagreementExpires s).hc.tripCounter = s.hc.tripCounter := by
  simp only [disagreementExpires]; split <;> simp
@[simp] theorem restartSpeed_trips : (restartSpeed s).hc.tripCounter = s.hc.tripCounter := by
  simp [restartSpeed]
@[simp] theorem judgeLimits_trips (c : Chan) (avg : Int) :
    (judgeLimits c avg s).hc.tripCounter = s.hc.tripCounter := by
  simp only [judgeLimits]; (repeat' split) <;> simp [*]
@[simp] theorem convert_trips (c : Chan) (raw : Nat) : (convert c raw s).hc.tripCounter = s.hc.tripCounter := by
  simp only [convert]; (repeat' split) <;> simp [*]
@[simp] theorem conversionMissing_trips (c : Chan) :
    (conversionMissing c s).hc.tripCounter = s.hc.tripCounter := by
  simp [conversionMissing]
@[simp] theorem restartTensionFaults_trips : (restartTensionFaults s).hc.tripCounter = s.hc.tripCounter := by
  simp only [restartTensionFaults]; (repeat' split) <;> simp [*]
/-- Operations that keep the trip counter keep it one after the other. -/
theorem forEach_trips (f : Nat → State → State) (hf : ∀ i t, (f i t).hc.tripCounter = t.hc.tripCounter) :
    ∀ l s, (forEach f l s).hc.tripCounter = s.hc.tripCounter
  | [], _ => rfl
  | i :: is, s => by rw [forEach, forEach_trips f hf is, hf]
@[simp] theorem raiseObstructed_trips (i : Nat) : (raiseObstructed i s).hc.tripCounter = s.hc.tripCounter := by
  simp only [raiseObstructed]; (repeat' split) <;> simp [*]
@[simp] theorem obstructAlone_trips (i : Nat) : (obstructAlone i s).hc.tripCounter = s.hc.tripCounter := by
  simp [obstructAlone]
@[simp] theorem obstruct_trips (c : Car) (is : List Nat) :
    (obstruct c is s).hc.tripCounter = s.hc.tripCounter := by
  simp only [obstruct]; (repeat' split) <;> simp [*, forEach_trips]
@[simp] theorem sendClosing_trips (c : Car) (is : List Nat) :
    (sendClosing c is s).hc.tripCounter = s.hc.tripCounter := by
  simp only [sendClosing]; (repeat' split) <;> simp [*, forEach_trips]
@[simp] theorem closeWhileDue_trips (c : Car) : ∀ n s, (closeWhileDue c n s).hc.tripCounter = s.hc.tripCounter
  | 0, _ => rfl
  | n + 1, s => by
    simp only [closeWhileDue]; (repeat' split) <;> simp [closeWhileDue_trips c n]
@[simp] theorem closeIfDue_trips (c : Car) : (closeIfDue c s).hc.tripCounter = s.hc.tripCounter := by
  simp [closeIfDue]
@[simp] theorem closeOnDemand_trips (c : Car) : (closeOnDemand c s).hc.tripCounter = s.hc.tripCounter := by
  simp only [closeOnDemand]; (repeat' split) <;> simp
@[simp] theorem closeBoth_trips : (closeBoth s).hc.tripCounter = s.hc.tripCounter := by
  simp [closeBoth]
@[simp] theorem closeAtDwell_trips (c : Car) : (closeAtDwell c s).hc.tripCounter = s.hc.tripCounter := by
  simp only [closeAtDwell]; (repeat' split) <;> simp [*]
@[simp] theorem enterUnproven_trips (i : Nat) : (enterUnproven i s).hc.tripCounter = s.hc.tripCounter := by
  simp [enterUnproven]
@[simp] theorem closedChanged_trips (i : Nat) (v : Bool) :
    (closedChanged i v s).hc.tripCounter = s.hc.tripCounter := by
  simp only [closedChanged]; (repeat' split) <;> simp [*]
@[simp] theorem openedChanged_trips (i : Nat) (v : Bool) :
    (openedChanged i v s).hc.tripCounter = s.hc.tripCounter := by
  simp only [openedChanged]; (repeat' split) <;> simp [*]
@[simp] theorem obstructionChanged_trips (i : Nat) (v : Bool) :
    (obstructionChanged i v s).hc.tripCounter = s.hc.tripCounter := by
  simp only [obstructionChanged]; (repeat' split) <;> simp [*]
@[simp] theorem doorInput_trips (i : Nat) (x : DoorInput) (v : Bool) :
    (doorInput i x v s).hc.tripCounter = s.hc.tripCounter := by
  simp only [doorInput]; (repeat' split) <;> simp [*]
@[simp] theorem doorReport_trips (c : Car) (closed opened obstructed : Bool) :
    (doorReport c closed opened obstructed s).hc.tripCounter = s.hc.tripCounter := by
  simp [doorReport]
@[simp] theorem openProofExpires_trips (i : Nat) : (openProofExpires i s).hc.tripCounter = s.hc.tripCounter := by
  simp [openProofExpires]
@[simp] theorem closeProofExpires_trips (i : Nat) : (closeProofExpires i s).hc.tripCounter = s.hc.tripCounter := by
  simp only [closeProofExpires]; (repeat' split) <;> simp [*]
@[simp] theorem dwellExpires_trips : (dwellExpires s).hc.tripCounter = s.hc.tripCounter := by
  simp only [dwellExpires]; (repeat' split) <;> simp [*]
@[simp] theorem raiseUnproven_trips (i : Nat) : (raiseUnproven i s).hc.tripCounter = s.hc.tripCounter := by
  simp only [raiseUnproven]; (repeat' split) <;> simp [*]
@[simp] theorem writeAmendment_trips (n : Nat) (crossing : Bool) (a : Amendment) :
    (writeAmendment n crossing a s).hc.tripCounter = s.hc.tripCounter := by
  simp [writeAmendment]
@[simp] theorem applyPending_trips (n : Nat) (crossing : Bool) :
    (applyPending n crossing s).hc.tripCounter = s.hc.tripCounter := by
  simp only [applyPending]; (repeat' split) <;> simp [*]
@[simp] theorem applyIdle_trips (before : State) (n : Nat) :
    (applyIdle before n s).hc.tripCounter = s.hc.tripCounter := by
  simp only [applyIdle]; (repeat' split) <;> simp [*]
@[simp] theorem applyIdleAll_trips (before : State) :
    (applyIdleAll before s).hc.tripCounter = s.hc.tripCounter := by
  simp [applyIdleAll, forEach_trips]
@[simp] theorem judgeCrossing_trips (xOld : Int) : (judgeCrossing xOld s).hc.tripCounter = s.hc.tripCounter := by
  simp only [judgeCrossing]; (repeat' split) <;> simp [*]
@[simp] theorem enterWarning_trips : (enterWarning s).hc.tripCounter = s.hc.tripCounter := by
  simp [enterWarning]
@[simp] theorem warningExpires_trips : (warningExpires s).hc.tripCounter = s.hc.tripCounter := by
  simp [warningExpires]
@[simp] theorem enterRunning_trips : (enterRunning s).hc.tripCounter = s.hc.tripCounter := by
  simp [enterRunning]
@[simp] theorem judgeApproach_trips : (judgeApproach s).hc.tripCounter = s.hc.tripCounter := by
  simp only [judgeApproach]; (repeat' split) <;> simp [*]
@[simp] theorem commitTrip_trips (t : TripRec) : (commitTrip t s).hc.tripCounter = s.hc.tripCounter := by
  simp [commitTrip]
@[simp] theorem judgeCommit_trips : (judgeCommit s).hc.tripCounter = s.hc.tripCounter := by
  simp only [judgeCommit]; (repeat' split) <;> simp [*]
@[simp] theorem judgePairSeen_trips (before : Option Nat) :
    (judgePairSeen before s).hc.tripCounter = s.hc.tripCounter := by
  simp only [judgePairSeen]; (repeat' split) <;> simp [*]
@[simp] theorem park_trips : (park s).hc.tripCounter = s.hc.tripCounter := by
  simp [park]
@[simp] theorem headFrom_trips (k : Nat) : (headFrom k s).hc.tripCounter = s.hc.tripCounter := by
  simp only [headFrom]; (repeat' split) <;> simp
@[simp] theorem followHeading_trips : (followHeading s).hc.tripCounter = s.hc.tripCounter := by
  simp only [followHeading]; split <;> simp
@[simp] theorem arrive_trips (k : Nat) : (arrive k s).hc.tripCounter = s.hc.tripCounter := by
  simp [arrive]
@[simp] theorem overrun_trips : (overrun s).hc.tripCounter = s.hc.tripCounter := by
  simp [overrun]
@[simp] theorem missStop_trips (t : TripRec) (k : Nat) : (missStop t k s).hc.tripCounter = s.hc.tripCounter := by
  simp only [missStop]; (repeat' split) <;> simp [*]
@[simp] theorem judgeArrival_trips : (judgeArrival s).hc.tripCounter = s.hc.tripCounter := by
  simp only [judgeArrival]; (repeat' split) <;> simp [*]
@[simp] theorem endStop_trips : (endStop s).hc.tripCounter = s.hc.tripCounter := by
  simp only [endStop]; (repeat' split) <;> simp [*]
@[simp] theorem haulAtStandstill_trips : (haulAtStandstill s).hc.tripCounter = s.hc.tripCounter := by
  simp only [haulAtStandstill]; (repeat' split) <;> simp [*]
@[simp] theorem commandDrive_trips : (commandDrive s).hc.tripCounter = s.hc.tripCounter := by
  simp only [commandDrive]; (repeat' split) <;> simp [*]
@[simp] theorem followTopSpeed_trips : (followTopSpeed s).hc.tripCounter = s.hc.tripCounter := by
  simp only [followTopSpeed]; (repeat' split) <;> simp [*]
@[simp] theorem beginCycle_trips : (beginCycle s).hc.tripCounter = s.hc.tripCounter := by
  simp only [beginCycle]; (repeat' split) <;> simp [*]
@[simp] theorem enterAutomatic_trips : (enterAutomatic s).hc.tripCounter = s.hc.tripCounter := by
  simp only [enterAutomatic]; (repeat' split) <;> simp [*]
@[simp] theorem followDoors_trips : (followDoors s).hc.tripCounter = s.hc.tripCounter := by
  simp only [followDoors]; (repeat' split) <;> simp [*]
@[simp] theorem leaveAutomaticCycle_trips : (leaveAutomaticCycle s).hc.tripCounter = s.hc.tripCounter := by
  simp [leaveAutomaticCycle]
@[simp] theorem modCarLine_trips (c : Car) (f : CarLine → CarLine) :
    (modCarLine c f s).hc.tripCounter = s.hc.tripCounter := by
  simp [modCarLine]
@[simp] theorem carMessage_trips (c : Car) : (carMessage c s).hc.tripCounter = s.hc.tripCounter := by
  simp only [carMessage]; (repeat' split) <;> simp [*]
@[simp] theorem trackBrakeReport_trips (c : Car) (applied : Bool) :
    (trackBrakeReport c applied s).hc.tripCounter = s.hc.tripCounter := by
  simp only [trackBrakeReport]; (repeat' split) <;> simp [*]
@[simp] theorem buttonReport_trips (c : Car) (pressed : Bool) :
    (buttonReport c pressed s).hc.tripCounter = s.hc.tripCounter := by
  simp only [buttonReport]; (repeat' split) <;> simp [*]
@[simp] theorem stopRequest_trips (c : Car) (station : Nat) :
    (stopRequest c station s).hc.tripCounter = s.hc.tripCounter := by
  simp only [stopRequest]; (repeat' split) <;> simp [*]
@[simp] theorem carSilent_trips (c : Car) : (carSilent c s).hc.tripCounter = s.hc.tripCounter := by
  simp [carSilent]
@[simp] theorem discardTrips_trips : (discardTrips s).hc.tripCounter = s.hc.tripCounter := by
  simp [discardTrips]
@[simp] theorem restartHaul_trips : (restartHaul s).hc.tripCounter = s.hc.tripCounter := by
  simp only [restartHaul]; (repeat' split) <;> simp [*]
@[simp] theorem restartCarFaults_trips : (restartCarFaults s).hc.tripCounter = s.hc.tripCounter := by
  simp only [restartCarFaults]; (repeat' split) <;> simp [*]
@[simp] theorem beginPulse_trips (t : Test) : (beginPulse t s).hc.tripCounter = s.hc.tripCounter := by
  simp [beginPulse]
@[simp] theorem endPulse_trips (t : Test) (pass : Bool) :
    (endPulse t pass s).hc.tripCounter = s.hc.tripCounter := by
  simp only [endPulse]; (repeat' split) <;> simp [*]
@[simp] theorem judgeSlip_trips : (judgeSlip s).hc.tripCounter = s.hc.tripCounter := by
  simp only [judgeSlip]; (repeat' split) <;> simp [*]
@[simp] theorem pulseExpires_trips : (pulseExpires s).hc.tripCounter = s.hc.tripCounter := by
  simp only [pulseExpires]; (repeat' split) <;> simp [*]
@[simp] theorem abortTest_trips : (abortTest s).hc.tripCounter = s.hc.tripCounter := by
  simp only [abortTest]; (repeat' split) <;> simp [*]
@[simp] theorem restartTest_trips : (restartTest s).hc.tripCounter = s.hc.tripCounter := by
  simp only [restartTest]; (repeat' split) <;> simp [*]
@[simp] theorem startTest_trips (b : Brake) (d : Dir) (torque duration : Nat) :
    (startTest b d torque duration s).hc.tripCounter = s.hc.tripCounter := by
  simp only [startTest]; (repeat' split) <;> simp [*]
@[simp] theorem finishTest_trips : (finishTest s).hc.tripCounter = s.hc.tripCounter := by
  simp [finishTest]
@[simp] theorem feedback_trips (b : Brake) (x : FeedbackInput) (v : Bool) :
    (feedback b x v s).hc.tripCounter = s.hc.tripCounter := by
  simp only [feedback]; (repeat' split) <;> simp [*]
@[simp] theorem releaseProofExpires_trips (b : Brake) :
    (releaseProofExpires b s).hc.tripCounter = s.hc.tripCounter := by
  simp [releaseProofExpires]
@[simp] theorem applyProofExpires_trips (b : Brake) :
    (applyProofExpires b s).hc.tripCounter = s.hc.tripCounter := by
  simp [applyProofExpires]
@[simp] theorem tellProven_trips : (tellProven s).hc.tripCounter = s.hc.tripCounter := by
  simp only [tellProven]; (repeat' split) <;> simp [*]
@[simp] theorem proveBrakes_trips : (proveBrakes s).hc.tripCounter = s.hc.tripCounter := by
  simp [proveBrakes]
@[simp] theorem driveFault_trips : (driveFault s).hc.tripCounter = s.hc.tripCounter := by
  simp only [driveFault]; (repeat' split) <;> simp [*]
@[simp] theorem driveReport_trips (ready : Bool) : (driveReport ready s).hc.tripCounter = s.hc.tripCounter := by
  simp only [driveReport]; (repeat' split) <;> simp [*]
@[simp] theorem escalationCheck_trips (v : Nat) : (escalationCheck v s).hc.tripCounter = s.hc.tripCounter := by
  simp only [escalationCheck]; (repeat' split) <;> simp [*]
@[simp] theorem restartBrake_trips (b : Brake) : (restartBrake b s).hc.tripCounter = s.hc.tripCounter := by
  simp only [restartBrake]; (repeat' split) <;> simp [*]
@[simp] theorem restartBrakes_trips : (restartBrakes s).hc.tripCounter = s.hc.tripCounter := by
  simp [restartBrakes]
@[simp] theorem changeMode_trips (m' : LineMode) : (changeMode m' s).hc.tripCounter = s.hc.tripCounter := by
  simp only [changeMode]; (repeat' split) <;> simp [*]
@[simp] theorem takeTiming_trips (p : ParamBody) : (takeTiming p s).hc.tripCounter = s.hc.tripCounter := by
  simp only [takeTiming]; (repeat' split) <;> simp [*]
@[simp] theorem takeAll_trips (p : ParamBody) : (takeAll p s).hc.tripCounter = s.hc.tripCounter := by
  simp [takeAll]
@[simp] theorem supervisionLoss_trips : (supervisionLoss s).hc.tripCounter = s.hc.tripCounter := by
  simp [supervisionLoss]
@[simp] theorem loadLine_trips (r : LineRec) : (loadLine r s).hc.tripCounter = s.hc.tripCounter := by
  simp [loadLine]
@[simp] theorem restartMode_trips : (restartMode s).hc.tripCounter = s.hc.tripCounter := by
  simp only [restartMode]; (repeat' split) <;> simp [*]
@[simp] theorem resetBrake_trips (b : Brake) : (resetBrake b s).hc.tripCounter = s.hc.tripCounter := by
  simp only [resetBrake]; (repeat' split) <;> simp [*]
@[simp] theorem settlePlant_trips : (settlePlant s).hc.tripCounter = s.hc.tripCounter := by
  simp [settlePlant]
@[simp] theorem newDoors_trips (n : Nat) : (newDoors n s).hc.tripCounter = s.hc.tripCounter := by
  simp only [newDoors]
  rw [forEach_trips raiseUnproven (fun i t => raiseUnproven_trips t i)]
  simp only [modDc_hc, emptySlots_hc]
  rw [forEach_trips _ (fun i t => by (repeat' split) <;> simp)]
@[simp] theorem restartDoors_trips : (restartDoors s).hc.tripCounter = s.hc.tripCounter := by
  simp only [restartDoors]
  rw [forEach_trips _ (fun i t => by (repeat' split) <;> simp),
    forEach_trips raiseUnproven (fun i t => raiseUnproven_trips t i)]
  simp
@[simp] theorem acceptLine_trips (r : LineRec) : (acceptLine r s).hc.tripCounter = s.hc.tripCounter := by
  simp [acceptLine, loadLine]
@[simp] theorem lineRestart_trips : (lineRestart s).hc.tripCounter = s.hc.tripCounter := by simp [lineRestart]
@[simp] theorem judgeMovement_trips (before : State) :
    (judgeMovement before s).hc.tripCounter = s.hc.tripCounter := by
  simp [judgeMovement]
@[simp] theorem driveEdge_trips (d : Dir) :
    (driveEdge d s).hc.tripCounter = s.hc.tripCounter := by simp [driveEdge]
@[simp] theorem takeEdge_trips (e : Encoder) (d : Dir) : (takeEdge e d s).hc.tripCounter = s.hc.tripCounter := by
  cases e <;> simp [takeEdge]
@[simp] theorem presence_trips (i : Nat) (v : PresenceReport) :
    (presence i v s).hc.tripCounter = s.hc.tripCounter := by
  simp only [presence]; split <;> simp
@[simp] theorem takePulse_trips (j : Nat) : (takePulse j s).hc.tripCounter = s.hc.tripCounter := by
  simp only [takePulse]
  split <;> simp
@[simp] theorem beginStandstill_trips :
    (beginStandstill s).hc.tripCounter = s.hc.tripCounter := by simp [beginStandstill]
@[simp] theorem quiet_trips (e : Encoder) : (quiet e s).hc.tripCounter = s.hc.tripCounter := by
  simp only [quiet]
  split <;> simp
end Sys2Proof.Machine
end

section

namespace Sys2Proof.Machine

variable (s : State)

/-! ### The speed channels (02 R20) -/

@[simp] theorem judgeEncoders_speed : (judgeEncoders s).stu.speed = s.stu.speed := by
  simp only [judgeEncoders]; split <;> simp
@[simp] theorem disagreementExpires_speed : (disagreementExpires s).stu.speed = s.stu.speed := by
  simp only [disagreementExpires]; split <;> simp
@[simp] theorem restartSpeed_speed : (restartSpeed s).stu.speed = s.stu.speed := by simp [restartSpeed]
@[simp] theorem modTension_speed (c : Chan) (f : TensionChannel → TensionChannel) :
    (modTension c f s).stu.speed = s.stu.speed := rfl
@[simp] theorem restartTension_speed : (restartTension s).stu.speed = s.stu.speed := rfl
@[simp] theorem clearStandby_speed : (clearStandby s).stu.speed = s.stu.speed := rfl
@[simp] theorem judgeLimits_speed (c : Chan) (avg : Int) : (judgeLimits c avg s).stu.speed = s.stu.speed := by
  simp only [judgeLimits]; (repeat' split) <;> simp
@[simp] theorem judgeStandby_speed (c : Chan) (avg : Int) : (judgeStandby c avg s).stu.speed = s.stu.speed := by
  simp only [judgeStandby]; (repeat' split) <;> simp
@[simp] theorem convert_speed (c : Chan) (raw : Nat) : (convert c raw s).stu.speed = s.stu.speed := by
  simp only [convert]; (repeat' split) <;> simp
@[simp] theorem conversionMissing_speed (c : Chan) : (conversionMissing c s).stu.speed = s.stu.speed := by
  simp [conversionMissing]
@[simp] theorem enterOff_speed : (enterOff s).stu.speed = s.stu.speed := by simp [enterOff]
@[simp] theorem exitOff_speed : (exitOff s).stu.speed = s.stu.speed := by simp [exitOff]
@[simp] theorem changeMode_speed (m : LineMode) : (changeMode m s).stu.speed = s.stu.speed := by
  simp only [changeMode]; (repeat' split) <;> simp
@[simp] theorem settlePlant_speed : (settlePlant s).stu.speed = s.stu.speed := by simp [settlePlant]
@[simp] theorem settle_speed (before : State) : (settle before s).stu.speed = s.stu.speed := by simp [settle]
@[simp] theorem finish_speed (before : State) : (finish before s).stu.speed = s.stu.speed := by simp [finish]
@[simp] theorem event_speed (f : State → State) : (event f s).stu.speed = (f s).stu.speed := by simp [event]
@[simp] theorem lineRestart_speed : (lineRestart s).stu.speed = s.stu.speed := by simp [lineRestart]

/-- The channel of an encoder after a change of it. -/
@[simp] theorem modSpeed_same (e : Encoder) (f : SpeedChannel → SpeedChannel) :
    (modSpeed e f s).stu.speed.encoder e = f (s.stu.speed.encoder e) := by cases e <;> rfl

/-- The channel of the other encoder after a change. -/
theorem modSpeed_other {e e' : Encoder} (f : SpeedChannel → SpeedChannel) (h : e' ≠ e) :
    (modSpeed e f s).stu.speed.encoder e' = s.stu.speed.encoder e' := by
  cases e <;> cases e' <;> first | rfl | exact absurd rfl h

/-- Every history holds nine edge times at most. -/
def State.edgesBounded (s : State) : Prop := ∀ e : Encoder, (s.stu.speed.encoder e).history.length ≤ 9

/-- A channel keeps nine edge times at most over an edge (02 R20). -/
theorem edge_history_le {c : SpeedChannel} (loaded : Bool) (d : Dir) (now : Nat) (h : c.history.length ≤ 9) :
    (c.edge loaded d now).history.length ≤ 9 := by
  simp only [SpeedChannel.edge]
  split_ifs
  · simp only [newestNine, List.length_drop]
    omega
  · simp
  · exact h

/-- A change of one channel that keeps its history in bounds keeps both in bounds. -/
theorem modSpeed_edges {e : Encoder} {f : SpeedChannel → SpeedChannel}
    (hf : ∀ c : SpeedChannel, c.history.length ≤ 9 → (f c).history.length ≤ 9) (h : s.edgesBounded) :
    (modSpeed e f s).edgesBounded := by
  intro e'
  by_cases he : e' = e
  · subst he
    simpa using hf _ (h e')
  · rw [modSpeed_other s f he]
    exact h e'

/-! ### LGP less its watches and its overtravel fields -/

/-- LGP less its watches and its overtravel fields. -/
def Lgp.still (g : Lgp) : Lgp := { g with watch := ⟨none, none⟩, overtravel := ⟨none, none⟩ }

theorem still_line {g k : Lgp} (h : g.still = k.still) : g.line = k.line :=
  (congrArg Lgp.line h :)
theorem still_markers {g k : Lgp} (h : g.still = k.still) : g.markers = k.markers :=
  (congrArg Lgp.markers h :)
theorem still_p {g k : Lgp} (h : g.still = k.still) : g.p = k.p :=
  (congrArg Lgp.p h :)
theorem still_corr {g k : Lgp} (h : g.still = k.still) : g.corr = k.corr :=
  (congrArg Lgp.corr h :)
theorem still_position {g k : Lgp} (h : g.still = k.still) : g.position = k.position :=
  (congrArg Lgp.position h :)

@[simp] theorem setWatch_still (c : Car) (w : Option Watch) : (setWatch c w s).lgp.still = s.lgp.still := rfl
@[simp] theorem freshWatch_still (c : Car) : (freshWatch c s).lgp.still = s.lgp.still := rfl
@[simp] theorem freshWatches_still : (freshWatches s).lgp.still = s.lgp.still := rfl
@[simp] theorem leaveWindow_still (c : Car) : (leaveWindow c s).lgp.still = s.lgp.still := by
  simp only [leaveWindow]; (repeat' split) <;> simp
@[simp] theorem enterWindow_still (c : Car) (x : Int) : (enterWindow c x s).lgp.still = s.lgp.still := by
  simp only [enterWindow]; (repeat' split) <;> simp
@[simp] theorem followWatch_still (c : Car) (x : Int) : (followWatch c x s).lgp.still = s.lgp.still := by
  simp [followWatch]
@[simp] theorem setOvertravel_still (c : Car) (o : Option Side) :
    (setOvertravel c o s).lgp.still = s.lgp.still := rfl
@[simp] theorem judgeOvertravel_still (c : Car) : (judgeOvertravel c s).lgp.still = s.lgp.still := by
  simp only [judgeOvertravel]; (repeat' split) <;> simp
@[simp] theorem judgeOvertravels_still : (judgeOvertravels s).lgp.still = s.lgp.still := by
  simp [judgeOvertravels]
@[simp] theorem followCars_still (xA xB : Int) : (followCars xA xB s).lgp.still = s.lgp.still := by
  simp [followCars]
@[simp] theorem driveEdge_still (d : Dir) : (driveEdge d s).lgp.still = (countEdge d s).lgp.still := by
  simp [driveEdge]

@[simp] theorem restartPosition_still : (restartPosition s).lgp.still = (formPresences s).lgp.still := by
  rw [restartPosition, judgeOvertravels_still]
  rfl

/-! ### Referencing and captures -/

/-- What a disagreement of positions does to LGP (01 R11). -/
theorem doubt_lgp (cars : List Car) : (doubt cars s).lgp = { s.lgp with
    position := .doubtful, watch := ⟨none, none⟩, freshNeeded := s.completePair.isSome && s.standstill } := by
  simp [doubt]

/-- The correction of car B when the line is referenced at stop k (01 R9). -/
def State.referenceCorr (s : State) (k : Nat) : Two Int :=
  ⟨0, (s.stationPos (s.stations - 1 - k) : Int) - ((s.length : Int) - s.stationPos k)⟩

/-- What a reference at stop k does to LGP, watches and overtravel apart (01 R9). -/
theorem referenceAt_still (k : Nat) : (referenceAt k s).lgp.still = { s.lgp.still with
    p := (s.stationPos k : Int) * s.driveCpm, corr := s.referenceCorr k, position := .referenced,
    freshNeeded := false } := by
  simp only [referenceAt, judgeOvertravels_still, freshWatches_still, leaveWindow_still]
  split <;> simp [Lgp.still, State.referenceCorr]

theorem referenceAt_line (k : Nat) : (referenceAt k s).lgp.line = s.lgp.line :=
  (congrArg Lgp.line (referenceAt_still s k) :)
theorem referenceAt_p (k : Nat) : (referenceAt k s).lgp.p = (s.stationPos k : Int) * s.driveCpm :=
  (congrArg Lgp.p (referenceAt_still s k) :)

@[simp] theorem evaluateReferencing_line : (evaluateReferencing s).lgp.line = s.lgp.line := by
  simp only [evaluateReferencing]; (repeat' split) <;> simp [referenceAt_line, doubt_lgp]

/-- What a capture does to LGP, watches and overtravel apart (01 R15). -/
theorem capture_still (j : Nat) (m : MarkerRec) (c : Car) :
    (capture j m c s).lgp.still =
      if ((m.position : Int) - s.carPos c).natAbs ≤ s.lgp.corrLimit then { s.lgp.still with
        corr := s.lgp.corr.setCar c (corrected (s.lgp.corr.car c) ((m.position : Int) - s.carPos c)),
        lastMarker := s.lgp.lastMarker.setCar c (some j) }
      else (doubt [c] s).lgp.still := by
  simp only [capture]
  split
  · rw [judgeOvertravel_still, setWatch_still, leaveWindow_still, mark_lgp]
    rfl
  · rfl

/-- What a pulse does to LGP, watches and overtravel apart: a capture, a disagreement, or nothing
(01 R13 to R15). -/
theorem pulse_cases (j : Nat) : pulse j s = s ∨ (∃ m c, pulse j s = capture j m c s) ∨
    ∃ c, pulse j s = doubt [c] s := by
  simp only [pulse]
  (repeat' split)
  · exact .inl rfl
  · exact .inr (.inl ⟨_, _, rfl⟩)
  · exact .inr (.inr ⟨_, rfl⟩)
  · exact .inl rfl

/-- A capture moves neither the line nor the rope. -/
theorem capture_rope (j : Nat) (m : MarkerRec) (c : Car) :
    (capture j m c s).lgp.line = s.lgp.line ∧ (capture j m c s).lgp.p = s.lgp.p := by
  have h := capture_still s j m c
  rw [doubt_lgp] at h
  split_ifs at h
  · exact ⟨(congrArg Lgp.line h :), (congrArg Lgp.p h :)⟩
  · exact ⟨(congrArg Lgp.line h :), (congrArg Lgp.p h :)⟩

/-- A pulse moves neither the line nor the rope. -/
theorem pulse_rope (j : Nat) : (pulse j s).lgp.line = s.lgp.line ∧ (pulse j s).lgp.p = s.lgp.p := by
  rcases pulse_cases s j with h | ⟨m, c, h⟩ | ⟨c, h⟩
  · rw [h]
    exact ⟨rfl, rfl⟩
  · rw [h]
    exact capture_rope s j m c
  · rw [h, doubt_lgp]
    exact ⟨rfl, rfl⟩

end Sys2Proof.Machine
end

section

namespace Sys2Proof.Machine

/-! ### Where the trip counter, the wake count, the line clock and the rope position change -/

/-- The number of a trip is below 65,536 (03 R45). -/
theorem nextTrip_lt (n : Nat) : nextTrip n < 65536 := Nat.mod_lt _ (by decide)

theorem openTrip_trips_lt (s : State) (target : Option Nat) (d : Dir) :
    (openTrip target d s).hc.tripCounter < 65536 := by
  simp [openTrip, nextTrip_lt]

theorem attempt_trips_lt {s : State} (h : s.hc.tripCounter < 65536) : (attempt s).hc.tripCounter < 65536 := by
  simp only [attempt]
  (repeat' split) <;> simp [h, openTrip_trips_lt]

theorem runAttempts_trips_lt {before s : State} (h : s.hc.tripCounter < 65536) :
    (runAttempts before s).hc.tripCounter < 65536 := by
  simp only [runAttempts]
  (repeat' split) <;> simp [h, attempt_trips_lt]

theorem finish_trips_lt {before s : State} (h : s.hc.tripCounter < 65536) :
    (finish before s).hc.tripCounter < 65536 := by
  simp only [finish, markChanges_hc, settle, commandDrive_trips, followTopSpeed_trips, judgeLoads_hc, settleHaul]
  apply runAttempts_trips_lt
  simpa [settleDoors] using h

theorem wake_count_le (c : WakeCause) {s : State} (h : s.mau.wakeCount ≤ 65535) :
    (wake c s).mau.wakeCount ≤ 65535 := by
  simp only [wake]
  split <;> simp [h]

theorem buttonReport_count_le {c : Car} {p : Bool} {s : State} (h : s.mau.wakeCount ≤ 65535) :
    (buttonReport c p s).mau.wakeCount ≤ 65535 := by
  simp only [buttonReport]
  (repeat' split) <;> simp [h, wake_count_le]

theorem judgeStandby_count_le {c : Chan} {avg : Int} {s : State} (h : s.mau.wakeCount ≤ 65535) :
    (judgeStandby c avg s).mau.wakeCount ≤ 65535 := by
  simp only [judgeStandby]
  (repeat' split) <;> simp [h, wake_count_le]

theorem convert_count_le {c : Chan} {raw : Nat} {s : State} (h : s.mau.wakeCount ≤ 65535) :
    (convert c raw s).mau.wakeCount ≤ 65535 := by
  simp only [convert]
  (repeat' split) <;> simp [h, judgeStandby_count_le]

theorem standbyEdge_count_le {d : Dir} {s : State} (h : s.mau.wakeCount ≤ 65535) :
    (standbyEdge d s).mau.wakeCount ≤ 65535 := by
  simp only [standbyEdge]
  split_ifs
  · exact wake_count_le _ h
  · exact h
  · exact h

theorem validFrame_count_le {s : State} (h : s.mau.wakeCount ≤ 65535) :
    (validFrame s).mau.wakeCount ≤ 65535 := by
  simp only [validFrame]
  split
  · exact wake_count_le _ h
  · exact h
  · exact h

@[simp] theorem startSupervision_count (s : State) : (startSupervision s).mau.wakeCount = s.mau.wakeCount := rfl

@[simp] theorem supervisionLoss_count (s : State) : (supervisionLoss s).mau.wakeCount = s.mau.wakeCount := by
  simp [supervisionLoss]

@[simp] theorem enterOff_count (s : State) : (enterOff s).mau.wakeCount = 0 := by
  simp only [enterOff, beginStandby]
  split <;> rfl

theorem changeMode_count_le {m : LineMode} {s : State} (h : s.mau.wakeCount ≤ 65535) :
    (changeMode m s).mau.wakeCount ≤ 65535 := by
  simp only [changeMode, exitOff]
  (repeat' split) <;> simp [h]

@[simp] theorem lineRestart_count (s : State) : (lineRestart s).mau.wakeCount = s.mau.wakeCount := by
  simp only [lineRestart, restartSupervision, restartMode]
  (repeat' split) <;> simp

@[simp] theorem acceptLine_count (s : State) (r : LineRec) :
    (acceptLine r s).mau.wakeCount = s.mau.wakeCount := by
  simp [acceptLine]

/-- Passing time counts the line clock up to its end (07 R124). -/
theorem pass_clock (t : Tt) (dt : Nat) : (t.pass dt).clock =
    if t.clock < 4294967295 then min 4294967295 (t.clock + (t.clockUs + dt) / 1000) else t.clock := by
  simp only [Tt.pass]
  split_ifs <;> simp <;> omega

theorem passTime_clock_le {dt : Nat} {s : State} (h : s.tt.clock ≤ 4294967295) :
    (passTime dt s).tt.clock ≤ 4294967295 := by
  rw [passTime_tt, pass_clock]
  split_ifs <;> omega

@[simp] theorem validate_clock (serial station : Nat) (d : Dir) (queued : Bool) (t : Tt) :
    (validate serial station d queued t).tt.clock = t.clock := by
  simp only [validate, classCheck, Tt.swept, Tt.modBlock]
  (repeat' split) <;> rfl

@[simp] theorem present_clock (s : State) (id serial : Nat) : (present id serial s).tt.clock = s.tt.clock := by
  simp only [present, presentAt]
  (repeat' split) <;> simp

@[simp] theorem undoValidation_clock (serial : Nat) (u : Undo) (t : Tt) :
    (undoValidation serial u t).clock = t.clock := by
  cases u <;> rfl

@[simp] theorem timeoutLane_clock (s : State) (id : Nat) : (timeoutLane id s).tt.clock = s.tt.clock := by
  simp only [timeoutLane]
  (repeat' split) <;> simp

/-- Before a line record is loaded referencing leaves the rope at 0 (01 R6, R9). -/
theorem evaluateReferencing_idle {s : State} (h : s.positionIdle) : (evaluateReferencing s).positionIdle := by
  intro hl
  rw [evaluateReferencing_line] at hl
  have start : ∀ k, s.stationPos k = 0 := fun k => by simp [State.stationPos, State.stationPos?, hl]
  simp only [evaluateReferencing]
  (repeat' split) <;> simp [referenceAt_p, doubt_lgp, start, h hl]

/-- A line restart leaves the rope at 0 before a line record is loaded. -/
theorem lineRestart_idle {s : State} (h : s.positionIdle) : (lineRestart s).positionIdle := by
  simp only [lineRestart, State.positionIdle, restartSupervision_lgp, restartCarFaults_lgp, restartBrakes_lgp]
  apply evaluateReferencing_idle
  intro hl
  rw [still_line (restartPosition_still _)] at hl
  rw [still_p (restartPosition_still _)]
  simp only [formPresences, modLgp_lgp, restartTensionFaults_lgp, restartSpeed_lgp, restartDoors_lgp,
    restartGates_lgp, restartHaul_lgp, restartTest_lgp, emptyFaults_lgp, restartNotices_lgp,
    restartMode_lgp] at hl ⊢
  exact h hl

theorem countEdge_idle {d : Dir} {s : State} (h : s.positionIdle) : (countEdge d s).positionIdle := by
  simp only [State.positionIdle, countEdge]
  split
  · simp_all
  · exact h

end Sys2Proof.Machine
end

section

namespace Sys2Proof.Machine

/-! ### The bounds of a state, and the operations that keep them -/

/-- What O12 says of a state, one field per block. -/
structure State.Bounded (s : State) : Prop where
  idle : s.positionIdle
  clock : s.tt.clock ≤ 4294967295
  wakes : s.mau.wakeCount ≤ 65535
  trips : s.hc.tripCounter < 65536
  edges : s.edgesBounded

theorem bounded_iff (s : State) : s.Bounded ↔ s.positionIdle ∧ s.countersBounded := by
  constructor
  · intro h
    exact ⟨h.idle, h.clock, h.wakes, h.trips, h.edges .drive, h.edges .sheave⟩
  · rintro ⟨idle, clock, wakes, trips, drive, sheave⟩
    exact ⟨idle, clock, wakes, trips, fun e => by cases e <;> assumption⟩

/-- The bounds hold after an operation when they hold in each block; a block that the operation leaves alone
needs no more than its frame lemma. -/
theorem State.Bounded.step {s t : State} (h : s.Bounded)
    (idle : s.positionIdle → t.positionIdle := by simp [State.positionIdle])
    (clock : s.tt.clock ≤ 4294967295 → t.tt.clock ≤ 4294967295 := by simp)
    (wakes : s.mau.wakeCount ≤ 65535 → t.mau.wakeCount ≤ 65535 := by simp)
    (trips : s.hc.tripCounter < 65536 → t.hc.tripCounter < 65536 := by simp)
    (edges : s.edgesBounded → t.edgesBounded := by simp [State.edgesBounded]) : t.Bounded :=
  ⟨idle h.idle, clock h.clock, wakes h.wakes, trips h.trips, edges h.edges⟩

section

variable {s : State} (h : s.Bounded)
include h

theorem bounded_finish {before : State} : (finish before s).Bounded :=
  h.step (trips := finish_trips_lt)

theorem bounded_transmit : (transmit s).Bounded := h.step

theorem bounded_passTime {dt : Nat} : (passTime dt s).Bounded :=
  h.step (clock := passTime_clock_le)

theorem bounded_passUntil {t : Nat} : (passUntil t s).Bounded := bounded_passTime h

/-! #### Positions and speed -/

theorem bounded_driveEdge {d : Dir} : (driveEdge d s).Bounded :=
  h.step
    (idle := fun hi hl => by
      rw [still_line (driveEdge_still s d)] at hl
      rw [still_p (driveEdge_still s d)]
      exact countEdge_idle hi hl)
    (wakes := fun hw => by
      simp only [driveEdge, judgeMovement_mau]
      exact standbyEdge_count_le (by simpa using hw))

theorem bounded_takeEdge {e : Encoder} {d : Dir} : (takeEdge e d s).Bounded := by
  have taken : (followTopSpeed (speedEdge e d s)).Bounded :=
    h.step (edges := fun he => by
      have after := modSpeed_edges s (e := e) (fun c => edge_history_le s.lgp.line.isSome d s.now) he
      simpa [State.edgesBounded, speedEdge] using after)
  cases e with
  | drive => exact bounded_driveEdge taken
  | sheave => exact taken

theorem bounded_presence {i : Nat} {v : PresenceReport} : (presence i v s).Bounded :=
  h.step (idle := fun hi => by
    simp only [presence]
    split
    · simp only [State.positionIdle, judgeMovement_lgp]
      exact evaluateReferencing_idle (by simpa [State.positionIdle, formPresences] using hi)
    · exact hi)

theorem bounded_takePulse {j : Nat} : (takePulse j s).Bounded :=
  h.step (idle := fun hi => by
    simp only [takePulse]
    split
    · simpa [State.positionIdle, pulse_rope] using hi
    · exact hi)

theorem bounded_quiet {e : Encoder} : (quiet e s).Bounded :=
  h.step
    (idle := fun hi => by
      simp only [quiet, beginStandstill]
      split
      · simp only [State.positionIdle, judgeMovement_lgp]
        exact evaluateReferencing_idle (by simpa [State.positionIdle] using hi)
      · exact hi)
    (edges := fun he => by
      have after := modSpeed_edges s (e := e) (f := SpeedChannel.silence)
        (fun c _ => by simp [SpeedChannel.silence]) he
      simp only [quiet]
      split
      · simpa [State.edgesBounded] using after
      · exact after)

/-! #### LINE_SET and line restart -/

theorem bounded_acceptLine {r : LineRec} : (acceptLine r s).Bounded :=
  h.step
    (idle := fun _ hl => by
      simp [acceptLine, loadLine, formPresences, markStop_lgp, stopOvertravel] at hl)
    (edges := fun he e => by
      have emptied : ((emptyHistories s).stu.speed.encoder e).history.length ≤ 9 := by
        cases e <;> simp [emptyHistories, Two.encoder]
      simpa [acceptLine, emptyHistories] using emptied)

theorem bounded_lineRestart : (lineRestart s).Bounded := h.step (idle := lineRestart_idle)

/-! #### The line link -/

omit h in
theorem bounded_event {f : State → State} (hf : (f s).Bounded) : (event f s).Bounded :=
  bounded_transmit (bounded_finish hf)

theorem bounded_receive {f : HeldFrame} : (receive f s).Bounded := by
  simp only [receive]
  split
  · exact State.Bounded.step (s := s.modLl fun l => { l with holding := l.holding ++ [f] }) (h.step)
      (wakes := validFrame_count_le)
  · exact h

end

end Sys2Proof.Machine
end

section

namespace Sys2Proof.Machine

/-- The state that an owner leaves, if it accepts the request, has property P. -/
def Answer.All (P : State → Prop) (a : Answer) : Prop := ∀ t b, a = .ok (t, b) → P t

@[simp] theorem all_error (P : State → Prop) (c : RefusalCode) : Answer.All P (.error c) := by
  intro t b h
  cases h

@[simp] theorem all_ok (P : State → Prop) (s : State) (b : Content) : Answer.All P (.ok (s, b)) ↔ P s := by
  constructor
  · exact fun h => h s b rfl
  · rintro h t b' ⟨⟩
    exact h

@[simp] theorem all_done (P : State → Prop) (s : State) : Answer.All P (done s) ↔ P s := all_ok P s .empty

section

variable {s : State} (h : s.Bounded)
include h

theorem bounded_setDay {day time : Nat} : Answer.All State.Bounded (setDay day time s) := by
  simp only [setDay]
  split
  · simp
  · rename_i ht
    have clock : (Tt.setDay day time s.tt).clock ≤ 4294967295 := by
      simp only [Tt.setDay]
      omega
    rw [all_done]
    split <;> exact h.step (clock := fun _ => by simpa using clock)

theorem bounded_openTrip {target : Option Nat} {d : Dir} : (openTrip target d s).Bounded :=
  h.step (trips := fun _ => openTrip_trips_lt s target d)

omit h in
theorem bounded_forEach {f : Nat → State → State} (hf : ∀ i t, State.Bounded t → (f i t).Bounded) :
    ∀ l t, State.Bounded t → (forEach f l t).Bounded
  | [], _, ht => ht
  | i :: is, t, ht => bounded_forEach hf is _ (hf i t ht)

theorem bounded_closeDoors {pair : Nat} : Answer.All State.Bounded (closeDoors pair s) := by
  have cleared : ∀ l, (forEach (fun i => modDoor i (fun d => { d with reopen := 0, hold := false })) l s).Bounded :=
    fun l => bounded_forEach (fun i t ht => ht.step) l s h
  simp only [closeDoors]
  split
  · simp
  · rename_i c _
    split
    · simpa using h
    · rename_i r _
      rw [all_done]
      exact (cleared (s.pairSets c r.stop)).step

theorem bounded_resumeTrip : Answer.All State.Bounded (resumeTrip s) := by
  simp only [resumeTrip]
  split
  · rw [all_ok]
    have ready : (s.modHc fun x => { x with cycle := .ready }).Bounded := h.step
    exact ready.step (trips := attempt_trips_lt)
  · split
    · simp
    · rw [all_ok]
      exact h.step

theorem bounded_own {level : Nat} {r : Request} : Answer.All State.Bounded (own level r s) := by
  cases r with
  | lineSet x =>
    simp only [own, setLine]
    split_ifs <;> simp [bounded_acceptLine h]
  | markersSet limit l =>
    simp only [own, setMarkers]
    (repeat' split) <;> simp only [all_error, all_done]
    all_goals exact h.step (idle := id)
  | profileSet p =>
    simp only [own, setProfile]
    (repeat' split) <;> simp only [all_error, all_done]
    all_goals exact h.step
  | tensionSet one two =>
    simp only [own, setTension]
    split <;> simp only [all_error, all_done]
    exact h.step
  | lanesSet l =>
    simp only [own, setLanes]
    (repeat' split) <;> simp only [all_error, all_done]
    all_goals exact h.step
  | postsSet l =>
    simp only [own, setPosts]
    split <;> simp only [all_error, all_done]
    exact h.step
  | paramSet scope p =>
    simp only [own, setParams, takeAll, takeTiming, startSupervision]
    (repeat' split) <;> simp <;> exact h.step
  | ticketsLoad t =>
    simp only [own, loadTickets]
    (repeat' split) <;> simp only [all_error, all_done]
    all_goals exact h.step
  | ticketsDrop b =>
    simp only [own, dropTickets]
    (repeat' split) <;> simp only [all_error, all_done]
    all_goals exact h.step
  | ticketQuery n =>
    simp only [own, queryTicket]
    split <;> simp
    exact h.step (clock := id)
  | daySet day time => exact bounded_setDay h
  | modeSet m =>
    simp only [own, setMode]
    (repeat' split) <;> simp [h]
    exact h.step (wakes := changeMode_count_le)
  | dispatch t d =>
    simp only [own, dispatchTrip]
    split <;> simp [bounded_openTrip h]
  | hold =>
    simp only [own, holdTrip]
    split <;> simp [h] <;> exact h.step
  | resume => exact bounded_resumeTrip h
  | stopNow =>
    simp only [own, stopNow, all_done]
    exact h.step
  | tripReset =>
    simp only [own, resetTrip]
    (repeat' split) <;> simp <;> exact h.step
  | doors o p a =>
    simp only [own, ownDoors, openDoors, holdDoors, unholdDoors]
    (repeat' split) <;> simp [h, bounded_closeDoors h] <;> exact h.step
  | lane l o =>
    simp only [own, ownLane, setLaneClosed, clearLane]
    (repeat' split) <;> simp <;> exact h.step
  | queue q o =>
    simp only [own, ownQueue, setQueueClosed]
    (repeat' split) <;> simp <;> exact h.step
  | forceStop k o =>
    simp only [own, ownForceStop, forceStop]
    (repeat' split) <;> simp <;> exact h.step
  | weatherSet w =>
    simp only [own, setWeather]
    split <;> simp only [all_error, all_done]
    exact h.step
  | amend c g v a d =>
    simp only [own, amendClass]
    (repeat' split) <;> simp <;> exact h.step
  | brakeTest b d t u =>
    simp only [own, testBrake]
    (repeat' split) <;> simp only [all_error, all_done]
    all_goals exact h.step
  | faultsAck =>
    simp only [own, ackFaults, all_ok]
    exact h.step
  | restart =>
    simp only [own, restartLineRequest]
    split <;> simp [bounded_lineRestart h]
  | carRead c =>
    simp only [own, readCar]
    split <;> simp [h]
  | queueRead q p =>
    simp only [own, readQueue]
    split <;> simp [h]
  | laneRead l =>
    simp only [own, readLane]
    split <;> simp [h]
  | statusRead | faultsRead | tripRead | brakesRead | tensionRead => simpa [own] using h

theorem bounded_judgeFrame {f : HeldFrame} : (judgeFrame f s).1.Bounded := by
  simp only [judgeFrame]
  (repeat' split)
  · exact h
  · exact h
  · exact h
  · exact bounded_own h _ _ ‹_›
  · exact h

theorem bounded_modLl {f : Ll → Ll} : (s.modLl f).Bounded := h.step

theorem bounded_take {f : HeldFrame} : (take f s).Bounded :=
  bounded_transmit (bounded_modLl (bounded_finish (bounded_judgeFrame (bounded_modLl h))))

omit h in
theorem bounded_serveWhile : ∀ n (s : State), s.Bounded → (serveWhile n s).Bounded
  | 0, _, h => h
  | n + 1, s, h => by
    simp only [serveWhile]
    split
    · exact bounded_serveWhile n _ (bounded_take h)
    · exact h

theorem bounded_serve : (serve s).Bounded := bounded_serveWhile 2 s h

theorem bounded_frameArrives {f : HeldFrame} : (frameArrives f s).Bounded :=
  bounded_serve (bounded_event (bounded_receive h))

theorem bounded_requestArrives {x : Header} {r : Request} : (requestArrives x r s).Bounded :=
  bounded_frameArrives h

theorem bounded_byteIn {b : Byte} : (byteIn b s).Bounded := by
  have hunted : (hunt s).Bounded := bounded_modLl h
  have framed : ∀ l, (inFrame l s).Bounded := fun l => bounded_modLl h
  simp only [byteIn, checkFrame]
  (repeat' split) <;> simp [h, hunted, framed, bounded_receive]

theorem bounded_expire {due : Option Nat} {f : State → State} (hf : ∀ t, State.Bounded t → (f t).Bounded) :
    (expire due f s).Bounded := by
  simp only [expire]
  split
  · exact h
  · exact bounded_event (hf _ (bounded_passUntil h))

omit h in
theorem bounded_fullReset (s : State) : (fullReset s).Bounded := by
  have fresh : (resetState s).Bounded := by
    refine ⟨fun _ => rfl, Nat.zero_le _, (by decide : 1 ≤ 65535), (by decide : 0 < 65536), fun e => ?_⟩
    cases e <;> exact Nat.zero_le _
  rw [fullReset]
  exact fresh.step

/-! ### Every command and every step keeps the bounds -/

theorem bounded_exec {i : Instr} {t : State} (hx : exec i s = .next t) : t.Bounded := by
  have request : ∀ x r, .next (requestArrives x r s) = (.next t : Result) → t.Bounded := by
    rintro x r ⟨⟩
    exact bounded_requestArrives h
  have happen : ∀ f : State → State, .next (event f s) = (.next t : Result) → (f s).Bounded → t.Bounded := by
    rintro f ⟨⟩ hf
    exact bounded_event hf
  have expired : ∀ due (f : State → State), .next (expire due f s) = (.next t : Result) →
      (∀ u, State.Bounded u → (f u).Bounded) → t.Bounded := by
    rintro due f ⟨⟩ hf
    exact bounded_expire h hf
  have changed : ∀ (same : Prop) [Decidable same] (f : State → State),
      (if same then .next s else .next (event f s)) = (.next t : Result) → (f s).Bounded → t.Bounded := by
    intro same _ f hx hf
    split at hx
    · cases hx
      exact h
    · exact happen f hx hf
  cases i with
  | unknownKindFrame x kind =>
    cases hx
    exact bounded_frameArrives h
  | fullReset =>
    cases hx
    exact bounded_fullReset s
  | restartLine => exact happen _ hx (bounded_lineRestart h)
  | encoderEdge e d n => exact happen _ hx (bounded_takeEdge (bounded_passTime h))
  | estimateDecay n | effectiveCeilingFall n => exact happen _ hx (bounded_passTime h)
  | quietExpiry e => exact expired _ _ hx fun u hu => bounded_quiet hu
  | disagreementIntervalExpiry => exact expired _ _ hx fun u hu => hu.step
  | presenceChange i v => exact changed _ _ hx (bounded_presence h)
  | markerPulse j => exact happen _ hx (bounded_takePulse h)
  | tensionConversion c raw => exact happen _ hx (h.step (wakes := convert_count_le))
  | missingConversionExpiry c => exact expired _ _ hx fun u hu => hu.step
  | brakeFeedbackChange b x v => exact changed _ _ hx h.step
  | driveReportChange ready => exact changed _ _ hx h.step
  | releaseProofExpiry b | applyProofExpiry b | escalationSample | escalationCheck | warningExpiry
  | pulseExpiry | carLineSilenceExpiry c | openProofExpiry i | closeProofExpiry i | dwellExpiry
  | passageTimeout lane | settleIntervalExpiry | supervisionExpiry | lineClockStop =>
    exact expired _ _ hx fun u hu => hu.step
  | gapIntervalExpiry =>
    exact expired _ _ hx fun u hu => bounded_modLl hu (f := fun l => { l with rx := none, gapDue := none })
  | carTrackBrakeReport c v | carStopRequest c v => exact happen _ hx h.step
  | carEmergencyButtonReport c v => exact happen _ hx (h.step (wakes := buttonReport_count_le))
  | carDoorReport c x y z => exact happen _ hx h.step
  | platformDoorInputChange i x v => cases x <;> exact changed _ _ hx h.step
  | lanePresentation lane serial => exact happen _ hx h.step
  | lanePassage lane | leafJam lane | leafJamWithdrawn lane => exact happen _ hx h.step
  | linkByte b =>
    cases hx
    exact bounded_serve (bounded_event (bounded_byteIn h))
  | frameSendEnd =>
    simp only [exec, execFrameSendEnd] at hx
    split at hx
    · cases hx
      exact h
    · cases hx
      exact bounded_serve (bounded_event (bounded_modLl (bounded_passUntil h)))
  | _ => exact request _ _ hx

theorem bounded_next {t : State} (hx : Sys2Proof.Machine.step s = .next t) : t.Bounded := by
  simp only [Sys2Proof.Machine.step] at hx
  split at hx
  · exact bounded_exec (h.step (t := s.setPending _)) hx
  · simp only [idleStep] at hx
    (repeat' split at hx)
    · cases hx
      exact bounded_event (bounded_passTime h)
    · exact bounded_exec h hx
    · cases hx
      exact bounded_event (bounded_passTime h)

end

end Sys2Proof.Machine
end

section

namespace Sys2Proof.Machine

/-- Settles O12: every block keeps its bound over every command, and over the passing of time. -/
theorem ropePositionAndCountersStayInBounds : Obligations.RopePositionAndCountersStayInBounds := by
  intro s t h hx
  rw [← bounded_iff] at h ⊢
  exact bounded_next h hx

end Sys2Proof.Machine
end

section

namespace Sys2Proof.Machine

/-! ### Raises while nothing moves -/

/-- An apply request for an APPLIED brake changes nothing (04 R66). -/
theorem applyBrake_applied {s : State} {b : Brake} (h : (s.bl.brakes.brake b).state = .applied) :
    applyBrake b s = s := by
  have same : (s.bl.brakes.brake b).applied b s.now = s.bl.brakes.brake b := by simp [BrakeRec.applied, h]
  simp only [applyBrake, modBrake, State.modBl, same]
  cases b <;> rfl

/-- The drive that is commanded so already. -/
theorem command_same {s : State} {d : DriveCommand} (h : s.hc.drive = d) : command d s = s := by
  subst h
  rfl

/-- Nothing is left for a class EMERGENCY demand to do: the haul is TRIPPED, the drive without torque and both
brakes are APPLIED. -/
def State.atRest (s : State) : Prop :=
  s.hc.haul = .tripped ∧ s.hc.drive = .noTorque ∧ ∀ b : Brake, (s.bl.brakes.brake b).state = .applied

/-- A class EMERGENCY fault raised at rest writes its slot and does nothing else (04 R72). -/
theorem raise_at_rest {s : State} {k : FaultKey} (hk : k.code.cls = .emergency) (h : s.atRest) :
    raise k s = s.modFt (FaultTable.raised k s.tt.clock) := by
  obtain ⟨haul, drive, brakes⟩ := h
  simp only [raise, handOn, hk]
  generalize hq : s.modFt (FaultTable.raised k s.tt.clock) = q
  have hc : q.hc = s.hc := by rw [← hq]; rfl
  have bl : q.bl = s.bl := by rw [← hq]; rfl
  have applied : ∀ b, applyBrake b q = q := fun b => applyBrake_applied (by rw [bl]; exact brakes b)
  simp [emergencyDemand, hc, haul, command_same (hc ▸ drive), applied]

/-- What the judgement of a brake at a full reset comes to (04 R83). -/
theorem resetBrake_at_rest {s : State} (b : Brake) (h : s.atRest) :
    resetBrake b s = if (s.bl.brakes.brake b).agrees then s
      else mark .fault (s.modFt (FaultTable.raised ⟨.brakeFeedback, b.index⟩ s.tt.clock)) := by
  rw [resetBrake, raise_at_rest rfl h]

/-- The judgement of a brake at a full reset leaves the blocks at rest. -/
theorem resetBrake_blocks {s : State} (b : Brake) (h : s.atRest) :
    (resetBrake b s).hc = s.hc ∧ (resetBrake b s).bl = s.bl ∧ (resetBrake b s).bpu = s.bpu ∧
      (resetBrake b s).gqu = s.gqu := by
  rw [resetBrake_at_rest b h]
  split <;> simp

/-- The slot of a brake whose feedback disagrees is written. -/
theorem resetBrake_ft {s : State} (b : Brake) (h : s.atRest) :
    (resetBrake b s).ft = if (s.bl.brakes.brake b).agrees then s.ft
      else s.ft.raised ⟨.brakeFeedback, b.index⟩ s.tt.clock := by
  rw [resetBrake_at_rest b h]
  split <;> simp

/-- A mark leaves the keys that are marked in their places (11 R183). -/
theorem mark_notices (k : NoticeKey) (s : State) : ∃ l, (mark k s).ll.notices = s.ll.notices ++ l := by
  simp only [mark, modLl_ll, markIn]
  split
  · exact ⟨[], (List.append_nil _).symm⟩
  · exact ⟨[k], rfl⟩

theorem resetBrake_notices {s : State} (b : Brake) (h : s.atRest) :
    ∃ l, (resetBrake b s).ll.notices = s.ll.notices ++ l := by
  rw [resetBrake_at_rest b h]
  split
  · exact ⟨[], (List.append_nil _).symm⟩
  · exact mark_notices _ _

/-! ### Full reset -/

/-- The brake records of the state that full reset judges. -/
theorem resetState_brake (s : State) (b : Brake) :
    (resetState s).bl.brakes.brake b = { s.bl.brakes.brake b with state := .applied, proofDue := none } := by
  cases b <;> rfl

theorem resetState_atRest (s : State) : (resetState s).atRest :=
  ⟨rfl, rfl, fun b => by rw [resetState_brake]⟩

/-- Rest is a matter of HC and BL. -/
theorem atRest_congr {s t : State} (hc : t.hc = s.hc) (bl : t.bl = s.bl) (h : s.atRest) : t.atRest := by
  rw [State.atRest, hc, bl]
  exact h

theorem resetHolding_atRest (s : State) : (resetBrake .holding (resetState s)).atRest := by
  have rest := resetState_atRest s
  obtain ⟨hc, bl, -, -⟩ := resetBrake_blocks .holding rest
  exact atRest_congr hc bl rest

/-- What full reset leaves of the blocks that the judgement of the brakes could reach. -/
theorem fullReset_blocks (s : State) : (fullReset s).hc = Hc.reset ∧ (fullReset s).bl = (resetState s).bl ∧
    (fullReset s).bpu = Bpu.reset ∧ (fullReset s).gqu = (resetState s).gqu := by
  obtain ⟨hc1, bl1, bpu1, gqu1⟩ := resetBrake_blocks .holding (resetState_atRest s)
  obtain ⟨hc2, bl2, bpu2, gqu2⟩ := resetBrake_blocks .emergency (resetHolding_atRest s)
  exact ⟨hc2.trans hc1, bl2.trans bl1, bpu2.trans bpu1, gqu2.trans gqu1⟩

/-- The feedback of a brake agrees with APPLIED at a full reset. -/
def State.feedbackAgrees (s : State) (b : Brake) : Bool :=
  (s.bl.brakes.brake b).appliedIn && !(s.bl.brakes.brake b).releasedIn

theorem resetState_agrees (s : State) (b : Brake) :
    ((resetState s).bl.brakes.brake b).agrees = s.feedbackAgrees b := by
  rw [resetState_brake]
  rfl

/-- The fault table with the slot of a brake raised at a clock of 0 unless its feedback agrees. -/
def feedbackJudged (b : Brake) (agrees : Bool) (t : FaultTable) : FaultTable :=
  if agrees then t else t.raised ⟨.brakeFeedback, b.index⟩ 0

/-- The fault table after a full reset (04 R83, 10 R176). -/
theorem fullReset_ft (s : State) : (fullReset s).ft =
    feedbackJudged .emergency (s.feedbackAgrees .emergency)
      (feedbackJudged .holding (s.feedbackAgrees .holding) FaultTable.reset) := by
  have rest := resetState_atRest s
  obtain ⟨-, bl, -, -⟩ := resetBrake_blocks .holding rest
  rw [fullReset, resetBrake_ft .emergency (resetHolding_atRest s), resetBrake_ft .holding rest, bl,
    resetState_agrees, resetState_agrees, resetBrake_tt]
  rfl

/-- Both BRAKE_FEEDBACK keys have a slot. -/
theorem feedbackKey_mem (b : Brake) : (⟨.brakeFeedback, b.index⟩ : FaultKey) ∈ allKeys := by
  cases b <;> decide

/-- A raise leaves the number of slots. -/
@[simp] theorem length_raised (t : FaultTable) (k : FaultKey) (clock : Nat) :
    (t.raised k clock).slots.length = t.slots.length := by simp [FaultTable.raised]

theorem length_feedbackJudged (b : Brake) (a : Bool) (t : FaultTable) :
    (feedbackJudged b a t).slots.length = t.slots.length := by
  simp only [feedbackJudged]
  split <;> simp

/-- The judgement of a brake leaves every other slot. -/
theorem feedbackJudged_other {b : Brake} {a : Bool} {t : FaultTable} {k : FaultKey} (hk : k ∈ allKeys)
    (hn : k ≠ ⟨.brakeFeedback, b.index⟩) : (feedbackJudged b a t).slot k = t.slot k := by
  simp only [feedbackJudged]
  split
  · rfl
  · exact slot_raised_other t 0 hk (feedbackKey_mem b) hn

/-- The slot of a judged brake is present exactly when its feedback disagrees. -/
theorem feedbackJudged_same {b : Brake} {a : Bool} {t : FaultTable} (hl : t.slots.length = 69)
    (hs : t.slot ⟨.brakeFeedback, b.index⟩ = none) :
    ((feedbackJudged b a t).slot ⟨.brakeFeedback, b.index⟩).isSome = !a := by
  cases a
  · simp [feedbackJudged, slot_raised_same t 0 (feedbackKey_mem b) hl]
  · simp [feedbackJudged, hs]

/-- No slot is present in the table of full reset. -/
theorem slot_reset (k : FaultKey) : FaultTable.reset.slot k = none := by
  simp only [FaultTable.slot, FaultTable.reset, List.getElem?_replicate]
  split <;> rfl

/-- Of the slots of other codes full reset leaves none present. -/
theorem fullReset_slot_other (s : State) {k : FaultKey} (hk : k ∈ allKeys) (hn : k.code ≠ .brakeFeedback) :
    (fullReset s).ft.slot k = none := by
  have other : ∀ b : Brake, k ≠ ⟨.brakeFeedback, b.index⟩ := by
    rintro b rfl
    exact hn rfl
  rw [fullReset_ft, feedbackJudged_other hk (other _), feedbackJudged_other hk (other _), slot_reset]

/-- The slot of a brake is present after full reset exactly when its feedback disagrees. -/
theorem fullReset_slot_brake (s : State) (b : Brake) :
    ((fullReset s).ft.slot ⟨.brakeFeedback, b.index⟩).isSome = !s.feedbackAgrees b := by
  rw [fullReset_ft]
  cases b with
  | holding =>
    rw [feedbackJudged_other (feedbackKey_mem .holding) (by decide)]
    exact feedbackJudged_same rfl (slot_reset _)
  | emergency =>
    refine feedbackJudged_same ?_ ?_
    · rw [length_feedbackJudged]
      rfl
    · rw [feedbackJudged_other (feedbackKey_mem .emergency) (by decide), slot_reset]

/-- Full reset leaves MODE and WAKE at the head of the notice list (11 R186). -/
theorem fullReset_notices (s : State) : ∃ l, (fullReset s).ll.notices = [.mode, .wake] ++ l := by
  obtain ⟨l1, h1⟩ := resetBrake_notices .holding (resetState_atRest s)
  obtain ⟨l2, h2⟩ := resetBrake_notices .emergency (resetHolding_atRest s)
  refine ⟨l1 ++ l2, ?_⟩
  rw [fullReset, h2, h1, List.append_assoc]
  rfl

/-- Settles O4: the values of State.reset are read off; in FULL_RESET the judgement of the brakes adds at most
their two slots and the FAULT key. -/
theorem fullResetValuesAreThoseOfTheChapters : Obligations.FullResetValuesAreThoseOfTheChapters := by
  refine ⟨by decide, ?_, ?_, by decide, ?_, by decide, by decide, by decide, by decide, by decide,
    by decide, by decide, fun s => ⟨fullReset s, rfl, ?_⟩⟩
  · intro e
    cases e <;> decide
  · intro c
    cases c <;> decide
  · intro b
    cases b <;> decide
  have outer : (fullReset s).outer = (resetState s).outer := by simp [fullReset]
  obtain ⟨hc, bl, bpu, gqu⟩ := fullReset_blocks s
  refine ⟨(outer_pending outer :), (outer_now outer :), by simp [fullReset]; rfl, by simp [fullReset]; rfl, hc, bpu,
    by simp [fullReset]; rfl, by simp [fullReset]; rfl, gqu, by simp [fullReset]; rfl, by rw [bl]; rfl,
    fun k hk hn => fullReset_slot_other s hk hn, fun b => ⟨by rw [bl, resetState_brake], ?_, ?_⟩,
    (outer_rx outer :), (outer_holding outer :), (outer_replySlot outer :), (outer_sending outer :), fullReset_notices s⟩
  · intro hin
    have absent := fullReset_slot_brake s b
    rw [State.feedbackAgrees, hin.1, hin.2] at absent
    simpa using absent
  · intro hin
    rw [fullReset_slot_brake, State.feedbackAgrees]
    rcases hin with hin | hin <;> simp [hin]

end Sys2Proof.Machine
end

section

namespace Sys2Proof.Machine

/-! ### Positions and marker windows read LGP less watches and overtravel -/

theorem carPos_still {s t : State} (h : t.lgp.still = s.lgp.still) (c : Car) : t.carPos c = s.carPos c := by
  simp only [State.carPos, State.carFine, State.driveCpm, State.length, still_line h, still_p h, still_corr h]

theorem markerAt_still {s t : State} (h : t.lgp.still = s.lgp.still) (c : Car) (x : Int) :
    t.markerAt c x = s.markerAt c x := by
  simp only [State.markerAt, still_markers h]

/-! ### Watches (01 R16) -/

@[simp] theorem setCar_car {α : Type} (t : Two α) (c : Car) (x : α) : (t.setCar c x).car c = x := by
  cases c <;> rfl

theorem setCar_other {α : Type} (t : Two α) {c c' : Car} (x : α) (h : c' ≠ c) : (t.setCar c x).car c' = t.car c' := by
  cases c <;> cases c' <;> first | rfl | exact absurd rfl h

/-- The watch that names the marker in whose window its car stands (01 R16). -/
def State.standingWatch (s : State) (c : Car) : Option Watch :=
  (s.markerAt c (s.carPos c)).map (fun j => { marker := j, fromBelow := decide (c = .a), captured := true })

theorem standingWatch_still {s t : State} (h : t.lgp.still = s.lgp.still) (c : Car) :
    t.standingWatch c = s.standingWatch c := by
  simp only [State.standingWatch, carPos_still h, markerAt_still h]

/-- Watches set afresh name the markers in whose windows the cars stand. -/
theorem freshWatches_watch (s : State) (c : Car) :
    (freshWatches s).lgp.watch.car c = (freshWatches s).standingWatch c := by
  rw [standingWatch_still (freshWatches_still s)]
  cases c
  · rfl
  · exact standingWatch_still (freshWatch_still s .a) .b

@[simp] theorem judgeOvertravel_watch (s : State) (c : Car) :
    (judgeOvertravel c s).lgp.watch = s.lgp.watch := by
  simp only [judgeOvertravel]
  (repeat' split) <;> simp [setOvertravel]

@[simp] theorem judgeOvertravels_watch (s : State) : (judgeOvertravels s).lgp.watch = s.lgp.watch := by
  simp [judgeOvertravels]

/-- The judgement of a window left keeps the watch of the other car. -/
theorem leaveWindow_watch_other (s : State) {c c' : Car} (h : c' ≠ c) :
    (leaveWindow c s).lgp.watch.car c' = s.lgp.watch.car c' := by
  simp only [leaveWindow]
  (repeat' split) <;> simp [setWatch, setCar_other _ _ h]

/-! ### A haul that stands -/

/-- The haul is PARKED or TRIPPED. -/
def State.haulStands (s : State) : Prop := s.hc.haul = .parked ∨ s.hc.haul = .tripped

theorem haulStands_congr {s t : State} (h : t.hc = s.hc) : t.haulStands ↔ s.haulStands := by
  rw [State.haulStands, State.haulStands, h]

/-- A haul that stands has no departure to abandon (03 R51, R53). -/
theorem abandonDeparture_stands {s : State} (cause : EndCause) (h : s.haulStands) :
    abandonDeparture cause s = s := by
  rcases h with h | h <;> simp [abandonDeparture, h]

/-- A haul that stands has no service stop to make (04 R71). -/
theorem serviceDemand_stands {s : State} (c : FaultCode) (h : s.haulStands) : serviceDemand c s = s := by
  rcases h with h | h <;> simp [serviceDemand, h]

/-- A raise below class EMERGENCY while the haul stands writes its slot and does nothing else (10 R171). -/
theorem raise_stands {s : State} {k : FaultKey} (hk : k.code.cls ≠ .emergency) (h : s.haulStands) :
    raise k s = s.modFt (FaultTable.raised k s.tt.clock) := by
  have stands : (s.modFt (FaultTable.raised k s.tt.clock)).haulStands := h
  simp only [raise, handOn, serviceDemand_stands _ stands, abandonDeparture_stands _ stands, ite_self]
  split
  · exact absurd ‹_› hk
  · rfl
  · rfl
  · rfl

/-- A raise of class EMERGENCY trips the haul (04 R72). -/
theorem raise_emergency_tripped (s : State) {k : FaultKey} (hk : k.code.cls = .emergency) :
    (raise k s).hc.haul = .tripped := by
  simp only [raise, handOn, hk]
  exact (emergencyDemand_haul _ _).1

/-- A raise keeps a TRIPPED haul TRIPPED. -/
theorem raise_tripped {s : State} (k : FaultKey) (h : s.hc.haul = .tripped) : (raise k s).hc.haul = .tripped := by
  by_cases hk : k.code.cls = .emergency
  · exact raise_emergency_tripped s hk
  · rw [raise_stands hk (.inr h)]
    exact h

/-- A raise keeps a haul standing. -/
theorem raise_haulStands {s : State} (k : FaultKey) (h : s.haulStands) : (raise k s).haulStands := by
  by_cases hk : k.code.cls = .emergency
  · exact .inr (raise_emergency_tripped s hk)
  · rw [raise_stands hk h]
    exact h

theorem leaveWindow_haulStands {s : State} (c : Car) (h : s.haulStands) : (leaveWindow c s).haulStands := by
  have emptied : ∀ w, (setWatch c w s).haulStands := fun w => h
  simp only [leaveWindow]
  (repeat' split) <;> simp [h, emptied, raise_haulStands]

theorem judgeOvertravel_haulStands {s : State} (c : Car) (h : s.haulStands) : (judgeOvertravel c s).haulStands := by
  simp only [judgeOvertravel]
  (repeat' split)
  · exact h
  · exact h
  · exact raise_haulStands _ h
  · exact h
  · exact h

theorem referenceAt_haulStands {s : State} (k : Nat) (h : s.haulStands) : (referenceAt k s).haulStands := by
  have marked : (if s.referenceCorr k = s.lgp.corr then s else mark (.car .b) (mark (.car .a) s)).haulStands := by
    split <;> exact h
  refine judgeOvertravel_haulStands _ (judgeOvertravel_haulStands _ ?_)
  rw [haulStands_congr (freshWatches_hc _)]
  exact leaveWindow_haulStands _ (leaveWindow_haulStands _ marked)

/-- Referencing of a line whose position state is UNKNOWN keeps a haul standing. -/
theorem evaluateReferencing_haulStands {s : State} (hp : s.lgp.position = .unknown) (h : s.haulStands) :
    (evaluateReferencing s).haulStands := by
  simp only [evaluateReferencing, hp]
  (repeat' split)
  · exact h
  · exact referenceAt_haulStands _ h
  · exact h

end Sys2Proof.Machine
end

section

namespace Sys2Proof.Machine

/-! ### MARKERS_SET -/

/-- Settles O23: the checks of the owner in their order, and the fresh watches of the table taken. -/
theorem markersSetReplacesTheMarkerTable : Obligations.MarkersSetReplacesTheMarkerTable := by
  rintro s q h limit lim l rfl rfl hp
  refine ⟨fun hline => ?_, fun r hline => ⟨fun hbad => ?_, fun count bound each rising apartA apartB => ?_⟩⟩
  · refine refusedWith_of_own rfl rfl hp ?_
    simp only [own, setMarkers, hline]
  · refine refusedWith_of_own rfl rfl hp ?_
    simp only [own, setMarkers, hline, if_neg hbad]
  · refine ⟨freshWatches ((s.asTaken h (.markersSet limit l)).modLgp fun g => { g with
      markers := l, corrLimit := if limit = 0 then 500 else limit, lastMarker := ⟨none, none⟩ }),
      doneWith_of_own rfl rfl hp ?_, rfl, freshWatches_watch _⟩
    have passed := And.intro count (And.intro bound (And.intro each (And.intro rising (And.intro apartA apartB))))
    simp only [own, setMarkers, hline, if_pos passed, done]

/-! ### LINE_SET -/

/-- What referencing leaves of LGP alone. -/
def Lgp.tables (g : Lgp) : Lgp :=
  { g with p := 0, corr := ⟨0, 0⟩, position := .unknown, freshNeeded := false, watch := ⟨none, none⟩,
           overtravel := ⟨none, none⟩ }

theorem tables_still {g k : Lgp} (h : g.still = k.still) : g.tables = k.tables := by
  have split : ∀ x : Lgp, x.tables = { x.still with
      p := 0, corr := ⟨0, 0⟩, position := .unknown, freshNeeded := false } := fun x => rfl
  rw [split, split, h]

theorem referenceAt_tables (s : State) (k : Nat) : (referenceAt k s).lgp.tables = s.lgp.tables :=
  (congrArg Lgp.tables (referenceAt_still s k) :)

/-- Referencing changes nothing, references the line at the stop of the complete pair, or finds the positions to
disagree (01 R9, R10). -/
theorem evaluateReferencing_cases (s : State) : evaluateReferencing s = s ∨
    (∃ k, s.completePair = some k ∧ evaluateReferencing s = referenceAt k s) ∨
    ∃ c cs, s.lgp.position = .referenced ∧ evaluateReferencing s = doubt (c :: cs) s := by
  simp only [evaluateReferencing]
  cases s.standstill with
  | false => exact .inl rfl
  | true =>
    cases s.completePair with
    | none => exact .inl rfl
    | some k =>
      cases s.lgp.position with
      | unknown => exact .inr (.inl ⟨k, rfl, rfl⟩)
      | referenced =>
        cases hd : s.disagreeing k with
        | nil => exact .inr (.inl ⟨k, rfl, by simp only [hd, if_true]⟩)
        | cons c cs => exact .inr (.inr ⟨c, cs, rfl, by simp only [hd, if_true]⟩)
      | doubtful =>
        cases s.lgp.freshNeeded with
        | true => exact .inl rfl
        | false => exact .inr (.inl ⟨k, rfl, rfl⟩)

@[simp] theorem evaluateReferencing_tables (s : State) : (evaluateReferencing s).lgp.tables = s.lgp.tables := by
  rcases evaluateReferencing_cases s with h | ⟨k, -, h⟩ | ⟨c, cs, -, h⟩
  · rw [h]
  · rw [h, referenceAt_tables]
  · rw [h, doubt_lgp]
    rfl

/-- The state in which an accepted line record is referenced (01 R3). -/
def lineTaken (r : LineRec) (s : State) : State :=
  stopOvertravel (s.modLgp fun g => { g with
    line := some r, markers := [], corrLimit := 500, lastMarker := ⟨none, none⟩, watch := ⟨none, none⟩,
    position := .unknown, p := 0, corr := ⟨0, 0⟩, freshNeeded := false })

theorem loadLine_eq (r : LineRec) (s : State) :
    loadLine r s = evaluateReferencing (formPresences (markStop s (lineTaken r s))) := rfl

theorem formPresence_congr {s t : State} (h : t.lgp = s.lgp) (c : Car) : t.formPresence c = s.formPresence c := by
  simp only [State.formPresence, h]

/-- The presence fields are formed from LGP alone. -/
theorem formPresences_lgp {s t : State} (h : t.lgp = s.lgp) : (formPresences t).lgp = (formPresences s).lgp := by
  simp only [formPresences, modLgp_lgp, formPresence_congr h, h]

theorem loadLine_tables (r : LineRec) (s : State) :
    (loadLine r s).lgp.tables = (formPresences (lineTaken r s)).lgp.tables := by
  rw [loadLine_eq, evaluateReferencing_tables, formPresences_lgp (markStop_lgp _ _)]

/-- Loading a line record keeps a haul standing. -/
theorem loadLine_haulStands {r : LineRec} {s : State} (h : s.haulStands) : (loadLine r s).haulStands := by
  rw [loadLine_eq]
  refine evaluateReferencing_haulStands ?_ ?_
  · simp [formPresences, markStop_lgp, lineTaken, stopOvertravel]
  · rw [haulStands_congr (formPresences_hc _), haulStands_congr (markStop_hc _ _)]
    exact h

/-- DOOR_UNPROVEN raised for new door sets while the haul stands reaches neither HC nor GQU. -/
theorem raiseUnproven_stands : ∀ (l : List Nat) (s : State), s.haulStands →
    (forEach raiseUnproven l s).hc = s.hc ∧ (forEach raiseUnproven l s).gqu = s.gqu
  | [], _, _ => ⟨rfl, rfl⟩
  | i :: is, s, h => by
    have first : (raiseUnproven i s).hc = s.hc ∧ (raiseUnproven i s).gqu = s.gqu := by
      simp only [raiseUnproven]
      split
      · rw [raise_stands (by simp [FaultCode.cls, FaultCode.number]) h]
        exact ⟨rfl, rfl⟩
      · exact ⟨rfl, rfl⟩
    have rest := raiseUnproven_stands is (raiseUnproven i s) ((haulStands_congr first.1).2 h)
    exact ⟨rest.1.trans first.1, rest.2.trans first.2⟩

/-- New door sets reach neither HC nor GQU while the haul stands. -/
theorem newDoors_stands {n : Nat} {s : State} (h : s.haulStands) :
    (newDoors n s).hc = s.hc ∧ (newDoors n s).gqu = s.gqu := by
  simp only [newDoors]
  generalize hq : forEach _ [0, 1] s = q
  have hc : q.hc = s.hc := by
    rw [← hq]
    exact forEach_hc _ (fun i t => by (repeat' split) <;> simp) _ _
  have gqu : q.gqu = s.gqu := by
    rw [← hq]
    exact forEach_gqu _ (fun i t => by (repeat' split) <;> simp) _ _
  have raised := raiseUnproven_stands (List.range (n + 2)) ((emptySlots (FaultTable.removed (fun k _ =>
    decide (k.code = .doorUnproven) || decide (k.code = .doorTimeout) || decide (k.code = .doorObstructed))) q).modDc
      fun d => { d with
        sets := (List.range (n + 2)).map (fun i =>
          newDoor (d.inputs.getD i { closed := false, opened := false, obstructed := false })),
        pairs := ⟨{ released := none, pendingStop := none }, { released := none, pendingStop := none }⟩,
        dwell := .idle }) ((haulStands_congr (by simp [hc])).2 h)
  exact ⟨raised.1.trans (by simp [hc]), raised.2.trans (by simp [gqu])⟩

/-- A line of S stations has S + 2 door sets (06 R93). -/
theorem newDoors_sets (n : Nat) (s : State) : (newDoors n s).dc.sets.length = n + 2 := by
  simp only [newDoors]
  rw [forEach_dc raiseUnproven (fun i t => raiseUnproven_dc t i)]
  simp

/-- What discarding the old line leaves in HC, for a state whose haul stands when it begins (01 R3). -/
theorem acceptLine_discards {r : LineRec} {s : State} (h : s.haulStands) :
    ∃ u : State, (acceptLine r s).hc = (discardTrips u).hc ∧
      (acceptLine r s).gqu = { u.gqu with
        lanes := [], queues := newQueues r.stations, batches := ⟨none, none⟩ } := by
  have loaded : (loadLine r (emptyHistories (dissolveBoth s))).haulStands :=
    loadLine_haulStands ((haulStands_congr (by simp)).2 h)
  refine ⟨loadLine r (emptyHistories (dissolveBoth s)), ?_⟩
  generalize hu : loadLine r (emptyHistories (dissolveBoth s)) = u at loaded
  obtain ⟨hc, gqu⟩ := newDoors_stands (n := r.stations)
    (s := (removeLaneFaults (discardTrips u)).modGqu fun g => { g with
      lanes := [], queues := newQueues r.stations, batches := ⟨none, none⟩ })
    (by simpa [State.haulStands, discardTrips] using loaded)
  simp only [acceptLine, markAll_hc, markAll_gqu, modMau_hc, modMau_gqu, hu, hc, gqu]
  simp

theorem acceptLine_lgp (r : LineRec) (s : State) :
    (acceptLine r s).lgp = (loadLine r (emptyHistories (dissolveBoth s))).lgp := by
  simp [acceptLine]

theorem acceptLine_tables (r : LineRec) (s : State) : (acceptLine r s).lgp.line = some r ∧
    (acceptLine r s).lgp.markers = [] ∧ (acceptLine r s).lgp.corrLimit = 500 ∧
    (acceptLine r s).lgp.lastMarker = ⟨none, none⟩ := by
  have h := loadLine_tables r (emptyHistories (dissolveBoth s))
  rw [← acceptLine_lgp] at h
  exact ⟨(congrArg Lgp.line h :), (congrArg Lgp.markers h :), (congrArg Lgp.corrLimit h :),
    (congrArg Lgp.lastMarker h :)⟩

/-- Settles O22: the checks of the owner in their order, and what `acceptLine` leaves block by block. -/
theorem lineSetLoadsTheLineAndDiscardsWhatHungOnIt : Obligations.LineSetLoadsTheLineAndDiscardsWhatHungOnIt := by
  rintro s q h r x rfl rfl hp
  refine ⟨fun bad => ?_, fun good bad => ?_, fun good even stands => ?_⟩
  · refine refusedWith_of_own rfl rfl hp ?_
    simp [own, setLine, bad]
  · refine refusedWith_of_own rfl rfl hp ?_
    simp [own, setLine, good, bad]
  · obtain ⟨line, markers, corrLimit, lastMarker⟩ := acceptLine_tables (lineDefaults r) (s.asTaken h (.lineSet r))
    obtain ⟨u, hc, gqu⟩ := acceptLine_discards (r := lineDefaults r) stands
    refine ⟨acceptLine (lineDefaults r) (s.asTaken h (.lineSet r)), doneWith_of_own rfl rfl hp ?_, line, markers,
      corrLimit, lastMarker, by rw [hc]; rfl, by rw [hc]; rfl, by rw [hc]; rfl, by rw [hc]; rfl, by rw [gqu],
      by rw [gqu], by rw [gqu]; rfl, ?_, ?_, acceptLine_tt _ _⟩
    · simp [own, setLine, good, even, done]
    · simp [acceptLine, newDoors_sets]
    · simp [acceptLine]

end Sys2Proof.Machine
end

section

namespace Sys2Proof.Machine

/-! ### What a disagreement of positions does (01 R11) -/

/-- The fault table after POSITION_DISAGREE was raised for a list of cars. -/
def disagreeRaised (clock : Nat) (cars : List Car) (t : FaultTable) : FaultTable :=
  cars.foldl (fun t c => t.raised ⟨.positionDisagree, c.index⟩ clock) t

theorem raiseAll_ft : ∀ (cs : List Car) (s : State),
    (cs.foldl (fun t c => raise ⟨.positionDisagree, c.index⟩ t) s).ft = disagreeRaised s.tt.clock cs s.ft
  | [], _ => rfl
  | c :: cs, s => by
    rw [List.foldl_cons, raiseAll_ft cs, raise_ft, raise_tt]
    rfl

theorem doubt_ft (cars : List Car) (s : State) : (doubt cars s).ft = disagreeRaised s.tt.clock cars s.ft := by
  simp only [doubt, modLgp_ft, raiseAll_ft]

/-- POSITION_DISAGREE raised for any car leaves the haul TRIPPED. -/
theorem raiseAll_tripped : ∀ (cs : List Car) (s : State), s.hc.haul = .tripped →
    (cs.foldl (fun t c => raise ⟨.positionDisagree, c.index⟩ t) s).hc.haul = .tripped
  | [], _, h => h
  | _ :: cs, _, h => raiseAll_tripped cs _ (raise_tripped _ h)

theorem doubt_tripped (c : Car) (cs : List Car) (s : State) : (doubt (c :: cs) s).hc.haul = .tripped :=
  raiseAll_tripped cs _ (raise_emergency_tripped s rfl)

/-! ### What the movement judgements leave of a TRIPPED haul and of the fault table -/

@[simp] theorem judgeCrossing_haul (s : State) (x : Int) : (judgeCrossing x s).hc.haul = s.hc.haul := by
  simp only [judgeCrossing, applyPending, writeAmendment]
  (repeat' split) <;> simp

@[simp] theorem judgeCommit_haul (s : State) : (judgeCommit s).hc.haul = s.hc.haul := by
  simp only [judgeCommit, commitTrip]
  (repeat' split) <;> simp

theorem judgeSlip_tripped {s : State} (h : s.hc.haul = .tripped) : (judgeSlip s).hc.haul = .tripped := by
  simp only [judgeSlip, endPulse]
  (repeat' split) <;> simp [h, raise_tripped, command]

/-- The movement judgements leave a TRIPPED haul TRIPPED. -/
theorem judgeMovement_tripped {before s : State} (h : s.hc.haul = .tripped) :
    (judgeMovement before s).hc.haul = .tripped := by
  refine judgeSlip_tripped ?_
  rw [judgeCommit_haul, judgeApproach, if_neg (by simp [h]), judgeCrossing_haul, h]

/-- The slip of a test raises BRAKE_TEST_FAILED at most, so every other slot stays. -/
theorem judgeMovement_slot (before s : State) {k : FaultKey} (hk : k ∈ allKeys) (hn : k.code ≠ .brakeTestFailed) :
    (judgeMovement before s).ft.slot k = s.ft.slot k := by
  have failed : ∀ b : Brake, (⟨.brakeTestFailed, b.index⟩ : FaultKey) ∈ allKeys := by
    intro b
    cases b <;> decide
  have other : ∀ b : Brake, k ≠ ⟨.brakeTestFailed, b.index⟩ := by
    rintro b rfl
    exact hn rfl
  have base : (judgeCommit (judgeApproach (judgeCrossing (before.carPos .a) s))).ft = s.ft := by simp
  rw [judgeMovement, ← base]
  generalize judgeCommit (judgeApproach (judgeCrossing (before.carPos .a) s)) = q
  simp only [judgeSlip, endPulse, Bool.false_eq_true, if_false]
  (repeat' split) <;> simp [raise_ft, slot_raised_other _ _ hk (failed _) (other _)]

/-! ### Pulses (01 R13 to R16) -/

/-- A correction stays in its range (01 R7, log 21). -/
theorem corrected_range (c e : Int) : -6000000 ≤ corrected c e ∧ corrected c e ≤ 6000000 := by
  simp only [corrected]
  split
  · assumption
  · have free := (Config.correctionBeyond c e).isLt
    omega

/-- What a capture within the limit does to the position (01 R15). -/
theorem capture_within {s : State} {j : Nat} {m : MarkerRec} {c : Car}
    (h : ((m.position : Int) - s.carPos c).natAbs ≤ s.lgp.corrLimit) : (capture j m c s).lgp.still = { s.lgp.still with
      corr := s.lgp.corr.setCar c (corrected (s.lgp.corr.car c) ((m.position : Int) - s.carPos c)),
      lastMarker := s.lgp.lastMarker.setCar c (some j) } := by
  rw [capture_still, if_pos h]

/-- What a capture within the limit does to the watches (01 R16). -/
theorem capture_watch {s : State} {j : Nat} {m : MarkerRec} {c : Car}
    (h : ((m.position : Int) - s.carPos c).natAbs ≤ s.lgp.corrLimit) :
    (capture j m c s).lgp.watch.car c = some { marker := j, fromBelow := s.captureSide c j m, captured := true } ∧
      ∀ c', c' ≠ c → (capture j m c s).lgp.watch.car c' = s.lgp.watch.car c' := by
  simp only [capture, if_pos h, judgeOvertravel_watch, setWatch, modLgp_lgp]
  refine ⟨setCar_car _ _ _, fun c' hc => ?_⟩
  rw [setCar_other _ _ hc, leaveWindow_watch_other _ hc]
  rfl

/-- A capture beyond the limit makes the position DOUBTFUL (01 R15). -/
theorem capture_beyond {s : State} {j : Nat} {m : MarkerRec} {c : Car}
    (h : s.lgp.corrLimit < ((m.position : Int) - s.carPos c).natAbs) : capture j m c s = doubt [c] s := by
  simp only [capture, if_neg (Nat.not_le.mpr h)]

/-- A pulse that is attributed to no car within the limit makes the position DOUBTFUL (01 R14, R15). -/
theorem pulse_doubt {s : State} {j : Nat} {m : MarkerRec} (hp : s.lgp.position = .referenced)
    (hm : s.lgp.markers[j]? = some m)
    (h : ∀ c, s.attributed m = some c → s.lgp.corrLimit < ((m.position : Int) - s.carPos c).natAbs) :
    pulse j s = doubt [(s.attributed m).getD (s.nearer m)] s := by
  simp only [pulse, State.marker?, hm, hp, if_true]
  cases ha : s.attributed m with
  | none => rfl
  | some c => exact capture_beyond (h c ha)

theorem pulse_capture {s : State} {j : Nat} {m : MarkerRec} {c : Car} (hp : s.lgp.position = .referenced)
    (hm : s.lgp.markers[j]? = some m) (ha : s.attributed m = some c) : pulse j s = capture j m c s := by
  simp only [pulse, State.marker?, hm, hp, if_true, ha]

/-- A pulse that is not ignored (01 R13). -/
theorem takePulse_heard {s : State} {j : Nat} {m : MarkerRec} (hp : s.lgp.position = .referenced)
    (hm : s.lgp.markers[j]? = some m) : takePulse j s = judgeMovement s (pulse j s) := by
  have hj : j < s.lgp.markers.length := (List.getElem?_eq_some_iff.mp hm).1
  simp only [takePulse, hp, hj, and_self, if_true]

/-- A pulse at an input without a record or while the position state is not REFERENCED (01 R13). -/
theorem takePulse_ignored {s : State} {j : Nat}
    (h : s.lgp.markers.length ≤ j ∨ s.lgp.position = .unknown ∨ s.lgp.position = .doubtful) :
    takePulse j s = s := by
  rw [takePulse, if_neg]
  rintro ⟨hp, hj⟩
  rcases h with h | h | h
  · omega
  · rw [hp] at h
    cases h
  · rw [hp] at h
    cases h

/-- The entry side that a capture gives a watch of another marker or a new watch (log 13). -/
theorem captureSide_new {s : State} {c : Car} {j : Nat} {m : MarkerRec}
    (h : ∀ w, s.lgp.watch.car c = some w → w.marker ≠ j) (hx : s.carPos c ≠ m.position) :
    s.captureSide c j m = decide (s.carPos c < m.position) := by
  simp only [State.captureSide]
  split
  · exact if_neg (h _ ‹_›)
  · exact if_neg hx

/-- The entry side that a capture leaves to a watch of its marker. -/
theorem captureSide_same {s : State} {c : Car} {j : Nat} {m : MarkerRec} {w : Watch}
    (h : s.lgp.watch.car c = some w) (hj : w.marker = j) : s.captureSide c j m = w.fromBelow := by
  simp only [State.captureSide, h, hj, if_true]

theorem disagreeKey_mem (c : Car) : (⟨.positionDisagree, c.index⟩ : FaultKey) ∈ allKeys := by
  cases c <;> decide

theorem attributed_eq (s : State) (m : MarkerRec) : s.attributed m =
    if m.track = 1 then some .a else if m.track = 2 then some .b
    else if m.holds (s.carPos .a) = true ∧ m.holds (s.carPos .b) = false then some .a
    else if m.holds (s.carPos .a) = false ∧ m.holds (s.carPos .b) = true then some .b else none := by
  simp only [State.attributed]
  cases m.holds (s.carPos .a) <;> cases m.holds (s.carPos .b) <;> simp

/-- Settles O48: a pulse is ignored, captured, or makes the position DOUBTFUL, and the movement judgements that
follow leave LGP, a TRIPPED haul and the slots of POSITION_DISAGREE alone. -/
theorem pulsesAreIgnoredOrAttributedAndApplied : Obligations.PulsesAreIgnoredOrAttributedAndApplied := by
  intro s j
  refine ⟨fun ignored => ?_, fun m hp hm => ⟨attributed_eq s m, rfl, fun c ha within => ?_, fun beyond => ?_⟩⟩
  · have same : takePulse j.val s = s := takePulse_ignored ignored
    show Host.Outcome.next (event (takePulse j.val) s) = _
    rw [event, same]
  · have lgp : (takePulse j.val s).lgp = (capture j.val m c s).lgp := by
      rw [takePulse_heard hp hm, judgeMovement_lgp, pulse_capture hp hm ha]
    have still := capture_within (j := j.val) within
    obtain ⟨watch, others⟩ := capture_watch (j := j.val) within
    have corr : (takePulse j.val s).lgp.corr = _ := (congrArg Lgp.corr (lgp ▸ still) :)
    have last : (takePulse j.val s).lgp.lastMarker = _ := (congrArg Lgp.lastMarker (lgp ▸ still) :)
    have range := corrected_range (s.lgp.corr.car c) ((m.position : Int) - s.carPos c)
    refine ⟨takePulse j.val s, rfl, fun low high => ?_, ?_, ?_, ?_, ?_, ?_, ⟨_, lgp ▸ watch, rfl, rfl,
      fun w0 h0 hj => captureSide_same h0 hj, captureSide_new⟩, fun c' hc => ⟨?_, ?_, ?_⟩⟩
    · rw [corr, setCar_car, corrected, if_pos ⟨low, high⟩]
    · rw [corr, setCar_car]
      exact range.1
    · rw [corr, setCar_car]
      exact range.2
    · rw [last, setCar_car]
    · rw [lgp, ← hp]
      exact (congrArg Lgp.position still :)
    · rw [lgp]
      exact (congrArg Lgp.p still :)
    · rw [corr, setCar_other _ _ hc]
    · rw [lgp, others c' hc]
    · rw [last, setCar_other _ _ hc]
  · have heard : takePulse j.val s = judgeMovement s (doubt [(s.attributed m).getD (s.nearer m)] s) := by
      rw [takePulse_heard hp hm, pulse_doubt hp hm beyond]
    have lgp := (congrArg State.lgp heard).trans (judgeMovement_lgp _ _)
    rw [doubt_lgp] at lgp
    refine ⟨takePulse j.val s, rfl, by rw [lgp], by rw [lgp], by rw [lgp], by rw [lgp], ?_, fun _ c hc => ?_⟩
    · rw [heard]
      exact judgeMovement_tripped (doubt_tripped _ _ _)
    · rw [heard, judgeMovement_slot _ _ (disagreeKey_mem c) (by simp), doubt_ft, hc]
      rfl

end Sys2Proof.Machine
end

section

namespace Sys2Proof.Machine

/-! ### Edges (02 R20, 01 R6) -/

/-- A channel after an edge, field by field (02 R20). -/
theorem edge_eq (ch : SpeedChannel) (loaded : Bool) (d : Dir) (now : Nat) : ch.edge loaded d now = { ch with
    lastEdge := some now, quiet := false, quietDue := some (now + 500000),
    history := if loaded = true
      then (if ch.sense = some d then (ch.history ++ [now]).drop ((ch.history ++ [now]).length - 9) else [now])
      else ch.history,
    sense := if loaded = true then some d else ch.sense } := by
  simp only [SpeedChannel.edge, newestNine]
  split_ifs with hl hs
  · simp [hs]
  · rfl
  · rfl

/-- The channels after an edge (02 R20). -/
theorem takeEdge_stu (e : Encoder) (d : Dir) (s : State) : (takeEdge e d s).stu = (speedEdge e d s).stu := by
  cases e <;> simp [takeEdge]

theorem takeEdge_channel (e : Encoder) (d : Dir) (s : State) :
    (takeEdge e d s).stu.speed.encoder e = (s.stu.speed.encoder e).edge s.lgp.line.isSome d s.now := by
  rw [takeEdge_stu, speedEdge, modSpeed_same]

theorem takeEdge_channel_other {e e' : Encoder} (d : Dir) (s : State) (h : e' ≠ e) :
    (takeEdge e d s).stu.speed.encoder e' = s.stu.speed.encoder e' := by
  rw [takeEdge_stu, speedEdge, modSpeed_other _ _ h]

/-- A DRIVE edge moves the rope by one count once a line record is loaded (01 R6). -/
theorem countEdge_p (d : Dir) (s : State) :
    (countEdge d s).lgp.p = if s.lgp.line.isSome = true then s.lgp.p + d.sign * 1000 else s.lgp.p := by
  simp only [countEdge]
  split <;> simp [*]

theorem takeEdge_p (e : Encoder) (d : Dir) (s : State) : (takeEdge e d s).lgp.p =
    if e = .drive ∧ s.lgp.line.isSome = true then s.lgp.p + d.sign * 1000 else s.lgp.p := by
  cases e with
  | drive =>
    have moved : (takeEdge .drive d s).lgp.p = (countEdge d (followTopSpeed (speedEdge .drive d s))).lgp.p := by
      rw [takeEdge]
      exact still_p (driveEdge_still _ d)
    rw [moved, countEdge_p]
    simp
  | sheave => simp [takeEdge]

/-! ### The top line speed (03 R45) -/

theorem followTopSpeed_active {s : State} {r : TripRec} (ha : s.hc.trip.state = .active)
    (hr : s.hc.trip.rec? = some r) : followTopSpeed s = { s with hc := { s.hc with
      trip := { s.hc.trip with rec? := some { r with topSpeed := max r.topSpeed s.lineSpeed } } } } := by
  rw [followTopSpeed, if_pos ha]
  simp [State.modHc, hr]

theorem followTopSpeed_idle {s : State} (ha : s.hc.trip.state ≠ .active) : followTopSpeed s = s := by
  rw [followTopSpeed, if_neg ha]

/-! ### Marker windows (01 R16) -/

/-- A watch whose car still stands in its window stays. -/
theorem leaveWindow_inside {s : State} {c : Car} {w : Watch} {m : MarkerRec} (hw : s.lgp.watch.car c = some w)
    (hm : s.lgp.markers[w.marker]? = some m) (h : (s.carPos c - m.position).natAbs ≤ m.window) :
    leaveWindow c s = s := by
  have holds : m.holds (s.carPos c) = true := by simpa [MarkerRec.holds] using h
  simp only [leaveWindow, State.marker?, hw, hm, holds, if_true]

/-- A window that a car has left empties its watch, with MARKER_MISSED when it was crossed without a pulse. -/
theorem leaveWindow_outside {s : State} {c : Car} {w : Watch} {m : MarkerRec} (hw : s.lgp.watch.car c = some w)
    (hm : s.lgp.markers[w.marker]? = some m) (h : m.window < (s.carPos c - m.position).natAbs) :
    leaveWindow c s = if (w.fromBelow = true ↔ (m.position : Int) < s.carPos c) ∧ w.captured = false
      then raise ⟨.markerMissed, c.index⟩ (setWatch c none s) else setWatch c none s := by
  have holds : ¬ m.holds (s.carPos c) = true := by simpa [MarkerRec.holds] using h
  have side : (decide ((m.position : Int) < s.carPos c) = w.fromBelow) ↔
      (w.fromBelow = true ↔ (m.position : Int) < s.carPos c) := by
    rw [Bool.eq_iff_iff, decide_eq_true_iff]
    exact Iff.comm
  simp only [leaveWindow, State.marker?, hw, hm, if_neg holds, side]

/-- A car that comes into no new window keeps its watch. -/
theorem enterWindow_stays {s : State} {c : Car} {x : Int} (h : s.lgp.position ≠ .referenced ∨
    s.markerAt c (s.carPos c) = none ∨ (s.lgp.watch.car c).map Watch.marker = s.markerAt c (s.carPos c)) :
    enterWindow c x s = s := by
  simp only [enterWindow]
  split_ifs with hp
  · cases hj : s.markerAt c (s.carPos c) with
    | none => rfl
    | some j =>
      rw [hj] at h
      simp only [hp, ne_eq, not_true_eq_false, reduceCtorEq, false_or] at h
      exact if_pos h
  · rfl

/-- A car that comes into a window takes its watch, with the side that it came from (log 13). -/
theorem enterWindow_enters {s : State} {c : Car} {j : Nat} (x : Int) (hp : s.lgp.position = .referenced)
    (hj : s.markerAt c (s.carPos c) = some j) (hw : (s.lgp.watch.car c).map Watch.marker ≠ some j) :
    enterWindow c x s = setWatch c (some
      { marker := j, fromBelow := decide (x < s.carPos c), captured := false }) s := by
  simp only [enterWindow, if_pos hp, hj, if_neg hw]

/-! ### Overtravel (01 R17) -/

theorem overtravelSide_eq (s : State) (x : Int) : s.overtravelSide x = match s.lgp.line with
    | none => none
    | some r => if x < -(r.margin : Int) then some .below
        else if (r.length : Int) + r.margin < x then some .above else none := rfl

/-- The judgement of a car for overtravel, by its field and its side. -/
theorem judgeOvertravel_known {s : State} (c : Car) (h : s.lgp.position ≠ .unknown) :
    judgeOvertravel c s = match s.lgp.overtravel.car c, s.overtravelSide (s.carPos c) with
    | none, none => s
    | none, some d => raise ⟨.overtravel, c.index⟩ (setOvertravel c (some d) s)
    | some _, none => endCondition ⟨.overtravel, c.index⟩ (setOvertravel c none s)
    | some _, some d => setOvertravel c (some d) s := if_neg h

/-! ### Standby travel (09 R163) -/

theorem standbyEdge_idle {d : Dir} {s : State} (h : s.mau.mode ≠ .off ∨ s.lgp.line = none) : standbyEdge d s = s := by
  rw [standbyEdge, if_neg]
  rintro ⟨hm, hl⟩
  rcases h with h | h
  · exact h hm
  · simp [h] at hl

/-- A DRIVE edge in OFF adds one count to the standby travel, or wakes the part (09 R162, R163). -/
theorem standbyEdge_off {d : Dir} {s : State} {x : Int × Nat} (hm : s.mau.mode = .off) (hl : s.lgp.line ≠ none)
    (hx : x = addCount s.driveCpm d (s.mau.standbyTravel, s.mau.standbyScale)) :
    standbyEdge d s = if 50 * x.2 < x.1.natAbs
      then wake .movement (s.modMau fun m => { m with standbyTravel := 0, standbyScale := 1 })
      else s.modMau fun m => { m with standbyTravel := x.1, standbyScale := x.2 } := by
  have loaded : s.lgp.line.isSome = true := Option.isSome_iff_ne_none.mpr hl
  simp only [standbyEdge, hm, loaded, and_self, if_true, hx]

/-- A wake event in OFF (09 R162). -/
theorem wake_off {s : State} (c : WakeCause) (h : s.mau.mode = .off) :
    wake c s = mark .wake (s.modMau fun m => { m with
      wakeSet := addCause c m.wakeSet, wakeCount := min 65535 (m.wakeCount + 1),
      latestWake := some (c, s.tt.clock) }) := by
  rw [wake, if_pos h]

theorem mem_addCause (c : WakeCause) (l : List WakeCause) : c ∈ addCause c l := by
  cases c <;> simp [addCause]

theorem mem_mark (k : NoticeKey) (s : State) : k ∈ (mark k s).ll.notices := by
  simp only [mark, modLl_ll, markIn]
  split <;> simp [*]

/-! ### Time (07 R124; 03 R40, R43) -/

theorem underTripCeiling_false {s : State} (hr : s.hc.haul ≠ .running) (ha : s.hc.haul ≠ .approach) :
    s.underTripCeiling = false := by simp [State.underTripCeiling, hr, ha]

/-- The segments of a class after a time, at the deceleration of its active segment (log 14). -/
theorem passTime_class {s : State} {k n : Nat} {segs : List Segment} {g : Segment}
    (hk : s.hc.classes[k]? = some (some segs)) (hg : segs[activeIndex segs (s.carPos .a)]? = some g) :
    (passTime n s).hc.classes[k]? = some (some (segs.map (Segment.fall g.decel n))) := by
  simp only [passTime_classes, State.fallenClasses, List.getElem?_map, hk, Option.map_some, hg]

/-- A ramp that rises is held down by the ceiling after the time that passes (03 R43). -/
theorem passTime_ramp_rises {s : State} {n : Nat} (hr : s.rampRises = true)
    (h : (passTime n s).hc.haul = s.hc.haul) : (passTime n s).hc.ramp = match s.hc.trip.rec? with
      | some r => min (s.rampFree n) ((passTime n s).tripCeiling r)
      | none => s.rampFree n := by
  rw [passTime_ramp s n h, State.rampAfter]
  cases ht : s.hc.trip.rec? with
  | none => rfl
  | some r => simp only [hr, if_true, passTime_ceiling s n h ht]

theorem passTime_ramp_falls {s : State} {n : Nat} (hr : s.rampRises = false)
    (h : (passTime n s).hc.haul = s.hc.haul) : (passTime n s).hc.ramp = s.rampFree n := by
  rw [passTime_ramp s n h, State.rampAfter]
  cases s.hc.trip.rec? <;> simp [hr]

/-- At the end of the line clock its interval brings it to 4,294,967,295 (07 R124). -/
theorem clockStop_clock {s : State} (h : s.tt.clock < 4294967295) :
    (passUntil (s.now + ((4294967295 - s.tt.clock) * 1000 - s.tt.clockUs)) s).tt.clock = 4294967295 := by
  rw [passUntil, passTime_tt, pass_clock, if_pos h]
  omega

end Sys2Proof.Machine
end

section

namespace Sys2Proof.Machine

/-- The ramp of a trip that rises (03 R43, R58). -/
theorem passTime_ramp_rises_rate {s : State} {n : Nat} (h : (passTime n s).hc.haul = s.hc.haul)
    (hr : s.hc.haul = .running ∨ s.hc.haul = .approach ∧ s.hc.unreferencedTrip = false) :
    (passTime n s).hc.ramp = match s.hc.trip.rec? with
      | some r => min (s.hc.ramp + s.classAccel s.kind * n) ((passTime n s).tripCeiling r)
      | none => s.hc.ramp + s.classAccel s.kind * n := by
  have rises : s.rampRises = true := by
    rcases hr with run | ⟨app, ref⟩
    · simp [State.rampRises, run]
    · simp [State.rampRises, app, ref]
  have free : s.rampFree n = s.hc.ramp + s.classAccel s.kind * n := by
    rcases hr with run | ⟨app, ref⟩
    · simp [State.rampFree, run]
    · simp [State.rampFree, app, ref]
  rw [passTime_ramp_rises rises h, free] <;> rfl

/-- The ramp of an approach without a reference falls (03 R58). -/
theorem passTime_ramp_approach {s : State} {n : Nat} (ha : s.hc.haul = .approach)
    (h : (passTime n s).hc.haul = .approach) : (passTime n s).hc.ramp =
      if s.hc.unreferencedTrip = true then s.hc.ramp - s.classDecel s.kind * n
      else match s.hc.trip.rec? with
        | some r => min (s.hc.ramp + s.classAccel s.kind * n) ((passTime n s).tripCeiling r)
        | none => s.hc.ramp + s.classAccel s.kind * n := by
  split_ifs with hu
  · rw [passTime_ramp_falls (by simp [State.rampRises, ha, hu]) (h.trans ha.symm)]
    simp [State.rampFree, ha, hu]
  · exact passTime_ramp_rises_rate (h.trans ha.symm) (.inr ⟨ha, Bool.not_eq_true _ ▸ hu⟩)

/-- The ramp of a service stop falls (04 R71). -/
theorem passTime_ramp_stopping {s : State} (n : Nat) (hs : s.hc.haul = .stopping) :
    (passTime n s).hc.ramp = s.hc.ramp - s.classDecel s.kind * n := by
  have calm := passTime_frame s n (underTripCeiling_false (by simp [hs]) (by simp [hs]))
  rw [passTime_ramp_falls (by simp [State.rampRises, hs]) (by rw [calm.hc])]
  simp [State.rampFree, hs]

/-- A line clock at its end stays there (07 R124). -/
theorem passTime_tt_ended {s : State} (n : Nat) (h : 4294967295 ≤ s.tt.clock) : (passTime n s).tt = s.tt := by
  rw [passTime_tt, Tt.pass, if_neg (by omega), if_neg (by omega)]

/-- What a wake event in OFF records (09 R162). -/
theorem wake_records {s : State} (c : WakeCause) (h : s.mau.mode = .off) :
    (wake c s).mau.standbyTravel = s.mau.standbyTravel ∧ (wake c s).mau.latestWake = some (c, s.tt.clock) ∧
      c ∈ (wake c s).mau.wakeSet ∧ NoticeKey.wake ∈ (wake c s).ll.notices := by
  rw [wake_off c h]
  exact ⟨rfl, rfl, mem_addCause _ _, mem_mark _ _⟩

/-- Settles O46: an edge by the equations of its channel and of the rope, its judgements by their cases, and the
time that passes by what its moments leave alone. -/
theorem edgesMoveTheRopeAndTimePasses : Obligations.EdgesMoveTheRopeAndTimePasses := by
  intro s
  refine ⟨fun e d n => ?_, fun r ha hr => followTopSpeed_active ha hr, followTopSpeed_idle, fun c w m hw hm => ?_,
    fun c x => ⟨enterWindow_stays, fun j hp hj hw => ?_⟩, fun c side hside => ?_, fun d x hx => ?_, fun n => ?_,
    fun running => ?_⟩
  · refine ⟨takeEdge e d (passTime n s), rfl, ?_, fun ch hch => ?_, fun e' he => ?_, ?_, fun q hq => ⟨?_, ?_⟩⟩
    · rw [outer_now (takeEdge_outer _ e d), passTime_now]
    · rw [takeEdge_channel, edge_eq, hch]
      simp only [passTime_speed, passTime_lgp, passTime_now]
    · rw [takeEdge_channel_other d _ he, passTime_speed]
    · rw [takeEdge_p, passTime_lgp]
    · rintro rfl
      exact hq.symm
    · rintro rfl
      rw [hq]
      rfl
  · refine ⟨leaveWindow_inside hw hm, fun outside => ?_⟩
    have left := leaveWindow_outside hw hm outside
    refine ⟨fun missed crossed => ?_, fun kept => ?_⟩
    · rw [left, if_pos ⟨crossed, missed⟩]
      rfl
    · rw [left, if_neg]
      · rfl
      · rintro ⟨crossed, missed⟩
        rcases kept with captured | stayed
        · simp [captured] at missed
        · exact stayed crossed
  · rw [enterWindow_enters x hp hj hw]
    rfl
  · have hside : side = s.overtravelSide (s.carPos c) := hside.trans (overtravelSide_eq s _).symm
    refine ⟨fun unknown => if_pos unknown, fun known => ?_⟩
    have judged := judgeOvertravel_known c known
    rw [← hside] at judged
    refine ⟨fun d hf hs => ?_, fun d0 hf hs => ?_, fun d0 d hf hs => ?_, fun hf hs => ?_⟩ <;>
      (rw [hf, hs] at judged; exact judged)
  · refine ⟨standbyEdge_idle, fun hm hl within => ?_, fun hm hl beyond => ?_⟩
    · rw [standbyEdge_off hm hl hx, if_neg (by omega)]
      rfl
    · rw [standbyEdge_off hm hl hx, if_pos beyond]
      exact wake_records .movement hm
  · refine ⟨rfl, rfl, passTime_now s n, passTime_lgp s n, passTime_speed s n, passTime_tension s n, fun hr ha => ?_,
      fun k segs g hk hg => passTime_class hk hg, fun hr run => passTime_ramp_rises_rate (run.trans hr.symm) (.inl hr),
      passTime_ramp_approach, passTime_ramp_stopping n, fun run => ?_, passTime_tt_ended n⟩
    · have calm := passTime_frame s n (underTripCeiling_false hr ha)
      exact ⟨by rw [calm.hc], calm.gqu, calm.ll, calm.ft⟩
    · rw [passTime_tt, pass_clock, if_pos run]
  · refine ⟨passUntil (s.now + ((4294967295 - s.tt.clock) * 1000 - s.tt.clockUs)) s, ?_, clockStop_clock running⟩
    show Host.Outcome.next (expire s.clockStopDue id s) = _
    rw [State.clockStopDue, if_pos running]
    rfl

end Sys2Proof.Machine
end

section

namespace Sys2Proof.Machine

/-! ### The stop and the complete pair read LGP alone -/

theorem stations_congr {s t : State} (h : t.lgp.line = s.lgp.line) : t.stations = s.stations := by
  rw [State.stations, h, State.stations]

theorem carNear_congr {s t : State} (h : t.lgp = s.lgp) (c : Car) (k tol : Nat) :
    t.carNear c k tol = s.carNear c k tol := by
  have station : t.stationOf c k = s.stationOf c k := by
    cases c
    · rfl
    · simp only [State.stationOf, stations_congr (congrArg Lgp.line h)]
  have position : ∀ i, t.stationPos? i = s.stationPos? i := fun i => by rw [State.stationPos?, h, State.stationPos?]
  simp only [State.carNear, station, position, carPos_congr h]

theorem stopWindow_congr {s t : State} (h : t.lgp = s.lgp) : t.stopWindow = s.stopWindow := by
  rw [State.stopWindow, h, State.stopWindow]

theorem windowStop_congr {s t : State} (h : t.lgp = s.lgp) : t.windowStop = s.windowStop := by
  have within : t.inStop = s.inStop := funext fun k => by
    simp only [State.inStop, carNear_congr h, stopWindow_congr h, h]
  rw [State.windowStop, State.windowStop, within, stations_congr (congrArg Lgp.line h)]

theorem stop_congr {s t : State} (h : t.lgp = s.lgp) : t.stop = s.stop := by
  rw [State.stop, State.stop, State.overtravelled, State.overtravelled, windowStop_congr h, h]

/-- The complete pair is a matter of the line and of the presence fields. -/
theorem completePair_congr {s t : State} (hl : t.lgp.line = s.lgp.line) (hp : t.lgp.presence = s.lgp.presence) :
    t.completePair = s.completePair := by
  have same : t.pairComplete = s.pairComplete := funext fun k => by
    simp only [State.pairComplete, stations_congr hl, hp]
  rw [State.completePair, State.completePair, same, stations_congr hl]

/-! ### The heading and the entry to PARKED (03 R46, R56) -/

/-- The heading that stop k gives (03 R46). -/
theorem headFrom_hc (k : Nat) (s : State) : (headFrom k s).hc = { s.hc with
    heading := if k = 0 then .up else if k + 1 = s.stations then .down else s.hc.heading } := by
  simp only [headFrom]
  split_ifs <;> rfl

theorem followHeading_hc (s : State) : ∃ d, (followHeading s).hc = { s.hc with heading := d } := by
  simp only [followHeading]
  split
  · exact ⟨s.hc.heading, rfl⟩
  · exact ⟨_, headFrom_hc _ _⟩

/-- The heading of a haul that is PARKED at a stop (03 R46). -/
theorem followHeading_at {s : State} {k : Nat} (hp : s.hc.haul = .parked) (hk : s.stop = some k) :
    followHeading s = headFrom k s := by
  simp only [followHeading, State.parkedStop, if_pos hp, hk]

theorem parkedCycle_hc (held : Bool) (s : State) : ∃ y, (parkedCycle held s).hc = { s.hc with cycle := y } := by
  simp only [parkedCycle]
  split
  · exact ⟨_, rfl⟩
  · exact ⟨s.hc.cycle, rfl⟩

theorem park_hc (s : State) : (park s).hc = { s.hc with haul := .parked, drive := .holding } := by simp [park]

/-- The brake for which an apply request is made is APPLYING or APPLIED (04 R66). -/
theorem applied_applies (b : Brake) (now : Nat) (r : BrakeRec) :
    (r.applied b now).state = .applying ∨ (r.applied b now).state = .applied := by
  cases h : r.state <;> simp [BrakeRec.applied, h]

theorem park_brakes (s : State) : ((park s).bl.brakes.fst.state = .applying ∨ (park s).bl.brakes.fst.state = .applied) ∧
    (park s).bl.brakes.snd = s.bl.brakes.snd :=
  ⟨applied_applies _ _ _, rfl⟩

/-! ### Arrival (03 R56) -/

theorem arrive_hc (k : Nat) (s : State) : (arrive k s).hc = { s.hc with
    haul := .parked, drive := .holding,
    trip := { s.hc.trip with state := .completed, cause := some .arrival },
    carLine := ⟨{ s.hc.carLine.fst with requests := without (s.stationOf .a k) s.hc.carLine.fst.requests },
      { s.hc.carLine.snd with requests := without (s.stationOf .b k) s.hc.carLine.snd.requests }⟩,
    arrivalDue := decide (s.mau.mode = .automatic),
    heading := if k = 0 then .up else if k + 1 = s.stations then .down else s.hc.heading } := by
  have line : ∀ f, ((park s).modHc f).lgp.line = s.lgp.line := fun f => by simp
  simp only [arrive, headFrom_hc, stations_congr (line _), modHc_hc, park_hc]

theorem arrive_bl (k : Nat) (s : State) : (arrive k s).bl = (park s).bl := by simp [arrive]

theorem mem_without (x y : Nat) (l : List Nat) : y ∈ without x l ↔ y ≠ x ∧ y ∈ l := by
  simp [without, and_comm]

/-- An arrival serves the requests of the stations of its stop. -/
theorem arrive_requests (k : Nat) (s : State) (c : Car) (j : Nat) :
    j ∈ ((arrive k s).hc.carLine.car c).requests ↔ j ≠ s.stationOf c k ∧ j ∈ (s.hc.carLine.car c).requests := by
  rw [arrive_hc]
  cases c <;> exact mem_without _ _ _

/-! ### A miss (03 R57) -/

/-- A miss parks the haul and abandons its trip. -/
theorem overrun_hc (s : State) : ∃ d y, (overrun s).hc = { s.hc with
    haul := .parked, drive := .holding, heading := d, cycle := y,
    trip := { s.hc.trip with state := .abandoned, cause := some .overrun } } := by
  obtain ⟨d, heading⟩ := followHeading_hc (park s)
  obtain ⟨y, cycle⟩ := parkedCycle_hc false (abandonTrip .overrun (followHeading (park s)))
  refine ⟨d, y, ?_⟩
  rw [overrun, cycle, abandonTrip_hc, heading, park_hc]

/-- A miss beyond a second approach raises STOP_OVERRUN of the car that misses; the haul is PARKED by then, so
nothing else follows from the raise. -/
theorem missStop_ends {s : State} {t : TripRec} {k : Nat} {d : Int} (hd : s.targetDistance t = some d)
    (h : d ≤ (s.stopWindow : Int) ∨ (s.stopWindow : Int) + 1000 < d ∨ t.reapproach = true) :
    missStop t k s = (overrun s).modFt (FaultTable.raised ⟨.stopOverrun,
      if s.carNear .a k s.stopWindow = true ∧ s.lgp.presence.fst = some k then 1 else 0⟩ s.tt.clock) := by
  have far : ¬((s.stopWindow : Int) < d ∧ d ≤ (s.stopWindow : Int) + 1000 ∧ t.reapproach = false) := by
    rintro ⟨low, high, first⟩
    rcases h with h | h | h
    · omega
    · omega
    · simp [first] at h
  have parked : (overrun s).haulStands := by
    obtain ⟨_, _, hc⟩ := overrun_hc s
    rw [State.haulStands, hc]
    exact .inl rfl
  have subject : (if s.failsAt .a k = true then 0 else 1) =
      if s.carNear .a k s.stopWindow = true ∧ s.lgp.presence.fst = some k then 1 else 0 := by
    cases hn : s.carNear .a k s.stopWindow <;> by_cases hp : s.lgp.presence.fst = some k <;>
      simp [State.failsAt, State.stationOf, Two.car, hn, hp]
  simp only [missStop, hd, Option.getD_some, if_neg far, subject]
  rw [raise_stands (by simp [FaultCode.cls, FaultCode.number]) parked, overrun_tt]

/-- A miss close ahead of the target is approached a second time. -/
theorem missStop_again {s : State} {t : TripRec} {d : Int} (k : Nat) (hd : s.targetDistance t = some d)
    (low : (s.stopWindow : Int) < d) (high : d ≤ (s.stopWindow : Int) + 1000) (first : t.reapproach = false) :
    missStop t k s = { s with hc := { s.hc with
      ramp := 0, trip := { s.hc.trip with rec? := some { t with reapproach := true } } } } := by
  simp only [missStop, hd, Option.getD_some, low, high, first, and_self, if_true]
  rfl

/-! ### Standstill of the haul (03 R56, 04 R77) -/

/-- What an approach with a target does at standstill (03 R56 to R58). -/
theorem haulAtStandstill_approach {s : State} {t : TripRec} {k : Nat} (ha : s.hc.haul = .approach)
    (ht : s.hc.trip.rec? = some t) (hk : t.target = some k) : haulAtStandstill s =
      if s.hc.unreferencedTrip = true then (if s.pairComplete k = true then arrive k s else overrun s)
      else if s.windowStop = some k ∧ s.pairComplete k = true then arrive k s else missStop t k s := by
  simp only [haulAtStandstill, ha, judgeArrival, ht, hk]

/-- An approach made with a reference that is off its target's window or lacks its pair misses its stop (03 R57). -/
theorem haulAtStandstill_misses {s : State} {t : TripRec} {k : Nat} (ha : s.hc.haul = .approach)
    (ht : s.hc.trip.rec? = some t) (hk : t.target = some k) (ref : s.hc.unreferencedTrip = false)
    (missed : s.windowStop ≠ some k ∨ s.pairComplete k = false) : haulAtStandstill s = missStop t k s := by
  rw [haulAtStandstill_approach ha ht hk, if_neg (by simp [ref]), if_neg]
  rintro ⟨atStop, pair⟩
  rcases missed with elsewhere | incomplete
  · exact elsewhere atStop
  · simp [pair] at incomplete

theorem haulAtStandstill_idle {s : State} (ha : s.hc.haul ≠ .approach) (hs : s.hc.haul ≠ .stopping) :
    haulAtStandstill s = s := by
  cases h : s.hc.haul with
  | approach => exact absurd h ha
  | stopping => exact absurd h hs
  | _ => simp only [haulAtStandstill, h]

/-- A service stop with its haul PARKED and its stop record gone (04 R77). -/
def stopParked (r : StopRec) (s : State) : State :=
  (if r.stage = 1 then park s else setHaul .parked s).modBl fun l => { l with stop := none }

theorem stopParked_lgp (r : StopRec) (s : State) : (stopParked r s).lgp = s.lgp := by
  simp only [stopParked]
  split <;> simp

theorem stopParked_haul (r : StopRec) (s : State) : (stopParked r s).hc.haul = .parked ∧
    (stopParked r s).hc.heading = s.hc.heading := by
  simp only [stopParked]
  split <;> exact ⟨rfl, rfl⟩

/-- The end of a service stop parks the haul, follows the heading, and ends the trip by the cause of the stop
(04 R77). -/
theorem haulAtStandstill_stopping {s : State} {r : StopRec} (hs : s.hc.haul = .stopping) (hr : s.bl.stop = some r) :
    ∃ y trip, (haulAtStandstill s).hc = { (followHeading (stopParked r s)).hc with cycle := y, trip := trip } ∧
      (haulAtStandstill s).bl = (stopParked r s).bl ∧
      (r.cause = .hold → trip.state = .suspended ∧ trip.cause = some .hold) ∧
      ∀ c, r.cause = .fault c → trip.state = .abandoned ∧ trip.cause = some (.fault c) := by
  have ends : haulAtStandstill s = parkedCycle false (match r.cause with
      | .hold => (followHeading (stopParked r s)).modHc fun h => { h with
          trip := { h.trip with state := .suspended, cause := some .hold } }
      | .fault c => abandonTrip (.fault c) (followHeading (stopParked r s))) := by
    simp only [haulAtStandstill, hs, endStop, hr]
    rfl
  rw [ends]
  cases r.cause with
  | hold =>
    obtain ⟨y, hc⟩ := parkedCycle_hc false ((followHeading (stopParked r s)).modHc fun h => { h with
      trip := { h.trip with state := .suspended, cause := some .hold } })
    exact ⟨y, _, hc, by simp, fun _ => ⟨rfl, rfl⟩, fun c h => absurd h (by simp)⟩
  | fault c =>
    obtain ⟨y, hc⟩ := parkedCycle_hc false (abandonTrip (.fault c) (followHeading (stopParked r s)))
    rw [abandonTrip_hc] at hc
    refine ⟨y, _, hc, by simp, fun h => absurd h (by simp), fun c' h => ⟨rfl, ?_⟩⟩
    rw [StopCause.fault.inj h]

/-- The heading of a service stop that ends at a stop (03 R46). -/
theorem stopParked_heading {s : State} {k : Nat} (r : StopRec) (hk : s.stop = some k) :
    (followHeading (stopParked r s)).hc.heading =
      if k = 0 then .up else if k + 1 = s.stations then .down else s.hc.heading := by
  have parked := stopParked_haul r s
  rw [followHeading_at parked.1 ((stop_congr (stopParked_lgp r s)).trans hk), headFrom_hc, parked.2,
    State.stations, State.stations, stopParked_lgp]

end Sys2Proof.Machine
end

section

namespace Sys2Proof.Machine

/-! ### Referencing (01 R9 to R11) -/

theorem evaluateReferencing_idle_of {s : State} (h : s.standstill = false ∨ s.completePair = none) :
    evaluateReferencing s = s := by
  rcases h with h | h <;> simp [evaluateReferencing, h]

/-- Referencing at a standstill with a complete pair, by the position state (01 R9, R10). -/
theorem evaluateReferencing_at {s : State} {k : Nat} (hs : s.standstill = true) (hk : s.completePair = some k) :
    evaluateReferencing s = match s.lgp.position with
      | .unknown => referenceAt k s
      | .referenced => if s.disagreeing k = [] then referenceAt k s else doubt (s.disagreeing k) s
      | .doubtful => if s.lgp.freshNeeded then s else referenceAt k s := by
  simp only [evaluateReferencing, hs, hk, if_true]
  cases s.lgp.position with
  | unknown => rfl
  | referenced => cases s.disagreeing k <;> rfl
  | doubtful => rfl

theorem mem_disagreeing (s : State) (k : Nat) (c : Car) :
    c ∈ s.disagreeing k ↔ s.carNear c k s.lgp.corrLimit = false := by
  cases c <;> simp [State.disagreeing, List.mem_filter]

theorem disagreeing_nodup (s : State) (k : Nat) : (s.disagreeing k).Nodup :=
  List.Nodup.filter _ (by decide)

/-- The slots of POSITION_DISAGREE after it was raised once for each car of a list. -/
theorem disagreeRaised_slot (clock : Nat) (c : Car) : ∀ (cs : List Car) (t : FaultTable), cs.Nodup →
    t.slots.length = 69 → (disagreeRaised clock cs t).slot ⟨.positionDisagree, c.index⟩ =
      if c ∈ cs then (t.raised ⟨.positionDisagree, c.index⟩ clock).slot ⟨.positionDisagree, c.index⟩
      else t.slot ⟨.positionDisagree, c.index⟩
  | [], _, _, _ => rfl
  | x :: xs, t, hn, hl => by
    obtain ⟨fresh, nodup⟩ := List.nodup_cons.mp hn
    have rest := disagreeRaised_slot clock c xs (t.raised ⟨.positionDisagree, x.index⟩ clock) nodup (by simpa using hl)
    by_cases hx : c = x
    · subst hx
      rw [if_neg fresh] at rest
      rw [if_pos (List.mem_cons_self ..)]
      exact rest
    · have key : (⟨.positionDisagree, c.index⟩ : FaultKey) ≠ ⟨.positionDisagree, x.index⟩ := by
        cases c <;> cases x <;> first | exact absurd rfl hx | decide
      have kept := slot_raised_other t clock (disagreeKey_mem c) (disagreeKey_mem x) key
      rw [slot_raised_same _ _ (disagreeKey_mem c) (by simpa using hl), kept,
        ← slot_raised_same t clock (disagreeKey_mem c) hl] at rest
      simpa only [disagreeRaised, List.foldl_cons, List.mem_cons, hx, false_or] using rest

/-- A referenced line whose cars lie within the correction limit is referenced again (01 R10). -/
theorem evaluateReferencing_agrees {s : State} {k : Nat} (hs : s.standstill = true) (hk : s.completePair = some k)
    (hp : s.lgp.position = .referenced) (near : ∀ c, s.carNear c k s.lgp.corrLimit = true) :
    evaluateReferencing s = referenceAt k s := by
  rw [evaluateReferencing_at hs hk, hp]
  refine if_pos (List.eq_nil_iff_forall_not_mem.mpr fun c member => ?_)
  rw [mem_disagreeing, near c] at member
  cases member

/-- A disagreement at a standstill with a complete pair: LGP, the trip of the haul, and the slots (01 R11). -/
theorem evaluateReferencing_disagrees {s : State} {k : Nat} {c : Car} (hs : s.standstill = true)
    (hk : s.completePair = some k) (hp : s.lgp.position = .referenced)
    (hc : s.carNear c k s.lgp.corrLimit = false) :
    evaluateReferencing s = doubt (s.disagreeing k) s ∧ (doubt (s.disagreeing k) s).hc.haul = .tripped := by
  have member := (mem_disagreeing s k c).2 hc
  have some_car : s.disagreeing k ≠ [] := List.ne_nil_of_mem member
  refine ⟨?_, ?_⟩
  · rw [evaluateReferencing_at hs hk, hp]
    exact if_neg some_car
  · obtain ⟨x, xs, hx⟩ := List.exists_cons_of_ne_nil some_car
    rw [hx]
    exact doubt_tripped x xs s

/-- The line as the reference at stop k sets it, before windows and overtravel are judged (01 R9). -/
def State.placedAt (s : State) (k : Nat) : State :=
  (if s.referenceCorr k = s.lgp.corr then s else mark (.car .b) (mark (.car .a) s)).modLgp fun g => { g with
    p := (s.stationPos k : Int) * s.driveCpm, corr := s.referenceCorr k, position := .referenced,
    freshNeeded := false }

theorem referenceAt_eq (s : State) (k : Nat) : referenceAt k s =
    judgeOvertravel .b (judgeOvertravel .a (freshWatches (leaveWindow .b (leaveWindow .a (s.placedAt k))))) := rfl

theorem placedAt_lgp (s : State) (k : Nat) : (s.placedAt k).lgp = { s.lgp with
    p := (s.stationPos k : Int) * s.driveCpm, corr := s.referenceCorr k, position := .referenced,
    freshNeeded := false } := by
  simp only [State.placedAt]
  split <;> simp

theorem placedAt_blocks (s : State) (k : Nat) :
    (s.placedAt k).ft = s.ft ∧ (s.placedAt k).hc = s.hc ∧ (s.placedAt k).bl = s.bl := by
  simp only [State.placedAt]
  split <;> simp

/-- The watches after a reference name the windows in which the cars stand (01 R16). -/
theorem referenceAt_watch (s : State) (k : Nat) (c : Car) :
    (referenceAt k s).lgp.watch.car c = (referenceAt k s).standingWatch c := by
  rw [referenceAt_eq]
  generalize leaveWindow .b (leaveWindow .a (s.placedAt k)) = q
  rw [judgeOvertravel_watch, judgeOvertravel_watch, freshWatches_watch]
  exact (standingWatch_still (judgeOvertravels_still (freshWatches q)) c).symm

/-! ### The end of a quiet interval (02 R22, R23) -/

theorem quiet_eq (e : Encoder) (s : State) : quiet e s =
    if (modSpeed e SpeedChannel.silence s).standstill = true then beginStandstill (modSpeed e SpeedChannel.silence s)
    else modSpeed e SpeedChannel.silence s := rfl

theorem quiet_stu (e : Encoder) (s : State) : (quiet e s).stu = (modSpeed e SpeedChannel.silence s).stu := by
  rw [quiet_eq]
  split <;> simp

/-- Standstill begins with the silence of a channel when the other one is quiet already. -/
theorem silence_standstill {s : State} {e : Encoder}
    (h : ∀ e', e' ≠ e → (s.stu.speed.encoder e').quiet = true) :
    (modSpeed e SpeedChannel.silence s).standstill = true := by
  cases e with
  | drive => exact (Bool.true_and _).trans (h .sheave (by decide))
  | sheave => exact (Bool.and_true _).trans (h .drive (by decide))

/-- A line that is UNKNOWN is referenced at the stop of its complete pair as standstill begins (01 R9). -/
theorem beginStandstill_references {s : State} {k : Nat} (hs : s.standstill = true) (hk : s.completePair = some k)
    (hp : s.lgp.position = .unknown) : (beginStandstill s).lgp.position = .referenced ∧
      (beginStandstill s).lgp.p = (s.stationPos k : Int) * s.driveCpm := by
  generalize hq : (haulAtStandstill s).modLgp (fun g => { g with freshNeeded := false }) = q
  have lgp : q.lgp = { s.lgp with freshNeeded := false } := by simp [← hq]
  have stu : q.stu = s.stu := by simp [← hq]
  have pair : q.completePair = some k := (completePair_congr (by rw [lgp]) (by rw [lgp])).trans hk
  have still : q.standstill = true := by rw [State.standstill, stu]; exact hs
  have referenced : evaluateReferencing q = referenceAt k q := by
    rw [evaluateReferencing_at still pair, lgp, hp]
  have line : q.lgp.line = s.lgp.line := by rw [lgp]
  have place : q.stationPos k = s.stationPos k := by
    rw [State.stationPos, State.stationPos?, line, State.stationPos, State.stationPos?]
  have cpm : q.driveCpm = s.driveCpm := by rw [State.driveCpm, line, State.driveCpm]
  rw [beginStandstill, hq, judgeMovement_lgp, referenced]
  refine ⟨(congrArg Lgp.position (referenceAt_still q k) :), ?_⟩
  rw [referenceAt_p, place, cpm]

/-- The end of the last quiet interval references an UNKNOWN line at the stop of its complete pair (01 R9). -/
theorem quiet_references {s : State} {e : Encoder} {u k : Nat}
    (others : ∀ e', e' ≠ e → (s.stu.speed.encoder e').quiet = true) (pair : s.completePair = some k)
    (unknown : s.lgp.position = .unknown) : (quiet e (passUntil u s)).lgp.position = .referenced ∧
      (quiet e (passUntil u s)).lgp.p = (s.stationPos k : Int) * s.driveCpm := by
  have speed : (passUntil u s).stu.speed = s.stu.speed := passTime_speed s _
  have lgp : (modSpeed e SpeedChannel.silence (passUntil u s)).lgp = s.lgp := by simp [passUntil]
  have still := silence_standstill (s := passUntil u s) (e := e) (by rw [speed]; exact others)
  have referenced := beginStandstill_references still
    ((completePair_congr (by rw [lgp]) (by rw [lgp])).trans pair) (by rw [lgp]; exact unknown)
  rw [State.stationPos, State.stationPos?, State.driveCpm, lgp] at referenced
  rw [quiet_eq, if_pos still]
  exact referenced

/-! ### Presence inputs (01 R4) -/

theorem presenceNamed_iff (s : State) (i : Nat) :
    s.presenceNamed i = true ↔ ∃ r, s.lgp.line = some r ∧ ∃ x ∈ r.table, x.sensor = i := by
  simp only [State.presenceNamed]
  cases s.lgp.line <;> simp

theorem presence_named {s : State} {i : Nat} (v : PresenceReport) (h : s.presenceNamed i = true) :
    presence i v s = judgeMovement s (evaluateReferencing (judgePairSeen s.completePair (formPresences
      { s with lgp := { s.lgp with presenceIn := updateAt i (fun _ => v) s.lgp.presenceIn } }))) := by
  rw [presence, if_pos h]
  rfl

theorem presence_unnamed {s : State} {i : Nat} (v : PresenceReport) (h : ¬ s.presenceNamed i = true) :
    presence i v s = { s with lgp := { s.lgp with presenceIn := updateAt i (fun _ => v) s.lgp.presenceIn } } := by
  rw [presence, if_neg h]
  rfl

/-- What the presence of a car is formed from (01 R4). -/
theorem formPresence_of {s t : State} (hl : t.lgp.line = s.lgp.line) (hi : t.lgp.presenceIn = s.lgp.presenceIn)
    (c : Car) : t.formPresence c = s.formPresence c := by
  simp only [State.formPresence, hl, hi]

/-- What an input that a station names leaves in the inputs, the presence fields and the line (01 R4). -/
theorem presence_fields {s : State} {i : Nat} (v : PresenceReport) (h : s.presenceNamed i = true) :
    (presence i v s).lgp.presenceIn = updateAt i (fun _ => v) s.lgp.presenceIn ∧
      (presence i v s).lgp.presence = ⟨(presence i v s).formPresence .a, (presence i v s).formPresence .b⟩ ∧
      (presence i v s).lgp.line = s.lgp.line := by
  have formed := presence_named v h
  generalize hp : ({ s with lgp := { s.lgp with
    presenceIn := updateAt i (fun _ => v) s.lgp.presenceIn } } : State) = p at formed
  have tables : (presence i v s).lgp.tables = (formPresences p).lgp.tables := by
    rw [formed, judgeMovement_lgp, evaluateReferencing_tables, judgePairSeen_lgp]
  have inputs : (presence i v s).lgp.presenceIn = p.lgp.presenceIn := (congrArg Lgp.presenceIn tables :)
  have line : (presence i v s).lgp.line = p.lgp.line := (congrArg Lgp.line tables :)
  refine ⟨by rw [inputs, ← hp], ?_, by rw [line, ← hp]⟩
  rw [formPresence_of line inputs, formPresence_of line inputs]
  exact (congrArg Lgp.presence tables :)

/-- A pair completed for an unreferenced trip that looks for one (03 R58). -/
theorem judgePairSeen_sees {before : Option Nat} {s : State} {tr : TripRec} {k : Nat}
    (ht : s.hc.trip.rec? = some tr) (hk : s.completePair = some k) (hr : s.hc.haul = .running)
    (hu : s.hc.unreferencedTrip = true) (hn : tr.target = none) (hb : before ≠ some k) :
    judgePairSeen before s = { s with hc := { s.hc with
      haul := .approach, trip := { s.hc.trip with rec? := some { tr with target := some k } } } } := by
  simp only [judgePairSeen, ht, hk]
  exact if_pos ⟨hr, hu, hn, hb⟩

theorem judgePairSeen_idle {before : Option Nat} {s : State}
    (h : s.hc.haul ≠ .running ∨ s.hc.unreferencedTrip = false ∨ s.completePair = none) :
    judgePairSeen before s = s := by
  simp only [judgePairSeen]
  split
  · refine if_neg ?_
    rintro ⟨hr, hu, -, -⟩
    simp_all
  · rfl

end Sys2Proof.Machine
end

section

namespace Sys2Proof.Machine

/-- Settles O47: each clause is the case of a lemma above; the ends of a trip and of a service stop are read off what
they leave in HC. -/
theorem quietChannelsAndPresenceInputsReference : Obligations.QuietChannelsAndPresenceInputsReference := by
  intro s
  refine ⟨fun e u hu => ?_, rfl, fun t k ha ht hk => ?_, fun k => ?_, fun r hs hr => ?_, haulAtStandstill_idle,
    evaluateReferencing_idle_of, fun k hs hk => ?_, fun k t ht => ?_, fun i v => ⟨fun same => ?_, fun changed => ?_⟩⟩
  · refine ⟨quiet e (passUntil u s), ?_, ?_, ?_, fun q hq => ⟨fun still => ?_, fun moves => ?_⟩,
      fun k others pair unknown => ?_⟩
    · show Host.Outcome.next (expire (s.stu.speed.encoder e).quietDue (quiet e) s) = _
      rw [hu]
      rfl
    · rw [outer_now (quiet_outer _ e), passUntil, passTime_now]
      omega
    · rw [quiet_stu, modSpeed_same, passUntil, passTime_speed]
      rfl
    · rw [quiet_eq, ← hq, if_pos still]
    · rw [quiet_eq, ← hq, if_neg (by simp [moves])]
    · exact quiet_references others pair unknown
  · have judged := haulAtStandstill_approach ha ht hk
    obtain ⟨d, y, parked⟩ := overrun_hc s
    refine ⟨fun unref => ?_, fun ref => ⟨fun atStop pair => ?_, fun missed d hd =>
      ⟨fun low high first => ?_, fun ends => ?_⟩⟩⟩
    · rw [if_pos unref] at judged
      refine ⟨fun pair => by rw [judged, if_pos pair], fun nopair => ?_⟩
      rw [judged, if_neg (by simp [nopair])]
      exact ⟨by rw [parked], by rw [parked], by rw [parked], overrun_ft s⟩
    · rw [judged, if_neg (by simp [ref]), if_pos ⟨atStop, pair⟩]
    · rw [haulAtStandstill_misses ha ht hk ref missed, missStop_again k hd low high first]
    · rw [haulAtStandstill_misses ha ht hk ref missed, missStop_ends hd ends]
      simp only [modFt_hc, modFt_ft, parked, overrun_ft, and_self]
  · have brakes := park_brakes s
    rw [← arrive_bl k] at brakes
    refine ⟨?_, ?_, ?_, ?_, ?_, brakes.1, brakes.2, arrive_ft s k, ?_, arrive_requests k s⟩ <;> rw [arrive_hc]
    exact decide_eq_true_iff
  · obtain ⟨y, trip, hc, bl, held, failed⟩ := haulAtStandstill_stopping hs hr
    obtain ⟨d, heading⟩ := followHeading_hc (stopParked r s)
    refine ⟨?_, by rw [bl]; rfl, ?_, fun k hk => ?_, fun stage => ?_, ?_, ?_⟩
    · rw [hc, heading]
      exact (stopParked_haul r s).1
    · simp [haulAtStandstill, hs]
    · rw [hc]
      exact stopParked_heading r hk
    · rw [bl, stopParked, if_pos stage]
      exact (park_brakes s).1
    · rw [hc]
      exact held
    · rw [hc]
      exact failed
  · have judged := evaluateReferencing_at hs hk
    refine ⟨fun unknown => ?_, fun doubtful stale => ?_, fun doubtful fresh => ?_, fun referenced =>
      ⟨fun near => ?_, fun ⟨c, far⟩ t ht => ?_⟩⟩
    · rw [judged, unknown]
    · rw [judged, doubtful]
      exact if_neg (by simp [stale])
    · rw [judged, doubtful]
      exact if_pos fresh
    · exact evaluateReferencing_agrees hs hk referenced near
    · obtain ⟨doubts, tripped⟩ := evaluateReferencing_disagrees hs hk referenced far
      rw [ht, doubts]
      refine ⟨by rw [doubt_lgp, hk, hs]; rfl, tripped, fun slots c' => ?_⟩
      rw [doubt_ft, disagreeRaised_slot _ _ _ _ (disagreeing_nodup s k) slots]
      cases near : s.carNear c' k s.lgp.corrLimit <;> simp [mem_disagreeing, near]
  · subst ht
    have still := referenceAt_still s k
    have corr : (referenceAt k s).lgp.corr = s.referenceCorr k := (congrArg Lgp.corr still :)
    obtain ⟨ft, hc, bl⟩ := placedAt_blocks s k
    refine ⟨referenceAt_p s k, corr, (congrArg Lgp.position still :), (congrArg Lgp.freshNeeded still :),
      referenceAt_line s k, ⟨s.placedAt k, ?_, ft, hc, bl, referenceAt_eq s k⟩, referenceAt_watch s k⟩
    rw [placedAt_lgp, referenceAt_p, corr]
  · show execPresenceChange i v s = _
    rw [execPresenceChange, if_pos same]
  · have happens : Happens (.presenceChange i v) s (presence i.val v s) := by
      show execPresenceChange i v s = _
      rw [execPresenceChange, if_neg changed]
      rfl
    refine ⟨fun unnamed => ?_, fun named => ⟨_, happens, ?_⟩⟩
    · have absent : ¬ s.presenceNamed i.val = true := by
        rw [presenceNamed_iff]
        rintro ⟨r, hr, x, hx, hi⟩
        exact unnamed r hr x hx hi
      rw [presence_unnamed v absent] at happens
      exact happens
    · have isNamed := (presenceNamed_iff s i.val).2 named
      obtain ⟨inputs, fields, line⟩ := presence_fields v isNamed
      exact ⟨inputs, fields, line, fun q hq => ⟨by rw [hq]; exact presence_named v isNamed, fun tr htr =>
        ⟨fun k hk hr hu hn hb => judgePairSeen_sees htr hk hr hu hn hb, judgePairSeen_idle⟩⟩⟩

end Sys2Proof.Machine
end

section

namespace Sys2Proof.Machine

/-! ### Expiries (log 3) -/

/-- Time moves on to the end of an interval that is still to come (log 3). -/
theorem passUntil_now (u : Nat) (s : State) : (passUntil u s).now = max s.now u := by
  rw [passUntil, passTime_now]
  omega

/-- The command of an expiry that runs is an event at the end of its interval (log 3). -/
theorem happens_expire {i : Instr} {due : Option Nat} {f : State → State} {s : State} {u : Nat}
    (hx : exec i s = .next (expire due f s)) (hu : due = some u) : Happens i s (f (passUntil u s)) := by
  rw [Happens, hx, hu]
  rfl

/-! ### The tension channels (02 section 2.2) -/

/-- The channel of a change of it. -/
@[simp] theorem modTension_same (c : Chan) (f : TensionChannel → TensionChannel) (s : State) :
    (modTension c f s).stu.tension.chan c = f (s.stu.tension.chan c) := by cases c <;> rfl

/-- A restarted channel: a VALID one is FILLING, and the missing-conversion interval starts unless the channel is
SILENT (02 R28, R30, R31, R35). -/
theorem restarted_eq (mode : LineMode) (now : Nat) (ch : TensionChannel) : ch.restarted mode now = { ch with
    window := [], average := none, outside := 0,
    state := if ch.state = .valid then .filling else ch.state,
    missingDue := if ch.state = .silent then none
      else some (now + 4000000 / (if mode = .off then 5 else ch.rate)) } := by
  rw [TensionChannel.restarted]
  cases h : ch.state <;> rfl

/-- TENSION_SET in range gives each channel its settings and restarts it, and STU is configured (02 R28, R35). -/
theorem setTension_accepted {one two : TensionSettings} (s : State)
    (h : (tensionOk one && tensionOk two) = true) : setTension one two s = done { s with
      stu := { s.stu with tension :=
        ⟨(s.stu.tension.fst.configured one).restarted s.mau.mode s.now,
          (s.stu.tension.snd.configured two).restarted s.mau.mode s.now⟩ },
      mau := { s.mau with config := { s.mau.config with tension := true } } } := by
  rw [setTension, if_pos h]
  rfl

/-- Settles O25: the check of the owner, and the channels that it configures and restarts. -/
theorem tensionSetRestartsBothChannels : Obligations.TensionSetRestartsBothChannels := by
  rintro s q h one two rfl hp
  refine ⟨fun bad => refusedWith_of_own rfl rfl hp ?_, fun good => ?_⟩
  · simp [own, setTension, bad]
  · refine ⟨_, doneWith_of_own rfl rfl hp (setTension_accepted _ good), rfl, fun c x hx => ?_⟩
    subst hx
    cases c
    · exact restarted_eq _ _ _
    · exact restarted_eq _ _ _

/-! ### Conversions (02 R29 to R33, R35) -/

/-- An end-of-scale conversion faults its channel (02 R32). -/
theorem convert_endOfScale {c : Chan} {raw : Nat} (s : State) (h : raw = 0 ∨ raw = 65535) :
    (convert c raw s).stu.tension.chan c = { s.stu.tension.chan c with
        window := [], average := none, outside := 0, state := .recovering,
        latest := some (raw, (s.stu.tension.chan c).reading raw),
        missingDue := some (s.now + missingInterval (rateInForce s.mau.mode (s.stu.tension.chan c))) } ∧
      (convert c raw s).ft = s.ft.raised ⟨.tensionChannelFault, c.index⟩ s.tt.clock := by
  rw [convert, if_pos h, raise_stu, modTension_same, raise_ft, modTension_ft, modTension_tt]
  exact ⟨rfl, rfl⟩

/-- A missing conversion faults its channel, which becomes SILENT (02 R31, R32). -/
theorem conversionMissing_eq (c : Chan) (s : State) :
    (conversionMissing c s).stu.tension.chan c = { s.stu.tension.chan c with
        window := [], average := none, outside := 0, state := .silent, missingDue := none } ∧
      (conversionMissing c s).ft = s.ft.raised ⟨.tensionChannelFault, c.index⟩ s.tt.clock := by
  rw [conversionMissing, raise_stu, modTension_same, raise_ft, modTension_ft, modTension_tt]
  exact ⟨rfl, rfl⟩

/-- The window of a channel after a reading: the last N readings (02 R29). -/
def TensionChannel.slid (ch : TensionChannel) (x : Int) : List Int :=
  (ch.window ++ [x]).drop (ch.window.length + 1 - ch.size)

/-- A reading that fills the window makes the channel VALID with the average of the window (02 R30). -/
theorem good_full {ch : TensionChannel} {raw : Nat} (due : Nat)
    (h : ch.size ≤ (ch.slid (ch.reading raw)).length) : ch.good raw due = { ch with
      window := ch.slid (ch.reading raw), latest := some (raw, ch.reading raw), missingDue := some due,
      average := some (roundDiv (ch.slid (ch.reading raw)).sum ch.size), state := .valid } := by
  have full : ch.size ≤ ((ch.window ++ [ch.reading raw]).drop (ch.window.length + 1 - ch.size)).length := h
  simp only [TensionChannel.good, TensionChannel.slid, full, decide_true, if_true]

/-- A reading that does not fill the window leaves the channel without an average, and RECOVERING when it was
SILENT (02 R30, R32). -/
theorem good_short {ch : TensionChannel} {raw : Nat} (due : Nat)
    (h : (ch.slid (ch.reading raw)).length < ch.size) : ch.good raw due = { ch with
      window := ch.slid (ch.reading raw), latest := some (raw, ch.reading raw), missingDue := some due,
      average := none, state := if ch.state = .silent then .recovering else ch.state } := by
  have short : ¬ ch.size ≤ ((ch.window ++ [ch.reading raw]).drop (ch.window.length + 1 - ch.size)).length :=
    Nat.not_le.2 h
  simp only [TensionChannel.good, TensionChannel.slid, short, decide_false, Bool.false_eq_true, if_false]
  cases hs : ch.state <;> rfl

/-- The state in which the average of a full window is judged: the channel has its reading, and the condition of
TENSION_CHANNEL_FAULT has ended (02 R30, R32). -/
def State.filled (s : State) (c : Chan) (raw : Nat) : State :=
  endCondition ⟨.tensionChannelFault, c.index⟩ (modTension c (TensionChannel.good raw
    (s.now + missingInterval (rateInForce s.mau.mode (s.stu.tension.chan c)))) s)

/-- The average of a full window is judged by the standby limits in OFF and by the limits elsewhere
(02 R33, R35). -/
theorem convert_full {c : Chan} {raw : Nat} {s : State} {ch : TensionChannel} (hch : ch = s.stu.tension.chan c)
    (h0 : raw ≠ 0) (h1 : raw ≠ 65535) (h : ch.size ≤ (ch.slid (ch.reading raw)).length) :
    convert c raw s = if s.mau.mode = .off
      then judgeStandby c (roundDiv (ch.slid (ch.reading raw)).sum ch.size) (s.filled c raw)
      else judgeLimits c (roundDiv (ch.slid (ch.reading raw)).sum ch.size) (s.filled c raw) := by
  subst hch
  rw [convert, if_neg (by simp [h0, h1])]
  simp only [modTension_same, good_full _ h]
  rfl

/-- A reading that does not fill the window is taken and judged no further (02 R30). -/
theorem convert_short {c : Chan} {raw : Nat} {s : State} {ch : TensionChannel} (hch : ch = s.stu.tension.chan c)
    (h0 : raw ≠ 0) (h1 : raw ≠ 65535) (h : (ch.slid (ch.reading raw)).length < ch.size) :
    convert c raw s = modTension c (TensionChannel.good raw
      (s.now + missingInterval (rateInForce s.mau.mode ch))) s := by
  subst hch
  rw [convert, if_neg (by simp [h0, h1])]
  simp only [modTension_same, good_short _ h]

/-- The judgement by the limits writes the outside count and the limit condition of its channel alone
(02 R33). -/
theorem judgeLimits_channel (c : Chan) (avg : Int) (s : State) : ∃ n b,
    (judgeLimits c avg s).stu.tension.chan c
      = { s.stu.tension.chan c with outside := n, limitCondition := b } := by
  simp only [judgeLimits]
  (repeat' split)
  · exact ⟨_, _, rfl⟩
  · rw [endCondition_stu]
    exact ⟨_, _, modTension_same c _ s⟩
  · exact ⟨_, _, modTension_same c _ s⟩
  · rw [raise_stu]
    exact ⟨_, _, modTension_same c _ s⟩
  · exact ⟨_, _, modTension_same c _ s⟩

/-- An average within the limits ends the limit condition (02 R33). -/
theorem judgeLimits_within {c : Chan} {avg : Int} {s : State} {l : TensionLimits}
    (hl : (s.stu.tension.chan c).limits = some l) (h : withinKg l.min l.max avg = true) :
    judgeLimits c avg s = if (s.stu.tension.chan c).limitCondition
      then endCondition ⟨.ropeTensionLimit, c.index⟩
        (modTension c (fun x => { x with outside := 0, limitCondition := false }) s)
      else modTension c (fun x => { x with outside := 0, limitCondition := false }) s := by
  simp only [judgeLimits, hl, h, if_true]

/-- The first average outside the limits is counted (02 R33). -/
theorem judgeLimits_first {c : Chan} {avg : Int} {s : State} {l : TensionLimits}
    (hl : (s.stu.tension.chan c).limits = some l) (h : withinKg l.min l.max avg = false)
    (hn : (s.stu.tension.chan c).outside = 0) :
    judgeLimits c avg s = modTension c (fun x => { x with outside := 1 }) s := by
  simp [judgeLimits, hl, h, hn]

/-- The second average in a row outside the limits begins the limit condition and raises ROPE_TENSION_LIMIT
(02 R33). -/
theorem judgeLimits_begins {c : Chan} {avg : Int} {s : State} {l : TensionLimits}
    (hl : (s.stu.tension.chan c).limits = some l) (h : withinKg l.min l.max avg = false)
    (hn : 1 ≤ (s.stu.tension.chan c).outside) (hc : (s.stu.tension.chan c).limitCondition = false) :
    judgeLimits c avg s = raise ⟨.ropeTensionLimit, c.index⟩
      (modTension c (fun x => { x with outside := 2, limitCondition := true }) s) := by
  have second : min 2 ((s.stu.tension.chan c).outside + 1) = 2 := by omega
  simp [judgeLimits, hl, h, second, hc]

/-- The judgement by the standby limits: the flag says whether the average lies outside, and newly set it is a
wake event (02 R35, 09 R162). -/
theorem judgeStandby_eq {c : Chan} {avg : Int} {s : State} {l : TensionLimits}
    (hl : (s.stu.tension.chan c).limits = some l) :
    judgeStandby c avg s =
      if withinKg l.standbyMin l.standbyMax avg = false ∧ (s.stu.tension.chan c).standbyFlag = false
      then wake .tension (modTension c (fun x => { x with standbyFlag := true }) s)
      else modTension c (fun x => { x with standbyFlag := !(withinKg l.standbyMin l.standbyMax avg) }) s := by
  simp only [judgeStandby, hl]
  cases withinKg l.standbyMin l.standbyMax avg <;> cases (s.stu.tension.chan c).standbyFlag <;> rfl

/-- The judgement by the standby limits writes the standby flag of its channel alone (02 R35). -/
theorem judgeStandby_channel (c : Chan) (avg : Int) (s : State) : ∃ b,
    (judgeStandby c avg s).stu.tension.chan c = { s.stu.tension.chan c with standbyFlag := b } := by
  simp only [judgeStandby]
  (repeat' split)
  · exact ⟨_, rfl⟩
  · rw [wake_stu]
    exact ⟨_, modTension_same c _ s⟩
  · exact ⟨_, modTension_same c _ s⟩

end Sys2Proof.Machine
end

section

namespace Sys2Proof.Machine

section
variable {s : State} {c : Chan} {ch : TensionChannel} {raw : Nat}

@[simp] theorem filled_hc : (s.filled c raw).hc = s.hc := by simp [State.filled]
@[simp] theorem filled_bl : (s.filled c raw).bl = s.bl := by simp [State.filled]
@[simp] theorem filled_mau : (s.filled c raw).mau = s.mau := by simp [State.filled]
@[simp] theorem filled_tt : (s.filled c raw).tt = s.tt := by simp [State.filled]
@[simp] theorem filled_ft : (s.filled c raw).ft = s.ft.ended ⟨.tensionChannelFault, c.index⟩ := by
  simp [State.filled, endCondition]

/-- The channel with its reading. -/
theorem filled_channel (hch : ch = s.stu.tension.chan c) : (s.filled c raw).stu.tension.chan c
    = ch.good raw (s.now + missingInterval (rateInForce s.mau.mode ch)) := by
  rw [State.filled, endCondition_stu, modTension_same, hch]

/-- The judgement of an average leaves of its channel what the reading made it, the limit and standby flags and the
outside count apart (02 R33, R35). -/
theorem convert_full_channel (hch : ch = s.stu.tension.chan c) (h0 : raw ≠ 0) (h1 : raw ≠ 65535)
    (h : ch.size ≤ (ch.slid (ch.reading raw)).length) : ∃ n b f,
    (convert c raw s).stu.tension.chan c = { ch.good raw
      (s.now + missingInterval (rateInForce s.mau.mode ch)) with
        outside := n, limitCondition := b, standbyFlag := f } := by
  rw [convert_full hch h0 h1 h, ← filled_channel hch]
  split
  · obtain ⟨f, judged⟩ := judgeStandby_channel c (roundDiv (ch.slid (ch.reading raw)).sum ch.size) (s.filled c raw)
    exact ⟨_, _, f, judged⟩
  · obtain ⟨n, b, judged⟩ := judgeLimits_channel c (roundDiv (ch.slid (ch.reading raw)).sum ch.size) (s.filled c raw)
    exact ⟨n, b, _, judged⟩

end

/-! ### A reading that fills the window (02 R33, R35) -/

section
variable {s : State} {c : Chan} {ch : TensionChannel} {raw : Nat} {w : List Int} {l : TensionLimits}
  (hch : ch = s.stu.tension.chan c) (hw : w = ch.slid (ch.reading raw)) (h0 : raw ≠ 0) (h1 : raw ≠ 65535)
  (h : ch.size ≤ w.length) (hl : ch.limits = some l)
include hch hw h hl

/-- What a full window leaves of its channel to be judged. -/
theorem filled_fields : ((s.filled c raw).stu.tension.chan c).limits = some l ∧
    ((s.filled c raw).stu.tension.chan c).outside = ch.outside ∧
    ((s.filled c raw).stu.tension.chan c).limitCondition = ch.limitCondition ∧
    ((s.filled c raw).stu.tension.chan c).standbyFlag = ch.standbyFlag := by
  subst hw
  rw [filled_channel hch, good_full _ h]
  exact ⟨hl, rfl, rfl, rfl⟩

include h0 h1

/-- A second average in a row outside the limits trips the haul by ROPE_TENSION_LIMIT (02 R33). -/
theorem convert_second (hm : s.mau.mode ≠ .off) (out : withinKg l.min l.max (roundDiv w.sum ch.size) = false)
    (again : 1 ≤ ch.outside) (fresh : ch.limitCondition = false) :
    ((convert c raw s).stu.tension.chan c).limitCondition = true ∧ (convert c raw s).hc.haul = .tripped := by
  obtain ⟨limits, outside, condition, -⟩ := filled_fields hch hw h hl
  subst hw
  rw [convert_full hch h0 h1 h, if_neg hm, judgeLimits_begins limits out (outside ▸ again) (condition ▸ fresh)]
  refine ⟨?_, raise_emergency_tripped _ rfl⟩
  rw [raise_stu, modTension_same]

/-- A first average outside the limits is counted (02 R33). -/
theorem convert_first (hm : s.mau.mode ≠ .off) (out : withinKg l.min l.max (roundDiv w.sum ch.size) = false)
    (first : ch.outside = 0) : ((convert c raw s).stu.tension.chan c).outside = 1 ∧
    ((convert c raw s).stu.tension.chan c).limitCondition = ch.limitCondition ∧
    (convert c raw s).ft = s.ft.ended ⟨.tensionChannelFault, c.index⟩ ∧ (convert c raw s).hc = s.hc := by
  obtain ⟨limits, outside, condition, -⟩ := filled_fields hch hw h hl
  subst hw
  rw [convert_full hch h0 h1 h, if_neg hm, judgeLimits_first limits out (outside ▸ first), modTension_same]
  exact ⟨rfl, condition, by simp, by simp⟩

/-- An average within the limits ends the count and the limit condition (02 R33). -/
theorem convert_within (hm : s.mau.mode ≠ .off) (inside : withinKg l.min l.max (roundDiv w.sum ch.size) = true) :
    ((convert c raw s).stu.tension.chan c).outside = 0 ∧
    ((convert c raw s).stu.tension.chan c).limitCondition = false ∧
    (convert c raw s).hc = s.hc ∧ (convert c raw s).ft = (if ch.limitCondition = true
      then (s.ft.ended ⟨.tensionChannelFault, c.index⟩).ended ⟨.ropeTensionLimit, c.index⟩
      else s.ft.ended ⟨.tensionChannelFault, c.index⟩) := by
  obtain ⟨limits, -, condition, -⟩ := filled_fields hch hw h hl
  subst hw
  rw [convert_full hch h0 h1 h, if_neg hm, judgeLimits_within limits inside, condition]
  split <;> simp [endCondition]

/-- In OFF the standby flag says whether the average lies outside the standby limits, and the haul is left alone
(02 R35). -/
theorem convert_standby (hm : s.mau.mode = .off) : ((convert c raw s).stu.tension.chan c).standbyFlag
      = !(withinKg l.standbyMin l.standbyMax (roundDiv w.sum ch.size)) ∧
    (convert c raw s).hc = s.hc ∧ (convert c raw s).bl = s.bl ∧
    (convert c raw s).ft = s.ft.ended ⟨.tensionChannelFault, c.index⟩ := by
  obtain ⟨limits, -⟩ := filled_fields hch hw h hl
  subst hw
  rw [convert_full hch h0 h1 h, if_pos hm]
  refine ⟨?_, by simp, by simp, by simp⟩
  rw [judgeStandby_eq limits]
  split
  · rename_i newly
    rw [wake_stu, modTension_same, newly.1]
    rfl
  · rw [modTension_same]

/-- The standby flag newly set is a TENSION wake event (02 R35, 09 R162). -/
theorem convert_wakes (hm : s.mau.mode = .off)
    (out : withinKg l.standbyMin l.standbyMax (roundDiv w.sum ch.size) = false) (unset : ch.standbyFlag = false) :
    (convert c raw s).mau.latestWake = some (.tension, s.tt.clock) ∧
      WakeCause.tension ∈ (convert c raw s).mau.wakeSet ∧ NoticeKey.wake ∈ (convert c raw s).ll.notices := by
  obtain ⟨limits, -, -, flag⟩ := filled_fields hch hw h hl
  subst hw
  rw [convert_full hch h0 h1 h, if_pos hm, judgeStandby_eq limits, if_pos ⟨out, flag ▸ unset⟩]
  have off : (modTension c (fun x => { x with standbyFlag := true }) (s.filled c raw)).mau.mode = .off := by
    rw [modTension_mau, filled_mau, hm]
  obtain ⟨-, latest, cause, notice⟩ := wake_records .tension off
  rw [modTension_tt, filled_tt] at latest
  exact ⟨latest, cause, notice⟩

/-- A standby flag that is cleared or was set already is no wake event (02 R35). -/
theorem convert_sleeps (hm : s.mau.mode = .off)
    (kept : withinKg l.standbyMin l.standbyMax (roundDiv w.sum ch.size) = true ∨ ch.standbyFlag = true) :
    (convert c raw s).mau = s.mau := by
  obtain ⟨limits, -, -, flag⟩ := filled_fields hch hw h hl
  subst hw
  rw [convert_full hch h0 h1 h, if_pos hm, judgeStandby_eq limits, flag, if_neg, modTension_mau, filled_mau]
  rintro ⟨out, unset⟩
  rcases kept with inside | set
  · simp [out] at inside
  · simp [unset] at set

end

/-- Settles O49: an end-of-scale and a missing conversion fault the channel; any other by the two cases of a short and
a full window, and the average of a full one by what its judgement comes to. -/
theorem conversionsFillTheWindowOrFaultTheChannel : Obligations.ConversionsFillTheWindowOrFaultTheChannel := by
  intro s c ch hch
  refine ⟨fun raw bad => ?_, fun raw x w h0 h1 hx hw => ⟨convert c raw.val s, rfl, ?_⟩, fun u hu => ?_⟩
  · obtain ⟨channel, faults⟩ := convert_endOfScale (c := c) s bad
    subst hch
    exact ⟨convert c raw.val s, rfl, channel, faults⟩
  · subst hx
    have slid : w = ch.slid (ch.reading raw.val) := hw
    rcases Nat.lt_or_ge w.length ch.size with short | full
    · have long := Nat.not_le.2 short
      rw [convert_short hch h0 h1 (slid ▸ short), modTension_same, ← hch, good_short _ (slid ▸ short), ← slid]
      exact ⟨rfl, rfl, fun full => absurd full long, fun _ => ⟨rfl, modTension_ft _ _ _, rfl⟩,
        fun _ full => absurd full long, fun _ full => absurd full long⟩
    · have channel : ((convert c raw.val s).stu.tension.chan c).window = w ∧
          ((convert c raw.val s).stu.tension.chan c).latest = some (raw.val, ch.reading raw.val) ∧
          ((convert c raw.val s).stu.tension.chan c).state = .valid ∧
          ((convert c raw.val s).stu.tension.chan c).average = some (roundDiv w.sum ch.size) := by
        obtain ⟨n, b, f, judged⟩ := convert_full_channel hch h0 h1 (slid ▸ full)
        rw [judged, good_full _ (slid ▸ full), ← slid]
        exact ⟨rfl, rfl, rfl, rfl⟩
      obtain ⟨window, latest, valid, average⟩ := channel
      refine ⟨window, latest, fun _ => ⟨valid, average⟩, fun short => absurd short (Nat.not_lt.2 full),
        fun l _ mode limits => ⟨convert_second hch slid h0 h1 full limits mode,
          convert_first hch slid h0 h1 full limits mode, convert_within hch slid h0 h1 full limits mode⟩,
        fun l _ mode limits => ?_⟩
      obtain ⟨flag, haul, brakes, faults⟩ := convert_standby hch slid h0 h1 full limits mode
      exact ⟨flag, haul, brakes, faults, convert_wakes hch slid h0 h1 full limits mode,
        convert_sleeps hch slid h0 h1 full limits mode⟩
  · subst hch
    obtain ⟨channel, faults⟩ := conversionMissing_eq c (passUntil u s)
    rw [passUntil_tension] at channel
    refine ⟨conversionMissing c (passUntil u s), happens_expire rfl hu, ?_, channel, faults⟩
    rw [outer_now (conversionMissing_outer _ c), passUntil_now]

end Sys2Proof.Machine
end

section

namespace Sys2Proof.Machine

/-! ### The tests of the encoders (02 R25, R26) -/

/-- The magnitude test on the two estimates (02 R25). -/
theorem magnitudeTest_iff {s : State} {d h : Int} (hd : d = s.estimate .drive) (hh : h = s.estimate .sheave) :
    s.magnitudeTest = true ↔ s.lgp.line ≠ none ∧
      1000 < max d.natAbs h.natAbs - min d.natAbs h.natAbs ∧
      max d.natAbs h.natAbs * 5 < (max d.natAbs h.natAbs - min d.natAbs h.natAbs) * 100 := by
  have percent : max d.natAbs h.natAbs < (max d.natAbs h.natAbs - min d.natAbs h.natAbs) * 20 ↔
      max d.natAbs h.natAbs * 5 < (max d.natAbs h.natAbs - min d.natAbs h.natAbs) * 100 := by omega
  simp only [State.magnitudeTest, ← hd, ← hh, Bool.and_eq_true, decide_eq_true_eq, Option.isSome_iff_ne_none,
    percent, and_assoc]

/-- The direction test on the two estimates (02 R26). -/
theorem directionTest_iff {s : State} {d h : Int} (hd : d = s.estimate .drive) (hh : h = s.estimate .sheave) :
    s.directionTest = true ↔ s.lgp.line ≠ none ∧ 1000 < d.natAbs ∧ 1000 < h.natAbs ∧
      ((0 < d ∧ h < 0) ∨ (d < 0 ∧ 0 < h)) := by
  simp only [State.directionTest, ← hd, ← hh, Bool.and_eq_true, Bool.or_eq_true, decide_eq_true_eq,
    Option.isSome_iff_ne_none, and_assoc]

/-- What the note of the encoder tests writes: their flags, the disagreement interval, and the end of the condition
while neither holds (02 R25, R26). -/
theorem noteEncoders_eq (s : State) : noteEncoders s = { s with
    stu := { s.stu with
      magnitudeHolds := s.magnitudeTest, directionHolds := s.directionTest,
      disagreeDue := disagreeDueAt s.now s.magnitudeTest s.stu },
    ft := if s.magnitudeTest = true ∨ s.directionTest = true then s.ft
      else s.ft.ended ⟨.encoderDisagree, 0⟩ } := by
  simp only [noteEncoders, Bool.or_eq_true]
  split <;> rfl

theorem noteEncoders_stu (s : State) : (noteEncoders s).stu = { s.stu with
    magnitudeHolds := s.magnitudeTest, directionHolds := s.directionTest,
    disagreeDue := disagreeDueAt s.now s.magnitudeTest s.stu } := by rw [noteEncoders_eq]

theorem noteEncoders_ft (s : State) : (noteEncoders s).ft =
    if s.magnitudeTest = true ∨ s.directionTest = true then s.ft else s.ft.ended ⟨.encoderDisagree, 0⟩ := by
  rw [noteEncoders_eq]

/-- The envelope is judged under the ceiling of a trip; elsewhere its tests can only cease (04 R70, log 5). -/
theorem judgeMoment_cases (s : State) : judgeMoment s =
    if s.underTripCeiling then judgeEnvelope (noteEncoders s)
    else { noteEncoders s with bl := { (noteEncoders s).bl with
      serviceTest := s.bl.serviceTest && s.serviceTestNow,
      emergencyTest := s.bl.emergencyTest && s.emergencyTestNow } } := by
  rw [judgeMoment, noteEnvelope, noteEncoders_eq]
  rfl

theorem judgeEncoders_stu (s : State) : (judgeEncoders s).stu = (noteEncoders s).stu := by
  rw [judgeEncoders]
  split
  · exact raise_stu _ _
  · rfl

theorem judgeMoment_stu (s : State) : (judgeMoment s).stu = (noteEncoders s).stu := noteEnvelope_stu _

/-- An interval that has ended waits for its command (02 R25, log 3). -/
theorem disagreeDueAt_ended {now v : Nat} {u : Stu} (mag : Bool) (h : u.disagreeDue = some v) (hv : v ≤ now) :
    disagreeDueAt now mag u = some v := by simp [disagreeDueAt, h, hv]

/-- An interval that runs is stopped as the test ceases (02 R25). -/
theorem disagreeDueAt_running {now v : Nat} {u : Stu} (mag : Bool) (h : u.disagreeDue = some v) (hv : now < v) :
    disagreeDueAt now mag u = if mag = false then none else if u.magnitudeHolds = true then some v
      else some (now + 300000) := by simp [disagreeDueAt, h, Nat.not_le.2 hv]

/-- The interval starts as the test begins to hold (02 R25). -/
theorem disagreeDueAt_idle {now : Nat} {u : Stu} (mag : Bool) (h : u.disagreeDue = none) :
    disagreeDueAt now mag u = if mag = true ∧ u.magnitudeHolds = false then some (now + 300000) else none := by
  cases mag <;> cases hm : u.magnitudeHolds <;> simp [disagreeDueAt, h, hm]

/-- The direction test that begins to hold raises ENCODER_DISAGREE (02 R26). -/
theorem judgeEncoders_begins {s : State} (h : s.directionTest = true) (hn : s.stu.directionHolds = false) :
    judgeEncoders s = raise ⟨.encoderDisagree, 0⟩ (noteEncoders s) := by simp [judgeEncoders, h, hn]

/-- Otherwise the tests are noted alone. -/
theorem judgeEncoders_notes {s : State} (h : s.directionTest = false ∨ s.stu.directionHolds = true) :
    judgeEncoders s = noteEncoders s := by
  rcases h with h | h <;> simp [judgeEncoders, h]

/-! ### The disagreement interval (02 R25) -/

/-- No time passes to a moment that has come. -/
theorem passUntil_past {u : Nat} {s : State} (h : u ≤ s.now) : passUntil u s = elapse 0 s := by
  rw [passUntil, Nat.sub_eq_zero_of_le h]
  simp [passTime, followMoments]

/-- An interval that has ended trips the haul by ENCODER_DISAGREE (02 R25). -/
theorem disagreementExpires_ended {s : State} {v : Nat} (h : s.stu.disagreeDue = some v) (hv : v ≤ s.now) :
    disagreementExpires s = raise ⟨.encoderDisagree, 0⟩ (s.modStu fun u => { u with disagreeDue := none }) := by
  simp [disagreementExpires, h, hv]

/-- An interval that the magnitude test stopped on the way does not expire (02 R25, log 3). -/
theorem disagreementExpires_stopped {s : State} (h : ∀ v, s.stu.disagreeDue = some v → s.now < v) :
    disagreementExpires s = s := by
  rw [disagreementExpires, if_neg]
  cases due : s.stu.disagreeDue with
  | none => simp
  | some v => simpa using h v due

/-! ### The settle interval (08 R146) -/

/-- The deviation while the load cross-check runs (08 R146). -/
theorem deviation_iff (s : State) (x : Nat) : s.deviation = some x ↔ s.hc.haul = .parked ∧ s.allLocked = true ∧
    ∃ (a b : Nat) (i : Int), s.gqu.loads.fst = some a ∧ s.gqu.loads.snd = some b ∧ s.imbalance = some i ∧
      x = (i - ((a : Int) - b) * s.gqu.mass * 1000).natAbs := by
  simp only [State.deviation]
  constructor
  · intro h
    (repeat' split at h) <;> simp_all
  · rintro ⟨haul, doors, a, b, i, ha, hb, hi, rfl⟩
    simp only [haul, doors, ha, hb, hi, and_self, if_true]

/-- The far side of the tolerance (08 R146, log 26). -/
theorem farSide_iff (s : State) : s.farSide = true ↔ s.hc.haul = .parked ∧ s.allLocked = true ∧
    ∃ (a b : Nat) (i : Int) (tol : Nat), s.gqu.loads.fst = some a ∧ s.gqu.loads.snd = some b ∧
      s.imbalance = some i ∧ s.gqu.tolerance = some tol ∧
      (if s.gqu.disagree = true
        then (i - ((a : Int) - b) * s.gqu.mass * 1000).natAbs ≤ tol * 1000
        else tol * 1000 < (i - ((a : Int) - b) * s.gqu.mass * 1000).natAbs) := by
  have beyond : s.farSide = true ↔ ∃ x tol, s.deviation = some x ∧ s.gqu.tolerance = some tol ∧
      (if s.gqu.disagree = true then x ≤ tol * 1000 else tol * 1000 < x) := by
    simp only [State.farSide]
    cases s.deviation <;> cases s.gqu.tolerance <;> cases s.gqu.disagree <;> simp
  rw [beyond]
  constructor
  · rintro ⟨x, tol, hx, ht, far⟩
    obtain ⟨haul, doors, a, b, i, ha, hb, hi, rfl⟩ := (deviation_iff s x).1 hx
    exact ⟨haul, doors, a, b, i, tol, ha, hb, hi, ht, far⟩
  · rintro ⟨haul, doors, a, b, i, tol, ha, hb, hi, ht, far⟩
    exact ⟨_, tol, (deviation_iff s _).2 ⟨haul, doors, a, b, i, ha, hb, hi, rfl⟩, ht, far⟩

/-- The settle interval starts or goes on while the deviation is on the far side, and is stopped elsewhere
(08 R146). -/
theorem judgeLoads_eq (s : State) : judgeLoads s = { s with gqu := { s.gqu with
    settleDue := if s.farSide = true then some (s.gqu.settleDue.getD (s.now + 3000000)) else none } } := by
  rw [judgeLoads]
  cases h : s.gqu.settleDue <;> rfl

/-- A raise of class REPORT writes its slot and does nothing else (10 R171). -/
theorem raise_report {s : State} {k : FaultKey} (hk : k.code.cls = .report) :
    raise k s = s.modFt (FaultTable.raised k s.tt.clock) := by
  simp only [raise, handOn, hk]

/-- The end of the settle interval begins or ends the load disagreement (08 R146). -/
theorem settleExpires_eq (s : State) : settleExpires s = { s with
    gqu := { s.gqu with disagree := !s.gqu.disagree, settleDue := none },
    ft := if s.gqu.disagree = true then s.ft.ended ⟨.loadDisagree, 0⟩
      else s.ft.raised ⟨.loadDisagree, 0⟩ s.tt.clock } := by
  rw [settleExpires, raise_report rfl]
  split <;> rfl

/-! ### The load disagreement while time passes -/

section
variable (s : State)

@[simp] theorem dissolveBatch_disagree (c : Car) : (dissolveBatch c s).gqu.disagree = s.gqu.disagree := by
  simp only [dissolveBatch]
  split <;> simp
@[simp] theorem abandonTrip_disagree (cause : EndCause) :
    (abandonTrip cause s).gqu.disagree = s.gqu.disagree := by
  simp only [abandonTrip, dissolveBoth]
  split <;> simp
@[simp] theorem abandonDeparture_disagree (cause : EndCause) :
    (abandonDeparture cause s).gqu.disagree = s.gqu.disagree := by
  simp only [abandonDeparture]
  (repeat' split) <;> simp
@[simp] theorem emergencyDemand_disagree (code : Option FaultCode) :
    (emergencyDemand code s).gqu.disagree = s.gqu.disagree := by
  simp only [emergencyDemand]
  (repeat' split) <;> simp
@[simp] theorem handOn_disagree (c : FaultCode) : (handOn c s).gqu.disagree = s.gqu.disagree := by
  simp only [handOn]
  (repeat' split) <;> simp
@[simp] theorem raise_disagree (k : FaultKey) : (raise k s).gqu.disagree = s.gqu.disagree := by simp [raise]
@[simp] theorem judgeEnvelope_disagree : (judgeEnvelope s).gqu.disagree = s.gqu.disagree := by
  simp only [judgeEnvelope]
  (repeat' split) <;> simp
@[simp] theorem judgeMoment_disagree : (judgeMoment s).gqu.disagree = s.gqu.disagree := by
  simp only [judgeMoment, noteEnvelope]
  split <;> simp
@[simp] theorem passUntil_disagree (t : Nat) : (passUntil t s).gqu.disagree = s.gqu.disagree :=
  followMoments_keeps (fun s => s.gqu.disagree) (fun _ _ => rfl) judgeMoment_disagree _ _ s

end

/-! ### Supervision (09 R159, R160; 05 R90) -/

/-- A BLOCK fault abandons a departure and leaves a haul that moves alone (10 R171; 03 R51, R53). -/
theorem raise_block_moving {s : State} {k : FaultKey} (hk : k.code.cls = .block)
    (h : s.hc.haul = .running ∨ s.hc.haul = .approach ∨ s.hc.haul = .stopping) : (raise k s).hc = s.hc := by
  have kept : ∀ t : State, t.hc = s.hc → ∀ cause, abandonDeparture cause t = t := by
    intro t ht cause
    rcases h with h | h | h <;> simp [abandonDeparture, ht, h]
  simp only [raise, handOn, hk, kept _ (modFt_hc s _), ite_self, modFt_hc]

/-- A BLOCK fault leaves a brake test to its own rules (10 R171). -/
theorem raise_block_bpu {s : State} {k : FaultKey} (hk : k.code.cls = .block) : (raise k s).bpu = s.bpu := by
  simp only [raise, handOn, hk]
  split <;> simp

/-- An aborted test leaves the haul state and the trip alone (05 R90). -/
theorem abortTest_haul (s : State) : (abortTest s).hc.haul = s.hc.haul ∧ (abortTest s).hc.trip = s.hc.trip := by
  simp only [abortTest]
  (repeat' split) <;> simp [command]

/-- An aborted test is RESTORING (05 R90). -/
theorem abortTest_test {s : State} {x : Test} (h : s.bpu.test = some x) (hx : x.phase ≠ .restoring) :
    (abortTest s).bpu.test = some { x with phase := .restoring } := by
  simp [abortTest, h, hx]

/-- What the loss of supervision does to MAU and to the fault table (09 R159, R160). -/
theorem supervisionLoss_eq (s : State) : (supervisionLoss s).mau = { s.mau with supervision := .lost, supDue := none } ∧
    (supervisionLoss s).ft = s.ft.raised ⟨.supervisionLost, 0⟩ s.tt.clock := by
  simp only [supervisionLoss, abortTest_mau, raise_mau, abortTest_ft, raise_ft, modMau_mau, modMau_ft, modMau_tt,
    and_self]

/-- A haul that moves keeps its state and its trip when supervision is lost (09 R160). -/
theorem supervisionLoss_moving {s : State}
    (h : s.hc.haul = .running ∨ s.hc.haul = .approach ∨ s.hc.haul = .stopping) :
    (supervisionLoss s).hc.haul = s.hc.haul ∧ (supervisionLoss s).hc.trip = s.hc.trip := by
  have raised := raise_block_moving (s := s.modMau fun m => { m with supervision := .lost, supDue := none })
    (k := ⟨.supervisionLost, 0⟩) rfl h
  obtain ⟨haul, trip⟩ := abortTest_haul (raise ⟨.supervisionLost, 0⟩
    (s.modMau fun m => { m with supervision := .lost, supDue := none }))
  rw [raised] at haul trip
  exact ⟨haul, trip⟩

/-- A brake test in LIFTING or PULSE is RESTORING after a loss of supervision (05 R90). -/
theorem supervisionLoss_test {s : State} {x : Test} (h : s.bpu.test = some x) (hx : x.phase ≠ .restoring) :
    (supervisionLoss s).bpu.test = some { x with phase := .restoring } :=
  abortTest_test (by rw [raise_block_bpu rfl]; exact h) hx

end Sys2Proof.Machine
end

section

namespace Sys2Proof.Machine

/-- At a judged moment and at the end of an event the disagreement interval starts, goes on, is stopped or waits
(02 R25, log 3). -/
theorem judged_disagreeDue {s t : State} (ht : t.stu = (noteEncoders s).stu) :
    t.stu.magnitudeHolds = s.magnitudeTest ∧ t.stu.directionHolds = s.directionTest ∧
    (∀ v, s.stu.disagreeDue = some v → v ≤ s.now → t.stu.disagreeDue = some v) ∧
    (∀ v, s.stu.disagreeDue = some v → s.now < v → t.stu.disagreeDue
      = (if s.magnitudeTest = false then none else if s.stu.magnitudeHolds = true then some v
         else some (s.now + 300000))) ∧
    (s.stu.disagreeDue = none → t.stu.disagreeDue
      = (if s.magnitudeTest = true ∧ s.stu.magnitudeHolds = false then some (s.now + 300000) else none)) := by
  rw [ht, noteEncoders_stu]
  exact ⟨rfl, rfl, fun _ => disagreeDueAt_ended _, fun _ => disagreeDueAt_running _, disagreeDueAt_idle _⟩

/-- The direction test raises ENCODER_DISAGREE as it begins to hold, and the condition ends while neither test holds
(02 R25, R26). -/
theorem judgeEncoders_faults (s : State) :
    (s.directionTest = true → s.stu.directionHolds = false →
      (judgeEncoders s).ft = s.ft.raised ⟨.encoderDisagree, 0⟩ s.tt.clock ∧ (judgeEncoders s).hc.haul = .tripped) ∧
    (s.directionTest = true → s.stu.directionHolds = true →
      (judgeEncoders s).ft = s.ft ∧ (judgeEncoders s).hc = s.hc) ∧
    (s.directionTest = false → (judgeEncoders s).hc = s.hc ∧ (judgeEncoders s).ft =
      (if s.magnitudeTest = true then s.ft else s.ft.ended ⟨.encoderDisagree, 0⟩)) := by
  refine ⟨fun holds fresh => ?_, fun holds noted => ?_, fun ceased => ?_⟩
  · rw [judgeEncoders_begins holds fresh]
    refine ⟨?_, raise_emergency_tripped _ rfl⟩
    rw [raise_ft, noteEncoders_ft, if_pos (.inr holds), noteEncoders_tt]
  · rw [judgeEncoders_notes (.inr noted), noteEncoders_ft, if_pos (.inr holds)]
    exact ⟨rfl, noteEncoders_hc s⟩
  · rw [judgeEncoders_notes (.inl ceased), noteEncoders_ft]
    exact ⟨noteEncoders_hc s, by simp [ceased]⟩

/-- The command of the disagreement interval trips the haul when the interval has ended by then, and does nothing when
the magnitude test stopped it on the way (02 R25, log 3). -/
theorem disagreementExpires_passed {s q : State} {u : Nat} (hu : s.stu.disagreeDue = some u) (hq : q = passUntil u s) :
    (∀ v, q.stu.disagreeDue = some v → v ≤ q.now → (disagreementExpires q).stu.disagreeDue = none ∧
      (disagreementExpires q).hc.haul = .tripped ∧
      (disagreementExpires q).ft = q.ft.raised ⟨.encoderDisagree, 0⟩ q.tt.clock) ∧
    ((∀ v, q.stu.disagreeDue = some v → q.now < v) → disagreementExpires q = q) ∧
    (u ≤ s.now → (disagreementExpires q).hc.haul = .tripped) := by
  have ended : ∀ v, q.stu.disagreeDue = some v → v ≤ q.now → (disagreementExpires q).stu.disagreeDue = none ∧
      (disagreementExpires q).hc.haul = .tripped ∧
      (disagreementExpires q).ft = q.ft.raised ⟨.encoderDisagree, 0⟩ q.tt.clock := by
    intro v due come
    rw [disagreementExpires_ended due come]
    refine ⟨?_, raise_emergency_tripped _ rfl, raise_ft _ _⟩
    rw [raise_stu]
    rfl
  refine ⟨ended, disagreementExpires_stopped, fun past => ?_⟩
  have still : q = elapse 0 s := hq.trans (passUntil_past past)
  exact (ended u (by rw [still]; exact hu) (by rw [still]; exact past)).2.1

/-- Settles O57: the tests by their readings, passing time by its judged moments, and each expiry by what its event
does after the time that passes to it. -/
theorem crossChecksAndSupervisionExpire : Obligations.CrossChecksAndSupervisionExpire := by
  intro s u
  refine ⟨fun d h hd hh => ⟨magnitudeTest_iff hd hh, directionTest_iff hd hh⟩, fun n => ⟨passTime_still, ?_, ?_⟩,
    fun q hq => ⟨?_, fun moving => ?_, fun hr ha => ?_⟩, fun t ht => judged_disagreeDue ?_, fun t ht => ?_,
    fun q hu hq => ?_, farSide_iff s, judgeLoads_eq s, fun hu => ?_, fun hu => ?_⟩
  · intro v hv
    obtain ⟨later, within⟩ := nextMoment_bounds hv
    exact ⟨later, within, passTime_moment hv⟩
  · intro m hm before
    exact ⟨moment_estimate (by omega) before, fun moving =>
      moment_overspeed ((underTripCeiling_iff s).2 moving) (by omega) before⟩
  · subst hq
    rw [noteEncoders_stu]
    exact noteEncoders_eq s
  · rw [judgeMoment_cases, if_pos ((underTripCeiling_iff s).2 moving), hq]
  · rw [judgeMoment_cases, underTripCeiling_false hr ha, hq, noteEncoders_bl]
    rfl
  · rcases ht with rfl | rfl
    · exact judgeEncoders_stu s
    · exact judgeMoment_stu s
  · subst ht
    exact judgeEncoders_faults s
  · have happens : Happens .disagreementIntervalExpiry s (disagreementExpires (passUntil u s)) :=
      happens_expire rfl hu
    rw [← hq] at happens
    refine ⟨disagreementExpires q, happens, ?_, disagreementExpires_passed hu hq⟩
    rw [outer_now (disagreementExpires_outer q), hq, passUntil_now]
  · refine ⟨settleExpires (passUntil u s), happens_expire rfl hu, ?_, ?_, ?_⟩
    · rw [outer_now (settleExpires_outer _), passUntil_now]
    · rw [settleExpires_eq, passUntil_disagree]
    · rw [settleExpires_eq, passUntil_disagree]
  · obtain ⟨mau, faults⟩ := supervisionLoss_eq (passUntil u s)
    rw [passUntil_mau] at mau
    refine ⟨supervisionLoss (passUntil u s), happens_expire rfl hu, ?_, mau, faults, fun q hq moving => ?_,
      fun x hx phase => ?_⟩
    · rw [outer_now (supervisionLoss_outer _), passUntil_now]
    · subst hq
      exact supervisionLoss_moving moving
    · exact supervisionLoss_test (by rw [passUntil_bpu]; exact hx) phase

end Sys2Proof.Machine
end

section

namespace Sys2Proof.Machine

/-! ### The haul state with the warning interval, and the stop record -/

/-- What HC holds of a departure: the haul state and the end of the warning interval. -/
def Hc.departure (g : Hc) : HaulState × Option Nat := (g.haul, g.warnDue)

section

variable (s : State)

@[simp] theorem command_departure (d : DriveCommand) : (command d s).hc.departure = s.hc.departure := rfl
@[simp] theorem abandonTrip_departure (cause : EndCause) :
    (abandonTrip cause s).hc.departure = s.hc.departure := by rw [abandonTrip_hc]; rfl
@[simp] theorem parkedCycle_departure (held : Bool) : (parkedCycle held s).hc.departure = s.hc.departure := by
  simp only [parkedCycle]; split <;> rfl
@[simp] theorem applyPending_departure (n : Nat) (crossing : Bool) :
    (applyPending n crossing s).hc.departure = s.hc.departure := by
  simp only [applyPending]; split <;> rfl
@[simp] theorem applyIdleAll_departure (before : State) :
    (applyIdleAll before s).hc.departure = s.hc.departure := by
  have one : ∀ n t, (applyIdle before n t).hc.departure = t.hc.departure := by
    intro n t
    simp only [applyIdle]; split <;> simp
  simp only [applyIdleAll, forEach, one]
@[simp] theorem judgeCrossing_departure (x : Int) : (judgeCrossing x s).hc.departure = s.hc.departure := by
  simp only [judgeCrossing]; split <;> simp
@[simp] theorem judgeCommit_departure : (judgeCommit s).hc.departure = s.hc.departure := by
  simp only [judgeCommit, commitTrip]; (repeat' split) <;> simp [Hc.departure]
@[simp] theorem headFrom_departure (k : Nat) : (headFrom k s).hc.departure = s.hc.departure := by
  rw [headFrom_hc]; rfl
@[simp] theorem followHeading_departure : (followHeading s).hc.departure = s.hc.departure := by
  obtain ⟨d, h⟩ := followHeading_hc s
  rw [h]; rfl
@[simp] theorem commandDrive_departure : (commandDrive s).hc.departure = s.hc.departure := by
  simp only [commandDrive]; (repeat' split) <;> rfl
@[simp] theorem followTopSpeed_departure : (followTopSpeed s).hc.departure = s.hc.departure := by
  simp only [followTopSpeed]; split <;> rfl
@[simp] theorem beginCycle_departure : (beginCycle s).hc.departure = s.hc.departure := by
  simp only [beginCycle]; (repeat' split) <;> simp [Hc.departure]
@[simp] theorem enterAutomatic_departure : (enterAutomatic s).hc.departure = s.hc.departure := by
  simp only [enterAutomatic]; split <;> simp [Hc.departure]
@[simp] theorem followDoors_departure : (followDoors s).hc.departure = s.hc.departure := by
  simp only [followDoors]; (repeat' split) <;> rfl
@[simp] theorem leaveAutomaticCycle_departure : (leaveAutomaticCycle s).hc.departure = s.hc.departure := rfl
@[simp] theorem modCarLine_departure (c : Car) (f : CarLine → CarLine) :
    (modCarLine c f s).hc.departure = s.hc.departure := rfl
@[simp] theorem carMessage_departure (c : Car) : (carMessage c s).hc.departure = s.hc.departure := by
  simp only [carMessage]; (repeat' split) <;> simp
@[simp] theorem stopRequest_departure (c : Car) (station : Nat) :
    (stopRequest c station s).hc.departure = s.hc.departure := by
  simp only [stopRequest]; (repeat' split) <;> simp
@[simp] theorem discardTrips_departure : (discardTrips s).hc.departure = s.hc.departure := rfl
@[simp] theorem restartMode_departure : (restartMode s).hc.departure = s.hc.departure := by
  simp only [restartMode]; split <;> simp
@[simp] theorem takeTiming_departure (p : ParamBody) : (takeTiming p s).hc.departure = s.hc.departure := by
  simp only [takeTiming]; split <;> simp [Hc.departure]
@[simp] theorem takeAll_departure (p : ParamBody) : (takeAll p s).hc.departure = s.hc.departure := rfl
@[simp] theorem beginPulse_departure (t : Test) : (beginPulse t s).hc.departure = s.hc.departure := rfl
@[simp] theorem abortTest_departure : (abortTest s).hc.departure = s.hc.departure := by
  simp only [abortTest]; (repeat' split) <;> simp
@[simp] theorem restartTest_departure : (restartTest s).hc.departure = s.hc.departure := by
  simp only [restartTest]; split <;> simp
@[simp] theorem changeMode_departure (m : LineMode) : (changeMode m s).hc.departure = s.hc.departure := by
  simp only [changeMode]; (repeat' split) <;> simp
@[simp] theorem judgePairSeen_warnDue (before : Option Nat) :
    (judgePairSeen before s).hc.warnDue = s.hc.warnDue := by
  simp only [judgePairSeen]; (repeat' split) <;> rfl

@[simp] theorem applyBrake_stop (b : Brake) : (applyBrake b s).bl.stop = s.bl.stop := rfl
@[simp] theorem modBrake_stop (b : Brake) (f : BrakeRec → BrakeRec) : (modBrake b f s).bl.stop = s.bl.stop := rfl
@[simp] theorem releaseBrake_stop (b : Brake) : (releaseBrake b s).bl.stop = s.bl.stop := by
  simp only [releaseBrake]; split <;> rfl
@[simp] theorem proveBrake_stop (b : Brake) : (proveBrake b s).bl.stop = s.bl.stop := by
  simp only [proveBrake]; split <;> rfl
@[simp] theorem abortTest_stop : (abortTest s).bl.stop = s.bl.stop := by
  simp only [abortTest]; (repeat' split) <;> simp
@[simp] theorem restartTest_stop : (restartTest s).bl.stop = s.bl.stop := by
  simp only [restartTest]; split <;> simp
@[simp] theorem changeMode_stop (m : LineMode) : (changeMode m s).bl.stop = s.bl.stop := by
  simp only [changeMode, enterOff, exitOff]; (repeat' split) <;> simp
@[simp] theorem transmit_stop : (transmit s).bl.stop = s.bl.stop := by
  simp only [transmit, forgetReported, startFrame]; (repeat' split) <;> rfl

end

/-- What changes neither the haul state nor the warning interval nor the stop record keeps O11. -/
theorem State.haulSound.congr {s t : State} (h : s.haulSound)
    (same : t.hc.departure = s.hc.departure ∧ t.bl.stop = s.bl.stop) : t.haulSound := by
  obtain ⟨departure, stop⟩ := same
  obtain ⟨haul, warn⟩ := Prod.mk.inj departure
  rw [State.haulSound, haul, warn, stop]
  exact h

/-- Outside STOPPING no stop is recorded. -/
theorem State.haulSound.no_stop {s : State} (h : s.haulSound)
    (haul : s.hc.haul ≠ .stopping) : s.bl.stop = none := h.1 haul

/-- Outside WARNING no warning interval runs. -/
theorem State.haulSound.no_warning {s : State} (h : s.haulSound)
    (haul : s.hc.haul ≠ .warning) : s.hc.warnDue = none := h.2 haul

/-- With no stop recorded and no warning interval running every haul state is sound. -/
theorem haulSound_idle {s : State} (stop : s.bl.stop = none) (warn : s.hc.warnDue = none) : s.haulSound :=
  ⟨fun _ => stop, fun _ => warn⟩

section

variable {s : State}

/-! #### Demands and raises -/

theorem haulSound_abandonTrip {cause : EndCause} (h : s.haulSound) : (abandonTrip cause s).haulSound :=
  h.congr (by simp)

theorem haulSound_applyBrake {b : Brake} (h : s.haulSound) : (applyBrake b s).haulSound := h

theorem haulSound_releaseBrake {b : Brake} (h : s.haulSound) : (releaseBrake b s).haulSound := h.congr (by simp)

theorem haulSound_followHeading (h : s.haulSound) : (followHeading s).haulSound := h.congr (by simp)

theorem haulSound_parkedCycle {held : Bool} (h : s.haulSound) : (parkedCycle held s).haulSound := h.congr (by simp)

theorem haulSound_abandonDeparture {cause : EndCause} (h : s.haulSound) : (abandonDeparture cause s).haulSound := by
  simp only [abandonDeparture]
  split
  · rename_i haul
    have parked : (s.modHc fun g => { g with haul := .parked, warnDue := none }).haulSound :=
      haulSound_idle (h.no_stop (by simp [haul])) rfl
    exact parked.congr (by simp)
  · rename_i haul
    have parked : (setHaul .parked s).haulSound :=
      haulSound_idle (h.no_stop (by simp [haul])) (h.no_warning (by simp [haul]))
    split <;> exact parked.congr (by simp)
  · exact h

theorem haulSound_emergencyDemand {code : Option FaultCode} (h : s.haulSound) : (emergencyDemand code s).haulSound := by
  simp only [emergencyDemand]
  split
  · split <;> exact h.congr (by simp)
  · split
    · split
      · exact haulSound_abandonTrip (haulSound_idle rfl rfl)
      · exact haulSound_idle rfl rfl
    · exact haulSound_idle rfl rfl

theorem haulSound_enterStopping {n : Nat} {c : StopCause} (haul : s.hc.haul ≠ .warning) (h : s.haulSound) :
    (enterStopping n c s).haulSound :=
  ⟨fun hn => absurd rfl hn, fun _ => h.2 haul⟩

theorem haulSound_stopCauseFault {c : FaultCode} (h : s.haulSound) : (stopCauseFault c s).haulSound :=
  ⟨fun hn => by simp [stopCauseFault, h.1 hn], h.2⟩

theorem haulSound_serviceDemand {c : FaultCode} (h : s.haulSound) : (serviceDemand c s).haulSound := by
  simp only [serviceDemand]
  split
  · exact haulSound_enterStopping (by simp [*]) h
  · exact haulSound_enterStopping (by simp [*]) h
  · exact haulSound_stopCauseFault h
  · exact h

theorem haulSound_handOn {c : FaultCode} (h : s.haulSound) : (handOn c s).haulSound := by
  simp only [handOn]
  split
  · exact haulSound_emergencyDemand h
  · exact haulSound_abandonDeparture (haulSound_serviceDemand h)
  · split
    · exact haulSound_abandonDeparture h
    · exact h
  · exact h

theorem haulSound_raise {k : FaultKey} (h : s.haulSound) : (raise k s).haulSound := haulSound_handOn (h.congr (by simp))

theorem haulSound_moveStage2 (h : s.haulSound) : (moveStage2 s).haulSound := by
  have second : (s.modBl fun l => { l with stop := l.stop.map (fun r => { r with stage := 2 }) }).haulSound :=
    ⟨fun hn => by simp [h.1 hn], h.2⟩
  exact haulSound_raise (second.congr (by simp))

theorem haulSound_moveStage3 (haul : s.hc.haul ≠ .warning) (h : s.haulSound) : (moveStage3 s).haulSound := by
  refine haulSound_abandonTrip (haulSound_idle rfl ?_)
  exact h.2 haul

/-! #### Passing time -/

theorem haulSound_judgeEnvelope (h : s.haulSound) : (judgeEnvelope s).haulSound := by
  simp only [judgeEnvelope]
  (repeat' split)
  · exact haulSound_raise (haulSound_raise h)
  · exact haulSound_raise h
  · exact haulSound_raise h
  · exact h

theorem haulSound_judgeMoment (h : s.haulSound) : (judgeMoment s).haulSound := by
  have noted : (noteEncoders s).haulSound := h.congr (by simp)
  simp only [judgeMoment, noteEnvelope]
  split
  · exact haulSound_judgeEnvelope noted
  · exact noted.congr (by simp)

theorem haulSound_followMoments : ∀ n t (s : State), s.haulSound → (followMoments n t s).haulSound
  | 0, _, _, h => h
  | n + 1, t, s, h => by
    have elapsed : ∀ dt, (elapse dt s).haulSound := fun dt => h
    simp only [followMoments]
    split
    · exact elapsed _
    · exact haulSound_followMoments n t _ (haulSound_judgeMoment (elapsed _))

theorem haulSound_passTime {dt : Nat} (h : s.haulSound) : (passTime dt s).haulSound := haulSound_followMoments _ _ _ h

theorem haulSound_passUntil {t : Nat} (h : s.haulSound) : (passUntil t s).haulSound := haulSound_passTime h

end

end Sys2Proof.Machine
end

section

namespace Sys2Proof.Machine

/-! ### The operations of the blocks keep the stop record to STOPPING and the warning interval to WARNING -/

theorem haulSound_forEach {f : Nat → State → State} (hf : ∀ i (t : State), t.haulSound → (f i t).haulSound) :
    ∀ l (s : State), s.haulSound → (forEach f l s).haulSound
  | [], _, h => h
  | i :: is, s, h => haulSound_forEach hf is _ (hf i s h)

theorem haulSound_raiseJams : ∀ (l : List Lane) (s : State), s.haulSound → (raiseJams l s).haulSound
  | [], _, h => h
  | x :: xs, s, h => by
    rw [raiseJams]
    refine haulSound_raiseJams xs _ ?_
    split
    · exact haulSound_raise h
    · exact h

theorem haulSound_raiseAll : ∀ (cs : List Car) (s : State), s.haulSound →
    (cs.foldl (fun t c => raise ⟨.positionDisagree, c.index⟩ t) s).haulSound
  | [], _, h => h
  | _ :: cs, _, h => haulSound_raiseAll cs _ (haulSound_raise h)

section

variable {s : State}

/-! #### Gates, position, speed and tension -/

theorem haulSound_jamLane {id : Nat} (h : s.haulSound) : (jamLane id s).haulSound := by
  simp only [jamLane]
  split
  · exact h
  · exact haulSound_raise h

theorem haulSound_settleExpires (h : s.haulSound) : (settleExpires s).haulSound := by
  simp only [settleExpires]
  split
  · exact h
  · exact haulSound_raise h

theorem haulSound_restartGates (h : s.haulSound) : (restartGates s).haulSound := haulSound_raiseJams _ _ h

theorem haulSound_leaveWindow {c : Car} (h : s.haulSound) : (leaveWindow c s).haulSound := by
  simp only [leaveWindow]
  (repeat' split)
  · exact h
  · exact h
  · exact h
  · exact haulSound_raise h
  · exact h

theorem haulSound_followWatch {c : Car} {x : Int} (h : s.haulSound) : (followWatch c x s).haulSound := by
  have left : (leaveWindow c s).haulSound := haulSound_leaveWindow h
  simp only [followWatch]
  exact left.congr (by simp)

theorem haulSound_judgeOvertravel {c : Car} (h : s.haulSound) : (judgeOvertravel c s).haulSound := by
  simp only [judgeOvertravel]
  (repeat' split)
  · exact h
  · exact h
  · exact haulSound_raise h
  · exact h
  · exact h

theorem haulSound_judgeOvertravels (h : s.haulSound) : (judgeOvertravels s).haulSound :=
  haulSound_judgeOvertravel (haulSound_judgeOvertravel h)

theorem haulSound_doubt {cs : List Car} (h : s.haulSound) : (doubt cs s).haulSound := haulSound_raiseAll cs s h

theorem haulSound_referenceAt {k : Nat} (h : s.haulSound) : (referenceAt k s).haulSound := by
  have fresh : ∀ t : State, t.haulSound → (freshWatches t).haulSound := fun t ht => ht.congr (by simp)
  simp only [referenceAt]
  refine haulSound_judgeOvertravels (fresh _ (haulSound_leaveWindow (haulSound_leaveWindow ?_)))
  split <;> exact h

theorem haulSound_evaluateReferencing (h : s.haulSound) : (evaluateReferencing s).haulSound := by
  rcases evaluateReferencing_cases s with e | ⟨k, -, e⟩ | ⟨c, cs, -, e⟩ <;> rw [e]
  · exact h
  · exact haulSound_referenceAt h
  · exact haulSound_doubt h

theorem haulSound_capture {j : Nat} {m : MarkerRec} {c : Car} (h : s.haulSound) : (capture j m c s).haulSound := by
  have watched : ∀ (w : Option Watch) (t : State), t.haulSound → (setWatch c w t).haulSound := fun w t ht => ht
  simp only [capture]
  split
  · refine haulSound_judgeOvertravel (watched _ _ (haulSound_leaveWindow ?_))
    exact h
  · exact haulSound_doubt h

theorem haulSound_pulse {j : Nat} (h : s.haulSound) : (pulse j s).haulSound := by
  rcases pulse_cases s j with e | ⟨m, c, e⟩ | ⟨c, e⟩ <;> rw [e]
  · exact h
  · exact haulSound_capture h
  · exact haulSound_doubt h

theorem haulSound_followCars {xA xB : Int} (h : s.haulSound) : (followCars xA xB s).haulSound :=
  haulSound_judgeOvertravels (haulSound_followWatch (haulSound_followWatch h))

theorem haulSound_restartPosition (h : s.haulSound) : (restartPosition s).haulSound := by
  have formed : (freshWatches (formPresences s)).haulSound := h.congr (by simp)
  exact haulSound_judgeOvertravels formed

theorem haulSound_judgeEncoders (h : s.haulSound) : (judgeEncoders s).haulSound := by
  have noted : (noteEncoders s).haulSound := h.congr (by simp)
  simp only [judgeEncoders]
  split
  · exact haulSound_raise noted
  · exact noted

theorem haulSound_disagreementExpires (h : s.haulSound) : (disagreementExpires s).haulSound := by
  simp only [disagreementExpires]
  split
  · exact haulSound_raise h
  · exact h

theorem haulSound_judgeLimits {c : Chan} {avg : Int} (h : s.haulSound) : (judgeLimits c avg s).haulSound := by
  simp only [judgeLimits]
  (repeat' split)
  · exact h
  · exact h
  · exact h
  · exact haulSound_raise h
  · exact h

theorem haulSound_convert {c : Chan} {raw : Nat} (h : s.haulSound) : (convert c raw s).haulSound := by
  simp only [convert]
  (repeat' split)
  · exact haulSound_raise h
  · exact h
  · exact State.haulSound.congr (s := s) h (by simp)
  · exact haulSound_judgeLimits h

theorem haulSound_restartTensionFaults (h : s.haulSound) : (restartTensionFaults s).haulSound := by
  have again : ∀ (c : Chan) (p q : Prop) [Decidable p] [Decidable q] (t : State), t.haulSound →
      (if q then raise ⟨.ropeTensionLimit, c.index⟩ (if p then raise ⟨.tensionChannelFault, c.index⟩ t else t)
        else if p then raise ⟨.tensionChannelFault, c.index⟩ t else t).haulSound := by
    intro c p q _ _ t ht
    split_ifs
    · exact haulSound_raise (haulSound_raise ht)
    · exact haulSound_raise ht
    · exact haulSound_raise ht
    · exact ht
  exact again _ _ _ _ (again _ _ _ _ h)

/-! #### Doors -/

theorem haulSound_raiseObstructed {i : Nat} (h : s.haulSound) : (raiseObstructed i s).haulSound := by
  simp only [raiseObstructed]
  (repeat' split)
  · exact haulSound_raise h
  · exact h
  · exact h

theorem haulSound_raiseUnproven {i : Nat} (h : s.haulSound) : (raiseUnproven i s).haulSound := by
  simp only [raiseUnproven]
  split
  · exact haulSound_raise h
  · exact h

theorem haulSound_obstructAlone {i : Nat} (h : s.haulSound) : (obstructAlone i s).haulSound := by
  have raised : (raiseObstructed i (countObstruction i s)).haulSound := haulSound_raiseObstructed h
  simp only [obstructAlone]
  exact raised.congr (by simp)

theorem haulSound_obstruct {c : Car} {is : List Nat} (h : s.haulSound) : (obstruct c is s).haulSound := by
  have counted : (forEach countObstruction is s).haulSound :=
    haulSound_forEach (fun i t ht => (ht.congr (by simp))) _ _ h
  have raised : (forEach raiseObstructed is (forEach countObstruction is s)).haulSound :=
    haulSound_forEach (fun i t ht => haulSound_raiseObstructed ht) _ _ counted
  have reopened : ∀ l (t : State), t.haulSound → (forEach enterOpening l t).haulSound :=
    haulSound_forEach (fun i t ht => (ht.congr (by simp)))
  simp only [obstruct]
  split
  · exact h
  · refine reopened _ _ ?_
    split
    · exact raised.congr (by simp)
    · exact counted

theorem haulSound_sendClosing {c : Car} {is : List Nat} (h : s.haulSound) : (sendClosing c is s).haulSound := by
  have started : (forEach startClosing is s).haulSound := haulSound_forEach (fun i t ht => (ht.congr (by simp))) _ _ h
  have locked : ∀ l, (forEach enterLocked l (forEach startClosing is s)).haulSound :=
    fun l => haulSound_forEach (fun i t ht => (ht.congr (by simp))) _ _ started
  simp only [sendClosing]
  split
  · exact locked _
  · exact haulSound_obstruct (locked _)

theorem haulSound_closeWhileDue {c : Car} : ∀ n (s : State), s.haulSound → (closeWhileDue c n s).haulSound
  | 0, _, h => h
  | n + 1, s, h => by
    simp only [closeWhileDue]
    (repeat' split)
    · exact h
    · exact haulSound_closeWhileDue n _ (haulSound_sendClosing (h.congr (by simp)))
    · exact h

theorem haulSound_closeIfDue {c : Car} (h : s.haulSound) : (closeIfDue c s).haulSound := haulSound_closeWhileDue _ _ h

theorem haulSound_closeBoth (h : s.haulSound) : (closeBoth s).haulSound := haulSound_closeIfDue (haulSound_closeIfDue h)

theorem haulSound_closeOnDemand {c : Car} (h : s.haulSound) : (closeOnDemand c s).haulSound := by
  simp only [closeOnDemand]
  (repeat' split)
  · exact h
  · exact haulSound_closeIfDue (haulSound_sendClosing h)
  · exact haulSound_closeIfDue h

theorem haulSound_closeAtDwell {c : Car} (h : s.haulSound) : (closeAtDwell c s).haulSound := by
  simp only [closeAtDwell]
  (repeat' split)
  · exact h
  · exact haulSound_closeIfDue (haulSound_sendClosing (h.congr (by simp)))
  · exact h.congr (by simp)

theorem haulSound_closedChanged {i : Nat} {v : Bool} (h : s.haulSound) : (closedChanged i v s).haulSound := by
  have unproven : ∀ t : State, t.haulSound → (enterUnproven i t).haulSound := fun t ht =>
    haulSound_raise (ht.congr (by simp))
  simp only [closedChanged]
  split
  · exact unproven _ h
  · exact State.haulSound.congr (s := s) h (by simp)
  · exact State.haulSound.congr (s := s) h (by simp)
  · exact h

theorem haulSound_openedChanged {i : Nat} {v : Bool} (h : s.haulSound) : (openedChanged i v s).haulSound := by
  simp only [openedChanged]
  split
  · exact haulSound_closeBoth (State.haulSound.congr (s := s) h (by simp))
  · exact h

theorem haulSound_obstructionChanged {i : Nat} {v : Bool} (h : s.haulSound) : (obstructionChanged i v s).haulSound := by
  simp only [obstructionChanged]
  split
  · exact haulSound_closeIfDue (haulSound_obstruct h)
  · exact haulSound_obstructAlone h
  · exact h

theorem haulSound_doorInput {i : Nat} {x : DoorInput} {v : Bool} (h : s.haulSound) : (doorInput i x v s).haulSound := by
  simp only [doorInput]
  (repeat' split)
  · exact h
  · exact haulSound_closedChanged h
  · exact h
  · exact haulSound_openedChanged h
  · exact h
  · exact haulSound_obstructionChanged h

theorem haulSound_doorReport {c : Car} {x y z : Bool} (h : s.haulSound) : (doorReport c x y z s).haulSound :=
  haulSound_doorInput (haulSound_doorInput (haulSound_doorInput h))

theorem haulSound_openProofExpires {i : Nat} (h : s.haulSound) : (openProofExpires i s).haulSound :=
  haulSound_closeBoth ((haulSound_raise (k := ⟨.doorTimeout, i⟩) h).congr (by simp))

theorem haulSound_closeProofExpires {i : Nat} (h : s.haulSound) : (closeProofExpires i s).haulSound := by
  have raised : (raise ⟨.doorTimeout, i⟩ s).haulSound := haulSound_raise h
  simp only [closeProofExpires]
  split <;> exact raised.congr (by simp)

theorem haulSound_dwellExpires (h : s.haulSound) : (dwellExpires s).haulSound := by
  have expired : (setDwell .expired s).haulSound := h.congr (by simp)
  simp only [dwellExpires]
  (repeat' split)
  · exact haulSound_closeAtDwell (haulSound_closeAtDwell expired)
  · exact haulSound_closeAtDwell expired
  · exact haulSound_closeAtDwell expired
  · exact expired

theorem haulSound_newDoors {n : Nat} (h : s.haulSound) : (newDoors n s).haulSound := by
  simp only [newDoors]
  refine haulSound_forEach (fun i t ht => haulSound_raiseUnproven ht) _ _ ?_
  generalize hq : forEach _ [0, 1] s = q
  have sent : q.haulSound := by
    rw [← hq]
    refine haulSound_forEach (fun i t ht => ?_) _ _ h
    (repeat' split) <;> exact ht
  exact State.haulSound.congr (s := q) sent (by simp)

theorem haulSound_restartDoors (h : s.haulSound) : (restartDoors s).haulSound := by
  simp only [restartDoors]
  refine haulSound_forEach (fun i t ht => ?_) _ _
    (haulSound_forEach (fun i t ht => haulSound_raiseUnproven ht) _ _ h)
  (repeat' split)
  · exact haulSound_raise ht
  · exact ht
  · exact ht

end

end Sys2Proof.Machine
end

section

namespace Sys2Proof.Machine

section

variable {s : State}

/-! #### Trips -/

/-- A departure begins from a PARKED haul, so that no stop is recorded (03 R51). -/
theorem haulSound_enterWarning (haul : s.hc.haul = .parked) (h : s.haulSound) : (enterWarning s).haulSound :=
  ⟨fun _ => h.no_stop (by simp [haul]), fun hn => absurd rfl hn⟩

theorem haulSound_openTrip {target : Option Nat} {d : Dir} (haul : s.hc.haul = .parked) (h : s.haulSound) :
    (openTrip target d s).haulSound := by
  have dissolved : (dissolveBoth s).haulSound ∧ (dissolveBoth s).hc.haul = .parked :=
    ⟨h.congr (by simp), by simpa using haul⟩
  simp only [openTrip]
  split
  · exact haulSound_enterWarning dissolved.2 dissolved.1
  · exact haulSound_enterWarning haul h

/-- The checks of a dispatch pass for a PARKED haul alone (03 R50). -/
theorem checkDispatch_parked {target direction : Nat} {r : Option Nat × Dir}
    (hr : s.checkDispatch target direction = .ok r) : s.hc.haul = .parked := by
  by_contra haul
  simp [State.checkDispatch, haul] at hr

/-- The checks of a resume pass for a PARKED haul alone (03 R60). -/
theorem checkResume_parked (hr : s.checkResume = none) : s.hc.haul = .parked := by
  by_contra haul
  simp [State.checkResume, haul] at hr

theorem haulSound_attempt (h : s.haulSound) : (attempt s).haulSound := by
  simp only [attempt]
  (repeat' split)
  · exact h
  · exact h
  · rename_i checked
    exact haulSound_openTrip (checkDispatch_parked checked) h

theorem haulSound_runAttempts {before : State} (h : s.haulSound) : (runAttempts before s).haulSound := by
  have attempted := haulSound_attempt h
  simp only [runAttempts]
  (repeat' split)
  · exact attempted
  · exact attempted
  · exact h
  · exact h

theorem haulSound_warningExpires (haul : s.hc.haul = .warning) (h : s.haulSound) : (warningExpires s).haulSound := by
  have releasing : (s.modHc fun g => { g with haul := .releasing, warnDue := none, drive := .holding }).haulSound :=
    haulSound_idle (h.no_stop (by simp [haul])) rfl
  exact haulSound_releaseBrake (haulSound_releaseBrake releasing)

theorem haulSound_judgeApproach (h : s.haulSound) : (judgeApproach s).haulSound := by
  simp only [judgeApproach]
  split
  · rename_i near
    exact haulSound_idle (h.no_stop (by simp [near.1])) (h.no_warning (by simp [near.1]))
  · exact h

theorem haulSound_judgePairSeen {before : Option Nat} (h : s.haulSound) : (judgePairSeen before s).haulSound := by
  simp only [judgePairSeen]
  (repeat' split)
  · rename_i seen
    exact haulSound_idle (h.no_stop (by simp [seen.1])) (h.no_warning (by simp [seen.1]))
  · exact h
  · exact h

theorem haulSound_park (stop : s.bl.stop = none) (warn : s.hc.warnDue = none) : (park s).haulSound :=
  haulSound_idle stop warn

theorem haulSound_judgeArrival (haul : s.hc.haul = .approach) (h : s.haulSound) : (judgeArrival s).haulSound := by
  have parked : (park s).haulSound := haulSound_park (h.no_stop (by simp [haul])) (h.no_warning (by simp [haul]))
  have arrived : ∀ k, (arrive k s).haulSound := by
    intro k
    refine parked.congr ⟨?_, ?_⟩
    · simp only [arrive, headFrom_departure]
      rfl
    · rw [arrive_bl]
  have overran : (overrun s).haulSound :=
    haulSound_parkedCycle (haulSound_abandonTrip (haulSound_followHeading parked))
  have missed : ∀ t k, (missStop t k s).haulSound := by
    intro t k
    simp only [missStop]
    split
    · exact h
    · exact haulSound_raise overran
  simp only [judgeArrival]
  (repeat' split)
  · exact h
  · exact h
  · exact arrived _
  · exact overran
  · exact arrived _
  · exact missed _ _

theorem haulSound_endStop (haul : s.hc.haul = .stopping) (h : s.haulSound) : (endStop s).haulSound := by
  have parked : ∀ r : StopRec, (stopParked r s).haulSound := by
    intro r
    simp only [stopParked]
    split <;> exact haulSound_idle rfl (h.no_warning (by simp [haul]))
  have headed : ∀ r : StopRec, (followHeading (stopParked r s)).haulSound := fun r =>
    haulSound_followHeading (parked r)
  simp only [endStop]
  split
  · exact h
  · rename_i r _
    refine haulSound_parkedCycle ?_
    split
    · exact headed r
    · exact haulSound_abandonTrip (headed r)

theorem haulSound_haulAtStandstill (h : s.haulSound) : (haulAtStandstill s).haulSound := by
  simp only [haulAtStandstill]
  split
  · exact haulSound_judgeArrival ‹_› h
  · exact haulSound_endStop ‹_› h
  · exact h

/-! #### Car lines and line restart -/

theorem haulSound_trackBrakeReport {c : Car} {v : Bool} (h : s.haulSound) : (trackBrakeReport c v s).haulSound := by
  have told : (carMessage c s).haulSound := h.congr (by simp)
  simp only [trackBrakeReport]
  split
  · exact haulSound_raise told
  · exact told
  · exact told

theorem haulSound_buttonReport {c : Car} {v : Bool} (h : s.haulSound) : (buttonReport c v s).haulSound := by
  have told : (modCarLine c (fun x => { x with buttonPressed := v }) (carMessage c s)).haulSound := h.congr (by simp)
  have woken : (if v = true then wake .carLine (modCarLine c (fun x => { x with buttonPressed := v }) (carMessage c s))
      else modCarLine c (fun x => { x with buttonPressed := v }) (carMessage c s)).haulSound := by
    split
    · exact told.congr (by simp)
    · exact told
  simp only [buttonReport]
  split
  · exact haulSound_raise woken
  · exact woken
  · exact woken

theorem haulSound_restartCarFaults (h : s.haulSound) : (restartCarFaults s).haulSound := by
  have again : ∀ (c : Car) (p q : Prop) [Decidable p] [Decidable q] (t : State), t.haulSound →
      (if q then raise ⟨.carEmergencyRequest, c.index⟩ (if p then raise ⟨.carBrakeTripped, c.index⟩ t else t)
        else if p then raise ⟨.carBrakeTripped, c.index⟩ t else t).haulSound := by
    intro c p q _ _ t ht
    split_ifs
    · exact haulSound_raise (haulSound_raise ht)
    · exact haulSound_raise ht
    · exact haulSound_raise ht
    · exact ht
  exact again _ _ _ _ (again _ _ _ _ h)

/-- A line restart clears the stop record and the warning interval before it decides the haul state (03 R63,
04 R83). -/
theorem haulSound_restartHaul : (restartHaul s).haulSound := by
  simp only [restartHaul]
  (repeat' split)
  · exact haulSound_emergencyDemand (haulSound_idle rfl rfl)
  · exact haulSound_idle rfl rfl
  · exact haulSound_followHeading (haulSound_applyBrake (haulSound_idle rfl rfl))
  · exact haulSound_followHeading (haulSound_applyBrake (haulSound_idle rfl rfl))

/-! #### Brake tests -/

theorem haulSound_endPulse {t : Test} {pass : Bool} (h : s.haulSound) : (endPulse t pass s).haulSound := by
  simp only [endPulse]
  split
  · exact h
  · exact haulSound_raise (s := State.modBpu _ (command .noTorque s)) h

theorem haulSound_judgeSlip (h : s.haulSound) : (judgeSlip s).haulSound := by
  simp only [judgeSlip]
  (repeat' split)
  · exact h
  · exact haulSound_endPulse h
  · exact h
  · exact h

theorem haulSound_pulseExpires (h : s.haulSound) : (pulseExpires s).haulSound := by
  simp only [pulseExpires]
  (repeat' split)
  · exact h
  · exact haulSound_endPulse h
  · exact h

theorem haulSound_startTest {b : Brake} {d : Dir} {torque duration : Nat} (haul : s.hc.haul = .parked)
    (h : s.haulSound) : (startTest b d torque duration s).haulSound := by
  have testing : (setHaul .brakeTest s).haulSound :=
    haulSound_idle (h.no_stop (by simp [haul])) (h.no_warning (by simp [haul]))
  simp only [startTest]
  split
  · exact testing
  · refine haulSound_releaseBrake ?_
    exact testing

theorem haulSound_finishTest (haul : s.hc.haul = .brakeTest) (h : s.haulSound) : (finishTest s).haulSound := by
  refine haulSound_parkedCycle (haulSound_followHeading ?_)
  exact haulSound_idle (h.no_stop (by simp [haul])) (h.no_warning (by simp [haul]))

/-! #### The brake ladder -/

theorem haulSound_feedback {b : Brake} {x : FeedbackInput} {v : Bool} (h : s.haulSound) :
    (feedback b x v s).haulSound := by
  simp only [feedback]
  (repeat' split)
  · exact haulSound_raise (haulSound_applyBrake h)
  · exact haulSound_raise h
  · exact h

theorem haulSound_tellProven (h : s.haulSound) : (tellProven s).haulSound := by
  simp only [tellProven]
  (repeat' split)
  · rename_i haul _
    exact haulSound_idle (h.no_stop (by simp [haul])) (h.no_warning (by simp [haul]))
  · exact h
  · exact h
  · exact h
  · exact haulSound_finishTest ‹_› h
  · exact h
  · exact h

theorem haulSound_proveBrakes (h : s.haulSound) : (proveBrakes s).haulSound := haulSound_tellProven (h.congr (by simp))

/-- A stop record changed stays in STOPPING. -/
theorem haulSound_modStop {f : StopRec → StopRec} (h : s.haulSound) : (modStop f s).haulSound :=
  ⟨fun hn => by simp [modStop, h.1 hn], h.2⟩

theorem haulSound_driveFault (h : s.haulSound) : (driveFault s).haulSound := by
  simp only [driveFault]
  split
  · exact haulSound_raise h
  · exact haulSound_raise h
  · exact haulSound_moveStage2 (haulSound_enterStopping (by simp [*]) h)
  · exact haulSound_moveStage2 (haulSound_enterStopping (by simp [*]) h)
  · (repeat' split)
    · exact haulSound_moveStage2 h
    · exact h
    · exact h
  · exact h.congr (by simp)
  · exact h
  · exact h

theorem haulSound_driveReport {ready : Bool} (h : s.haulSound) : (driveReport ready s).haulSound := by
  have reported : (s.modBl fun l => { l with driveReady := ready }).haulSound := h
  simp only [driveReport]
  (repeat' split)
  · exact h
  · exact reported
  · exact haulSound_driveFault reported

/-- A stop that fails its check is recorded, so that the haul is STOPPING (04 R74). -/
theorem haulSound_escalationCheck {v : Nat} (h : s.haulSound) : (escalationCheck v s).haulSound := by
  simp only [escalationCheck]
  split
  · exact haulSound_modStop h
  · split
    · rename_i r recorded
      have haul : s.hc.haul ≠ .warning := fun hw => by simp [h.no_stop (by simp [hw])] at recorded
      split
      · exact haulSound_moveStage2 (haulSound_modStop h)
      · exact haulSound_moveStage3 haul (haulSound_modStop h)
    · exact haulSound_modStop h

theorem haulSound_restartBrake {b : Brake} (h : s.haulSound) : (restartBrake b s).haulSound := by
  simp only [restartBrake]
  split
  · exact haulSound_raise h
  · exact h

theorem haulSound_restartBrakes (h : s.haulSound) : (restartBrakes s).haulSound := by
  have fed : (restartBrake .emergency (restartBrake .holding s)).haulSound :=
    haulSound_restartBrake (haulSound_restartBrake h)
  simp only [restartBrakes]
  refine haulSound_judgeEnvelope ?_
  exact fed

theorem haulSound_supervisionLoss (h : s.haulSound) : (supervisionLoss s).haulSound := by
  have lost : (raise ⟨.supervisionLost, 0⟩
      (s.modMau fun m => { m with supervision := .lost, supDue := none })).haulSound := haulSound_raise h
  simp only [supervisionLoss]
  exact lost.congr (by simp)

/-! #### LINE_SET, line restart and full reset -/

theorem haulSound_loadLine {r : LineRec} (h : s.haulSound) : (loadLine r s).haulSound := by
  rw [loadLine_eq]
  refine haulSound_evaluateReferencing ?_
  exact h.congr (by simp [lineTaken])

theorem haulSound_acceptLine {r : LineRec} (h : s.haulSound) : (acceptLine r s).haulSound := by
  have loaded : (loadLine r (emptyHistories (dissolveBoth s))).haulSound := haulSound_loadLine (h.congr (by simp))
  have discarded : (removeLaneFaults (discardTrips (loadLine r (emptyHistories (dissolveBoth s))))).haulSound :=
    (loaded.congr (by simp))
  have marked : ∀ (l : List NoticeKey) (t : State), t.haulSound → (markAll l t).haulSound := fun l t ht =>
    ht.congr (by simp)
  refine marked _ _ (haulSound_newDoors ?_)
  exact discarded

theorem haulSound_lineRestart : (lineRestart s).haulSound := by
  have supervised : ∀ t : State, t.haulSound → (restartSupervision t).haulSound := fun t ht => ht.congr (by simp)
  have restarted : ∀ t : State, t.haulSound → (restartSpeed t).haulSound :=
    fun t ht => haulSound_judgeEncoders ht
  exact supervised _ (haulSound_restartCarFaults (haulSound_restartBrakes (haulSound_evaluateReferencing
    (haulSound_restartPosition (haulSound_restartTensionFaults (restarted _ (haulSound_restartDoors
      (haulSound_restartGates haulSound_restartHaul))))))))

theorem haulSound_fullReset : (fullReset s).haulSound := by
  obtain ⟨hc, bl, -, -⟩ := fullReset_blocks s
  exact haulSound_idle (by rw [bl]; rfl) (by rw [hc]; rfl)

/-! #### The end of an event -/

theorem haulSound_settlePlant (h : s.haulSound) : (settlePlant s).haulSound :=
  haulSound_proveBrakes (haulSound_judgeEnvelope (haulSound_judgeEncoders (haulSound_proveBrakes h)))

theorem haulSound_settleHaul {before : State} (h : s.haulSound) : (settleHaul before s).haulSound := by
  simp only [settleHaul]
  refine haulSound_runAttempts ?_
  exact h.congr (by simp [settleDoors])

theorem haulSound_finish {before : State} (h : s.haulSound) : (finish before s).haulSound := by
  have settled : (settleHaul before (settlePlant s)).haulSound := haulSound_settleHaul (haulSound_settlePlant h)
  simp only [finish, settle]
  exact settled.congr (by simp)

theorem haulSound_transmit (h : s.haulSound) : (transmit s).haulSound := h.congr (by simp)

theorem haulSound_event {f : State → State} (h : (f s).haulSound) : (event f s).haulSound :=
  haulSound_transmit (haulSound_finish h)

/-! #### Movement and standstill -/

theorem haulSound_judgeMovement {before : State} (h : s.haulSound) : (judgeMovement before s).haulSound := by
  have crossed : (judgeCrossing (before.carPos .a) s).haulSound := h.congr (by simp)
  have committed : ∀ t : State, t.haulSound → (judgeCommit t).haulSound := fun t ht => ht.congr (by simp)
  exact haulSound_judgeSlip (committed _ (haulSound_judgeApproach crossed))

theorem haulSound_driveEdge {d : Dir} (h : s.haulSound) : (driveEdge d s).haulSound := by
  have stood : ∀ t : State, t.haulSound → (standbyEdge d t).haulSound := fun t ht => ht.congr (by simp)
  have counted : (countEdge d s).haulSound := h.congr (by simp)
  exact haulSound_judgeMovement (stood _ (haulSound_followCars counted))

theorem haulSound_takeEdge {e : Encoder} {d : Dir} (h : s.haulSound) : (takeEdge e d s).haulSound := by
  have taken : (followTopSpeed (speedEdge e d s)).haulSound := h.congr (by simp)
  cases e
  · exact haulSound_driveEdge taken
  · exact taken

theorem haulSound_presence {i : Nat} {v : PresenceReport} (h : s.haulSound) : (presence i v s).haulSound := by
  simp only [presence]
  split
  · exact haulSound_judgeMovement (haulSound_evaluateReferencing (haulSound_judgePairSeen h))
  · exact h

theorem haulSound_takePulse {j : Nat} (h : s.haulSound) : (takePulse j s).haulSound := by
  simp only [takePulse]
  split
  · exact haulSound_judgeMovement (haulSound_pulse h)
  · exact h

theorem haulSound_quiet {e : Encoder} (h : s.haulSound) : (quiet e s).haulSound := by
  have still : (haulAtStandstill (modSpeed e SpeedChannel.silence s)).haulSound := haulSound_haulAtStandstill h
  simp only [quiet, beginStandstill]
  split
  · refine haulSound_judgeMovement (haulSound_evaluateReferencing ?_)
    exact still
  · exact h

end

end Sys2Proof.Machine
end

section

namespace Sys2Proof.Machine

section

variable {s : State}

/-! ### Requests keep the stop record to STOPPING and the warning interval to WARNING -/

theorem haulSound_markAll {l : List NoticeKey} (h : s.haulSound) : (markAll l s).haulSound := h.congr (by simp)

theorem haulSound_setLanes {l : List LaneDesc} (h : s.haulSound) : Answer.All State.haulSound (setLanes l s) := by
  have cleared : (removeLaneFaults s).haulSound := h.congr (by simp)
  simp only [setLanes]
  (repeat' split) <;> simp only [all_error, all_done]
  exact haulSound_markAll (haulSound_raiseJams _ _ cleared)

theorem haulSound_openDoors {pair : Nat} (h : s.haulSound) : Answer.All State.haulSound (openDoors pair s) := by
  simp only [openDoors]
  (repeat' split) <;> simp only [all_error, all_done]
  all_goals exact h.congr (by simp)

theorem haulSound_setHold {c : Car} {k : Nat} {v : Bool} (h : s.haulSound) : (setHold c k v s).haulSound :=
  h.congr (by simp)

theorem haulSound_modReleased {c : Car} {f : Released → Released} (h : s.haulSound) :
    (modReleased c f s).haulSound := h.congr (by simp)

theorem haulSound_closeDoors {pair : Nat} (h : s.haulSound) : Answer.All State.haulSound (closeDoors pair s) := by
  have cleared : ∀ l, (forEach (fun i => modDoor i (fun d => { d with reopen := 0, hold := false })) l s).haulSound :=
    fun l => haulSound_forEach (fun i t ht => (ht.congr (by simp))) l s h
  simp only [closeDoors]
  (repeat' split) <;> simp only [all_error, all_done]
  · exact h
  · exact haulSound_closeIfDue (haulSound_sendClosing (haulSound_modReleased (cleared _)))

theorem haulSound_unholdDoors {pair : Nat} (h : s.haulSound) : Answer.All State.haulSound (unholdDoors pair s) := by
  simp only [unholdDoors]
  (repeat' split) <;> simp only [all_error, all_done]
  · exact h
  · exact haulSound_closeOnDemand (haulSound_modReleased (haulSound_setHold h))
  · exact haulSound_setHold h

theorem haulSound_dispatchTrip {target direction : Nat} (h : s.haulSound) :
    Answer.All State.haulSound (dispatchTrip target direction s) := by
  simp only [dispatchTrip]
  split
  · exact all_error _ _
  · rename_i checked
    rw [all_ok]
    exact haulSound_openTrip (checkDispatch_parked checked) h

theorem haulSound_holdTrip (h : s.haulSound) : Answer.All State.haulSound (holdTrip s) := by
  simp only [holdTrip]
  split <;> simp only [all_error, all_done]
  · exact haulSound_abandonDeparture h
  · exact haulSound_abandonDeparture h
  · exact haulSound_enterStopping (by simp [*]) h
  · exact haulSound_enterStopping (by simp [*]) h
  · exact h

theorem haulSound_resumeTrip (h : s.haulSound) : Answer.All State.haulSound (resumeTrip s) := by
  have ready : (s.modHc fun g => { g with cycle := .ready }).haulSound := h
  simp only [resumeTrip]
  split
  · exact (all_ok _ _ _).2 (haulSound_attempt ready)
  · split
    · exact all_error _ _
    rename_i checked
    have haul := checkResume_parked checked
    rw [all_ok]
    have resumed : (s.modHc fun g => { g with trip := g.trip.resumed s.tripKind }).haulSound := h
    exact haulSound_enterWarning haul resumed

theorem haulSound_resetTrip {level : Nat} (h : s.haulSound) : Answer.All State.haulSound (resetTrip level s) := by
  have marked : ∀ t : State, t.haulSound → (parkedCycle false (mark .brakes (mark .haul t))).haulSound :=
    fun t ht => haulSound_parkedCycle ht
  simp only [resetTrip]
  split
  · exact all_error _ _
  · rename_i tripped
    have haul : s.hc.haul = .tripped := not_not.1 tripped
    (repeat' split) <;> simp only [all_error, all_done]
    · exact marked _ (haulSound_idle (h.no_stop (by simp [haul])) (h.no_warning (by simp [haul])))
    · exact marked _ (haulSound_releaseBrake
        (haulSound_idle (h.no_stop (by simp [haul])) (h.no_warning (by simp [haul]))))

theorem haulSound_testBrake {brake direction torque duration : Nat} (h : s.haulSound) :
    Answer.All State.haulSound (testBrake brake direction torque duration s) := by
  simp only [testBrake]
  (repeat' split) <;> simp only [all_error, all_done]
  rename_i ready _ _ _ _
  exact haulSound_startTest (not_not.1 ready).1 h

theorem haulSound_own {level : Nat} {r : Request} (h : s.haulSound) : Answer.All State.haulSound (own level r s) := by
  cases r with
  | lineSet x =>
    simp only [own, setLine]
    split_ifs <;> simp [haulSound_acceptLine h]
  | markersSet limit l =>
    simp only [own, setMarkers]
    (repeat' split) <;> simp only [all_error, all_done]
    all_goals exact State.haulSound.congr (s := s) h (by simp)
  | profileSet p =>
    simp only [own, setProfile]
    (repeat' split) <;> simp only [all_error, all_done]
    all_goals exact h
  | tensionSet one two =>
    simp only [own, setTension]
    split <;> simp only [all_error, all_done]
    exact h
  | lanesSet l => exact haulSound_setLanes h
  | postsSet l =>
    simp only [own, setPosts]
    split <;> simp only [all_error, all_done]
    exact h
  | paramSet scope p =>
    simp only [own, setParams]
    (repeat' split) <;> simp only [all_error, all_done]
    · exact h.congr (by simp)
    · exact h.congr (by simp)
  | ticketsLoad t =>
    simp only [own, loadTickets]
    (repeat' split) <;> simp only [all_error, all_done]
    all_goals exact h
  | ticketsDrop b =>
    simp only [own, dropTickets]
    (repeat' split) <;> simp only [all_error, all_done]
    all_goals exact h
  | ticketQuery n =>
    simp only [own, queryTicket]
    split <;> simp only [all_error, all_ok]
    exact h
  | daySet day time =>
    simp only [own, setDay]
    (repeat' split) <;> simp only [all_error, all_done]
    all_goals exact h
  | modeSet m =>
    simp only [own, setMode]
    (repeat' split) <;> simp only [all_error, all_done]
    · exact h
    · exact h.congr (by simp)
  | dispatch t d => exact haulSound_dispatchTrip h
  | hold => exact haulSound_holdTrip h
  | resume => exact haulSound_resumeTrip h
  | stopNow => exact (all_done _ _).2 (haulSound_raise h)
  | tripReset => exact haulSound_resetTrip h
  | doors o p a =>
    simp only [own, ownDoors]
    split
    · exact haulSound_openDoors h
    · exact haulSound_closeDoors h
    · simp only [holdDoors]
      (repeat' split) <;> simp only [all_error, all_done]
      exact haulSound_setHold h
    · exact haulSound_unholdDoors h
    · exact all_error _ _
  | lane l o =>
    simp only [own, ownLane, setLaneClosed, clearLane]
    (repeat' split) <;> simp only [all_error, all_done]
    all_goals exact h
  | queue q o =>
    simp only [own, ownQueue, setQueueClosed]
    (repeat' split) <;> simp only [all_error, all_done]
    all_goals exact h
  | forceStop k o =>
    simp only [own, ownForceStop, forceStop]
    (repeat' split) <;> simp only [all_error, all_done]
    all_goals exact h
  | weatherSet w =>
    simp only [own, setWeather]
    split <;> simp only [all_error, all_done]
    exact h
  | amend c g v a d =>
    simp only [own, amendClass]
    (repeat' split) <;> simp only [all_error, all_ok]
    all_goals exact h
  | brakeTest b d t u => exact haulSound_testBrake h
  | faultsAck => exact (all_ok _ _ _).2 h
  | restart =>
    simp only [own, restartLineRequest]
    split <;> simp [haulSound_lineRestart]
  | carRead c =>
    simp only [own, readCar]
    split <;> simp [h]
  | queueRead q p =>
    simp only [own, readQueue]
    split <;> simp [h]
  | laneRead l =>
    simp only [own, readLane]
    split <;> simp [h]
  | statusRead | faultsRead | tripRead | brakesRead | tensionRead => exact (all_ok _ _ _).2 h

/-! ### The line link -/

theorem haulSound_judgeFrame {f : HeldFrame} (h : s.haulSound) : (judgeFrame f s).1.haulSound := by
  simp only [judgeFrame]
  (repeat' split)
  · exact h
  · exact h
  · exact h
  · exact haulSound_own h _ _ ‹_›
  · exact h

theorem haulSound_modLl {f : Ll → Ll} (h : s.haulSound) : (s.modLl f).haulSound := h

theorem haulSound_take {f : HeldFrame} (h : s.haulSound) : (take f s).haulSound :=
  haulSound_transmit (haulSound_modLl (haulSound_finish (haulSound_judgeFrame (haulSound_modLl h))))

theorem haulSound_serveWhile : ∀ n (s : State), s.haulSound → (serveWhile n s).haulSound
  | 0, _, h => h
  | n + 1, s, h => by
    simp only [serveWhile]
    split
    · exact haulSound_serveWhile n _ (haulSound_take h)
    · exact h

theorem haulSound_serve (h : s.haulSound) : (serve s).haulSound := haulSound_serveWhile 2 s h

theorem haulSound_receive {f : HeldFrame} (h : s.haulSound) : (receive f s).haulSound := by
  have valid : ∀ t : State, t.haulSound → (validFrame t).haulSound := fun t ht => ht.congr (by simp)
  simp only [receive]
  split
  · exact valid _ h
  · exact h

theorem haulSound_frameArrives {f : HeldFrame} (h : s.haulSound) : (frameArrives f s).haulSound :=
  haulSound_serve (haulSound_event (haulSound_receive h))

theorem haulSound_byteIn {b : Byte} (h : s.haulSound) : (byteIn b s).haulSound := by
  have hunted : (hunt s).haulSound := h
  have framed : ∀ l, (inFrame l s).haulSound := fun l => h
  simp only [byteIn, checkFrame]
  (repeat' split) <;> simp [h, hunted, framed, haulSound_receive]

/-! ### Commands and steps -/

theorem haulSound_expire {due : Option Nat} {f : State → State} (hf : ∀ t : State, t.haulSound → (f t).haulSound)
    (h : s.haulSound) : (expire due f s).haulSound := by
  simp only [expire]
  split
  · exact h
  · exact haulSound_event (hf _ (haulSound_passUntil h))

/-- The haul is still in WARNING when its interval has run out. -/
theorem haulSound_warningExpiry (h : s.haulSound) : (expire s.hc.warnDue warningExpires s).haulSound := by
  simp only [expire]
  split
  · exact h
  · rename_i u due
    have warning : s.hc.haul = .warning := by
      by_contra hn
      simp [h.2 hn] at due
    have still := passTime_frame s (u - s.now) (underTripCeiling_false (by simp [warning]) (by simp [warning]))
    have later : (passUntil u s).hc.haul = .warning := by
      rw [passUntil, still.hc]
      exact warning
    exact haulSound_event (haulSound_warningExpires later (haulSound_passUntil h))

theorem haulSound_exec {i : Instr} {t : State} (h : s.haulSound) (hx : exec i s = .next t) : t.haulSound := by
  have request : ∀ x r, .next (requestArrives x r s) = (.next t : Result) → t.haulSound := by
    rintro x r ⟨⟩
    exact haulSound_frameArrives h
  have happen : ∀ f : State → State, .next (event f s) = (.next t : Result) → (f s).haulSound → t.haulSound := by
    rintro f ⟨⟩ hf
    exact haulSound_event hf
  have expired : ∀ due (f : State → State), .next (expire due f s) = (.next t : Result) →
      (∀ u : State, u.haulSound → (f u).haulSound) → t.haulSound := by
    rintro due f ⟨⟩ hf
    exact haulSound_expire hf h
  have changed : ∀ (same : Prop) [Decidable same] (f : State → State),
      (if same then .next s else .next (event f s)) = (.next t : Result) → (f s).haulSound → t.haulSound := by
    intro same _ f hx hf
    split at hx
    · cases hx
      exact h
    · exact happen f hx hf
  cases i with
  | unknownKindFrame x kind =>
    cases hx
    exact haulSound_frameArrives h
  | fullReset =>
    cases hx
    exact haulSound_fullReset
  | restartLine => exact happen _ hx haulSound_lineRestart
  | encoderEdge e d n => exact happen _ hx (haulSound_takeEdge (haulSound_passTime h))
  | estimateDecay n | effectiveCeilingFall n => exact happen _ hx (haulSound_passTime h)
  | quietExpiry e => exact expired _ _ hx fun u hu => haulSound_quiet hu
  | disagreementIntervalExpiry => exact expired _ _ hx fun u hu => haulSound_disagreementExpires hu
  | presenceChange i v => exact changed _ _ hx (haulSound_presence h)
  | markerPulse j => exact happen _ hx (haulSound_takePulse h)
  | tensionConversion c raw => exact happen _ hx (haulSound_convert h)
  | missingConversionExpiry c =>
    exact expired _ _ hx fun u hu => haulSound_raise (s := modTension c _ u) hu
  | brakeFeedbackChange b x v => exact changed _ _ hx (haulSound_feedback h)
  | driveReportChange ready => exact changed _ _ hx (haulSound_driveReport h)
  | releaseProofExpiry b => exact expired _ _ hx fun u hu => haulSound_raise (haulSound_applyBrake hu)
  | applyProofExpiry b => exact expired _ _ hx fun u hu => haulSound_raise (s := modBrake b _ u) hu
  | escalationSample => exact expired _ _ hx fun u hu => haulSound_modStop hu
  | escalationCheck => exact expired _ _ hx fun u hu => haulSound_escalationCheck hu
  | warningExpiry =>
    cases hx
    exact haulSound_warningExpiry h
  | pulseExpiry => exact expired _ _ hx fun u hu => haulSound_pulseExpires hu
  | carLineSilenceExpiry c => exact expired _ _ hx fun u hu => haulSound_raise (s := modCarLine c _ u) hu
  | openProofExpiry i => exact expired _ _ hx fun u hu => haulSound_openProofExpires hu
  | closeProofExpiry i => exact expired _ _ hx fun u hu => haulSound_closeProofExpires hu
  | dwellExpiry => exact expired _ _ hx fun u hu => haulSound_dwellExpires hu
  | passageTimeout lane => exact expired _ _ hx fun u hu => hu.congr (by simp)
  | settleIntervalExpiry => exact expired _ _ hx fun u hu => haulSound_settleExpires hu
  | supervisionExpiry => exact expired _ _ hx fun u hu => haulSound_supervisionLoss hu
  | gapIntervalExpiry => exact expired _ _ hx fun u hu => haulSound_modLl hu
  | lineClockStop => exact expired _ _ hx fun u hu => hu
  | carTrackBrakeReport c v => exact happen _ hx (haulSound_trackBrakeReport h)
  | carEmergencyButtonReport c v => exact happen _ hx (haulSound_buttonReport h)
  | carStopRequest c v => exact happen _ hx (h.congr (by simp))
  | carDoorReport c x y z =>
    have told : (carMessage c s).haulSound := h.congr (by simp)
    exact happen _ hx (haulSound_doorReport told)
  | platformDoorInputChange i x v => cases x <;> exact changed _ _ hx (haulSound_doorInput h)
  | lanePresentation lane serial => exact happen _ hx (h.congr (by simp))
  | lanePassage lane => exact happen _ hx (h.congr (by simp))
  | leafJam lane => exact happen _ hx (haulSound_jamLane h)
  | leafJamWithdrawn lane => exact happen _ hx (h.congr (by simp))
  | linkByte b =>
    cases hx
    exact haulSound_serve (haulSound_event (haulSound_byteIn h))
  | frameSendEnd =>
    simp only [exec, execFrameSendEnd] at hx
    split at hx
    · cases hx
      exact h
    · cases hx
      exact haulSound_serve (haulSound_event (haulSound_modLl (haulSound_passUntil h)))
  | _ => exact request _ _ hx

theorem haulSound_step {t : State} (h : s.haulSound) (hx : Sys2Proof.Machine.step s = .next t) : t.haulSound := by
  simp only [Sys2Proof.Machine.step] at hx
  split at hx
  · have front : ∀ q, (s.setPending q).haulSound := fun q => h
    exact haulSound_exec (front _) hx
  · simp only [idleStep] at hx
    (repeat' split at hx)
    · cases hx
      exact haulSound_event (haulSound_passTime h)
    · exact haulSound_exec h hx
    · cases hx
      exact haulSound_event (haulSound_passTime h)

end

end Sys2Proof.Machine
end

section

namespace Sys2Proof.Machine

/-- Settles O11: every operation that changes the haul state leaves the stop record and the warning interval to
the state that has them, over every command and over the passing of time. -/
theorem stopsAndWarningsBelongToTheirHaulStates : Obligations.StopsAndWarningsBelongToTheirHaulStates :=
  fun _ _ h hx => haulSound_step h hx

end Sys2Proof.Machine
end

section

namespace Sys2Proof.Machine

/-! ### PROFILE_SET (03 R37) -/

/-- What PROFILE_SET in range does (03 R37; 09 R158). -/
theorem setProfile_accepted {s : State} {p : ProfileBody} {r : LineRec} (hl : s.lgp.line = some r)
    (ok : profileOk r.length s.hc.classes (if p.inspection = 0 then 1000 else p.inspection) p = true) :
    setProfile p s = done { s with
      hc := { s.hc with
        classes := updateAt (p.cls - 1) (fun _ => some (p.segments.map SegmentRec.load)) s.hc.classes,
        amendments := updateAt (p.cls - 1) (fun _ => none) s.hc.amendments,
        lineMax := some p.lineMax, inspection := some (if p.inspection = 0 then 1000 else p.inspection) },
      mau := { s.mau with config := { s.mau.config with
        profiles := updateAt (p.cls - 1) (fun _ => true) s.mau.config.profiles } } } := by
  simp only [setProfile, hl]
  rw [if_pos ok]
  rfl

/-- What PROFILE_SET out of range comes to (03 R37). -/
theorem setProfile_bounds {s : State} {p : ProfileBody} {r : LineRec} (hl : s.lgp.line = some r)
    (bad : profileOk r.length s.hc.classes (if p.inspection = 0 then 1000 else p.inspection) p = false) :
    setProfile p s = .error .bounds := by
  simp only [setProfile, hl]
  rw [if_neg (by simp [bad])]

/-- Settles O24: the checks of the owner, and the class and the speeds that it takes. -/
theorem profileSetLoadsOneClass : Obligations.ProfileSetLoadsOneClass := by
  rintro s q h p insp rfl rfl hp
  refine ⟨fun unloaded => refusedWith_of_own rfl rfl hp ?_, fun r hl => ⟨fun bad => ?_, fun ok => ?_⟩⟩
  · simp only [own, setProfile, unloaded]
  · exact refusedWith_of_own rfl rfl hp (setProfile_bounds hl bad)
  · exact doneWith_of_own rfl rfl hp (setProfile_accepted hl ok)

end Sys2Proof.Machine
end

section

namespace Sys2Proof.Machine

/-! ### Weather and forced stops (03 R41, R48) -/

/-- The numbers of the weather states (03 R41). -/
theorem weather?_eq (w : Nat) : weather? w = [Weather.dry, .wet, .ice][w]? := by
  match w with
  | 0 | 1 | 2 => rfl
  | n + 3 => simp [weather?]

/-- FORCE_STOP in range puts its stop into the forced subset or takes it away (03 R48). -/
theorem forceStop_inside {s : State} {k : Nat} (set : Bool) (low : 1 ≤ k) (high : k + 2 ≤ s.stations) :
    forceStop k set s = done { s with hc := { s.hc with
      forced := if set then insertSet k s.hc.forced else without k s.hc.forced } } := by
  rw [forceStop, if_neg (by omega)]
  rfl

/-- FORCE_STOP of a stop that is no intermediate one is out of range (03 R48). -/
theorem forceStop_outside {s : State} {k : Nat} (set : Bool) (out : k < 1 ∨ s.stations < k + 2) :
    forceStop k set s = .error .bounds := by
  rw [forceStop, if_pos out]

/-- Settles O30: the weather state by its number, and the forced subset by its members. -/
theorem weatherAndForcedStopsAreSet : Obligations.WeatherAndForcedStopsAreSet := by
  intro s h
  refine ⟨?_, ?_, ?_⟩
  · rintro w q rfl hp
    refine ⟨fun x hx => doneWith_of_own rfl rfl hp ?_, fun high => refusedWith_of_own rfl rfl hp ?_⟩
    · simp only [own, setWeather, weather?_eq, hx]
      rfl
    · have none : [Weather.dry, .wet, .ice][w]? = none := List.getElem?_eq_none high
      simp only [own, setWeather, weather?_eq, none]
  · rintro k q rfl hp
    refine ⟨fun out => refusedWith_of_own rfl rfl hp (forceStop_outside true out), fun low high => ?_⟩
    exact ⟨_, doneWith_of_own rfl rfl hp (forceStop_inside true low high), rfl, fun j => mem_insertSet k j _⟩
  · rintro k q rfl hp
    refine ⟨fun out => refusedWith_of_own rfl rfl hp (forceStop_outside false out), fun low high => ?_⟩
    exact ⟨_, doneWith_of_own rfl rfl hp (forceStop_inside false low high), rfl, fun j => mem_without k j _⟩

end Sys2Proof.Machine
end

section

namespace Sys2Proof.Machine

/-! ### AMEND (03 R39, R40) -/

/-- AMEND of a class in use leaves the amendment pending (03 R39). -/
theorem amendClass_waits {s : State} {n g v a d : Nat} {segs : List Segment} (hn : n ≠ 0)
    (hc : s.class? n = some segs) (hg : g < segs.length)
    (ok : (within 300 (s.hc.lineMax.getD 0) v && within 50 2000 a && within 50 2000 d) = true)
    (used : s.classInUse n = true) : amendClass n g v a d s = .ok ({ s with hc := { s.hc with
      amendments := updateAt (n - 1) (fun _ => some { segment := g, ceiling := v, accel := a, decel := d })
        s.hc.amendments } }, .amended true) := by
  simp only [amendClass, if_neg hn, hc, if_neg (Nat.not_le.2 hg), if_pos ok, if_pos used]
  rfl

/-- AMEND of a class that is not in use writes the segment at once; its ceiling does not fall (03 R40). -/
theorem amendClass_writes {s : State} {n g v a d : Nat} {segs : List Segment} (hn : n ≠ 0)
    (hc : s.class? n = some segs) (hg : g < segs.length)
    (ok : (within 300 (s.hc.lineMax.getD 0) v && within 50 2000 a && within 50 2000 d) = true)
    (idle : s.classInUse n = false) : amendClass n g v a d s = .ok ({ s with hc := { s.hc with
      classes := updateAt (n - 1) (fun c => c.map (updateAt g (fun x =>
        { x with ceiling := v, accel := a, decel := d, falling := none }))) s.hc.classes,
      amendments := updateAt (n - 1) (fun _ => none) s.hc.amendments } }, .amended false) := by
  have unused : ¬s.classInUse n = true := by simp [idle]
  simp only [amendClass, if_neg hn, hc, if_neg (Nat.not_le.2 hg), if_pos ok, if_neg unused]
  rfl

/-- Settles O42: the checks of the owner in their order, and the place that takes the amendment. -/
theorem amendWaitsWhileTheClassIsInUse : Obligations.AmendWaitsWhileTheClassIsInUse := by
  rintro s q h n g v a d rfl hp
  refine ⟨fun absent => refusedWith_of_own rfl rfl hp ?_, fun segs hn hc => ⟨fun short => ?_, fun hg =>
    ⟨fun bad => ?_, fun ok => ⟨fun used => ?_, fun idle => ?_⟩⟩⟩⟩
  · rcases absent with rfl | absent
    · rfl
    · simp only [own, amendClass, absent]
      split <;> rfl
  · refine refusedWith_of_own rfl rfl hp ?_
    simp only [own, amendClass, if_neg hn, hc, if_pos short]
  · refine refusedWith_of_own rfl rfl hp ?_
    simp only [own, amendClass, if_neg hn, hc, if_neg (Nat.not_le.2 hg), bad, Bool.false_eq_true, if_false]
  · exact doneWith_of_own rfl rfl hp (amendClass_waits hn hc hg ok used)
  · exact doneWith_of_own rfl rfl hp (amendClass_writes hn hc hg ok idle)

end Sys2Proof.Machine
end

section

namespace Sys2Proof.Machine

/-! ### HOLD (03 R59) -/

/-- HOLD in WARNING abandons the departure: the brakes were not asked for yet (03 R51). -/
theorem abandonDeparture_warning {s : State} (cause : EndCause) (haul : s.hc.haul = .warning) :
    abandonDeparture cause s = parkedCycle (decide (cause = .hold)) (abandonTrip cause
      (s.modHc fun g => { g with haul := .parked, warnDue := none })) := by
  simp only [abandonDeparture, haul]

/-- The cycle of a departure that a HOLD abandons in AUTOMATIC is HELD (03 R61). -/
theorem parkedCycle_held {s : State} (auto : s.mau.mode = .automatic) : (parkedCycle true s).hc.cycle = .held := by
  simp [parkedCycle, auto]

/-- What an abandoned departure leaves of the haul and the trip, and of the cycle after a HOLD (03 R51, R53,
R61). -/
theorem abandonDeparture_leaves {s : State} (cause : EndCause)
    (haul : s.hc.haul = .warning ∨ s.hc.haul = .releasing) :
    (abandonDeparture cause s).hc.haul = .parked ∧ (abandonDeparture cause s).hc.trip.state = .abandoned ∧
      (abandonDeparture cause s).hc.trip.cause = some cause ∧
      (s.mau.mode = .automatic → cause = .hold → (abandonDeparture cause s).hc.cycle = .held) := by
  have ended : ∀ t : State, t.hc.haul = .parked → t.mau = s.mau →
      (parkedCycle (decide (cause = .hold)) (abandonTrip cause t)).hc.haul = .parked ∧
      (parkedCycle (decide (cause = .hold)) (abandonTrip cause t)).hc.trip.state = .abandoned ∧
      (parkedCycle (decide (cause = .hold)) (abandonTrip cause t)).hc.trip.cause = some cause ∧
      (s.mau.mode = .automatic → cause = .hold →
        (parkedCycle (decide (cause = .hold)) (abandonTrip cause t)).hc.cycle = .held) := by
    intro t parked mau
    obtain ⟨y, cycle⟩ := parkedCycle_hc (decide (cause = .hold)) (abandonTrip cause t)
    rw [cycle, abandonTrip_hc]
    refine ⟨parked, rfl, rfl, fun auto hold => ?_⟩
    have held := parkedCycle_held (s := abandonTrip cause t) (by rw [abandonTrip_mau, mau]; exact auto)
    rw [← decide_eq_true hold, cycle] at held
    exact held
  rcases haul with haul | haul
  · rw [abandonDeparture_warning cause haul]
    exact ended _ rfl rfl
  · simp only [abandonDeparture, haul]
    split
    · exact ended _ rfl rfl
    · exact ended _ rfl rfl

/-- A departure abandoned in RELEASING asks the holding brake to apply (03 R53). -/
theorem abandonDeparture_holding {s : State} (cause : EndCause) (haul : s.hc.haul = .releasing) :
    (abandonDeparture cause s).bl.brakes.fst = s.bl.brakes.fst.applied .holding s.now := by
  simp only [abandonDeparture, haul, parkedCycle_bl, abandonTrip_bl]
  split <;> rfl

/-- Settles O34: HOLD by the haul state in which it is taken. -/
theorem holdStopsATripOrAbandonsADeparture : Obligations.HoldStopsATripOrAbandonsADeparture := by
  rintro s q h rfl hp
  refine ⟨fun moving => ?_, fun stopping => doneWith_of_own rfl rfl hp ?_, fun departing => ?_, fun idle => ?_⟩
  · refine ⟨enterStopping 1 .hold (s.asTaken h .hold), doneWith_of_own rfl rfl hp ?_, rfl, rfl, rfl⟩
    rcases moving with haul | haul <;> simp only [own, holdTrip, haul] <;> rfl
  · simp only [own, holdTrip, stopping]
    rfl
  · obtain ⟨parked, state, cause, cycle⟩ := abandonDeparture_leaves .hold departing
    refine ⟨abandonDeparture .hold (s.asTaken h .hold), doneWith_of_own rfl rfl hp ?_, parked, state, cause,
      fun auto => cycle auto rfl, fun warning => ?_, fun releasing => ?_⟩
    · rcases departing with haul | haul <;> simp only [own, holdTrip, haul] <;> rfl
    · rw [abandonDeparture_warning .hold warning]
      obtain ⟨y, cycle⟩ := parkedCycle_hc (decide (EndCause.hold = .hold)) (abandonTrip .hold
        ((s.asTaken h .hold).modHc fun g => { g with haul := .parked, warnDue := none }))
      rw [cycle, abandonTrip_hc]
      exact ⟨rfl, by simp⟩
    · rw [abandonDeparture_holding .hold releasing]
      exact applied_applies _ _ _
  · refine refusedWith_of_own rfl rfl hp ?_
    rcases idle with haul | haul | haul <;> simp only [own, holdTrip, haul]

end Sys2Proof.Machine
end

section

namespace Sys2Proof.Machine

/-! ### The automatic target (03 R49) -/

/-- What `find?` finds in a list in which every member stands before those after it: the member that `p` picks
and that stands before every other such member. -/
theorem find?_sorted_iff {r : Nat → Nat → Prop} (irrefl : ∀ a, ¬r a a) (asymm : ∀ a b, r a b → ¬r b a)
    (p : Nat → Bool) {j : Nat} : ∀ {l : List Nat}, l.Pairwise r →
      (l.find? p = some j ↔ j ∈ l ∧ p j = true ∧ ∀ i ∈ l, p i = true → ¬r i j)
  | [], _ => by simp
  | x :: xs, sorted => by
    obtain ⟨before, rest⟩ := List.pairwise_cons.1 sorted
    by_cases picked : p x = true
    · rw [List.find?_cons_of_pos picked, Option.some.injEq]
      constructor
      · rintro rfl
        refine ⟨List.mem_cons_self, picked, fun i hi _ => ?_⟩
        rcases List.mem_cons.1 hi with rfl | hi
        · exact irrefl _
        · exact asymm _ _ (before i hi)
      · rintro ⟨hj, _, first⟩
        rcases List.mem_cons.1 hj with rfl | hj
        · rfl
        · exact absurd (before j hj) (first x List.mem_cons_self picked)
    · rw [List.find?_cons_of_neg picked, find?_sorted_iff irrefl asymm p rest]
      constructor
      · rintro ⟨hj, pj, first⟩
        refine ⟨List.mem_cons_of_mem x hj, pj, fun i hi pi => ?_⟩
        rcases List.mem_cons.1 hi with rfl | hi
        · exact absurd pi picked
        · exact first i hi pi
      · rintro ⟨hj, pj, first⟩
        rcases List.mem_cons.1 hj with rfl | hj
        · exact absurd pj picked
        · exact ⟨hj, pj, fun i hi => first i (List.mem_cons_of_mem x hi)⟩

/-- The stop-demand set is ascending (03 R47). -/
theorem demandSet_ascends (s : State) : s.demandSet.Pairwise (· < ·) := List.pairwise_lt_range.filter _

/-- Both terminals are in the stop-demand set (03 R47). -/
theorem terminal_mem_demandSet {s : State} {j : Nat} (inside : j < s.stations)
    (terminal : j = 0 ∨ j + 1 = s.stations) : j ∈ s.demandSet := by
  exact List.mem_filter.2 ⟨List.mem_range.2 inside, by rcases terminal with h | h <;> simp [h]⟩

/-- The automatic target in the heading UP is the least demanded stop beyond (03 R49). -/
theorem autoTarget_up {s : State} {k j : Nat} (up : s.hc.heading = .up) :
    s.autoTarget k = some j ↔ j ∈ s.demandSet ∧ k < j ∧ ∀ i ∈ s.demandSet, k < i → j ≤ i := by
  simp only [State.autoTarget, up]
  rw [find?_sorted_iff Nat.lt_irrefl (fun _ _ => Nat.lt_asymm) _ (demandSet_ascends s)]
  simp only [decide_eq_true_eq, Nat.not_lt]

/-- The automatic target in the heading DOWN is the greatest demanded stop beyond (03 R49). -/
theorem autoTarget_down {s : State} {k j : Nat} (down : s.hc.heading = .down) :
    s.autoTarget k = some j ↔ j ∈ s.demandSet ∧ j < k ∧ ∀ i ∈ s.demandSet, i < k → i ≤ j := by
  simp only [State.autoTarget, down]
  rw [find?_sorted_iff (r := fun a b => b < a) Nat.lt_irrefl (fun _ _ => Nat.lt_asymm) _
    (List.pairwise_reverse.2 (demandSet_ascends s))]
  simp only [decide_eq_true_eq, Nat.not_lt, List.mem_reverse]

/-- From a stop the heading of which does not lead off the line there is a target: at the latest the terminal
(03 R49). -/
theorem autoTarget_isSome {s : State} {k : Nat} (two : 2 ≤ s.stations) (inside : k < s.stations)
    (low : k = 0 → s.hc.heading = .up) (high : k + 1 = s.stations → s.hc.heading = .down) :
    (s.autoTarget k).isSome = true := by
  cases heading : s.hc.heading with
  | up =>
    have last : s.stations - 1 ∈ s.demandSet := terminal_mem_demandSet (by omega) (.inr (by omega))
    have short : k + 1 ≠ s.stations := fun e => by simp [high e] at heading
    simp only [State.autoTarget, heading, List.find?_isSome]
    exact ⟨_, last, decide_eq_true (by omega)⟩
  | down =>
    have first : 0 ∈ s.demandSet := terminal_mem_demandSet (by omega) (.inl rfl)
    have past : k ≠ 0 := fun e => by simp [low e] at heading
    simp only [State.autoTarget, heading, List.find?_isSome]
    exact ⟨_, List.mem_reverse.2 first, decide_eq_true (by omega)⟩

/-- Settles O60: the search in the ascending demand set, by the heading. -/
theorem theAutomaticTargetIsTheNextDemandedStop : Obligations.TheAutomaticTargetIsTheNextDemandedStop :=
  fun _ _ => ⟨fun _ up => autoTarget_up up, fun _ down => autoTarget_down down, autoTarget_isSome⟩

end Sys2Proof.Machine
end

section

namespace Sys2Proof.Machine

/-! ### The checks of a departure (03 R50, R60) -/

/-- The last checks of a dispatch and of a resume in their order: the doors, the faults, the tension and the
brake tests (03 R50, R60). -/
def State.departureList (s : State) : List (Bool × RefusalCode) :=
  [(s.allLocked, .state), (!s.ft.blocksDispatch s.mau.mode, .blockedByFault),
    (s.stu.tension.fst.average.isSome && s.stu.tension.snd.average.isSome, .state),
    (!s.mau.mode.inService || (s.recordValid .holding && s.recordValid .emergency), .brakeTestDue)]

/-- The refusal that an outcome stands for, if any. -/
def refusalOf {α : Type} : Except RefusalCode α → Option RefusalCode
  | .error c => some c
  | .ok _ => none

/-- The refusal of an outcome is there exactly when the outcome is that error. -/
theorem refusalOf_eq_some {α : Type} {x : Except RefusalCode α} {c : RefusalCode} :
    refusalOf x = some c ↔ x = .error c := by
  cases x <;> simp [refusalOf]

/-- A check before the others: it refuses when it fails, else they decide. -/
theorem check_eq_firstRefusal {p : Prop} [Decidable p] {ok : Bool} {c : RefusalCode} {x : Option RefusalCode}
    {rest : List (Bool × RefusalCode)} (fails : p ↔ ¬ok = true) (others : x = firstRefusal rest) :
    (if p then some c else x) = firstRefusal ((ok, c) :: rest) := by
  cases ok <;> simp [firstRefusal, fails, others]

/-- A check of an outcome before the others. -/
theorem refusalOf_check {α : Type} {p : Prop} [Decidable p] {ok : Bool} {c : RefusalCode}
    {x : Except RefusalCode α} {rest : List (Bool × RefusalCode)} (fails : p ↔ ¬ok = true)
    (others : refusalOf x = firstRefusal rest) :
    refusalOf (if p then .error c else x) = firstRefusal ((ok, c) :: rest) := by
  rw [apply_ite refusalOf]
  exact check_eq_firstRefusal fails others

/-- The departure checks refuse by the first of their list that fails (03 R50). -/
theorem departureChecks_eq (s : State) : s.departureChecks = firstRefusal s.departureList :=
  check_eq_firstRefusal (by simp) (check_eq_firstRefusal (by simp) (check_eq_firstRefusal
    (by simp only [Bool.and_eq_true, not_and_or, Bool.not_eq_true, Option.isSome_eq_false_iff])
    (check_eq_firstRefusal (by simp) rfl)))

/-- A dispatch is refused by the first of its checks that fails (03 R50). -/
theorem refusalOf_checkDispatch (s : State) (target direction : Nat) :
    refusalOf (s.checkDispatch target direction) = firstRefusal (
      (decide (s.hc.haul = .parked) && s.standstill && s.bl.driveReady, .state) ::
      (!s.mau.mode.inService || decide (s.lgp.position = .referenced), .state) ::
      (!s.mau.mode.inService || s.stop.isSome, .offStop) :: (s.targetOk target direction, .bounds) ::
      ((s.route target direction).isSome, .direction) :: s.departureList) := by
  refine refusalOf_check (by simp [and_assoc]) (refusalOf_check (by simp) (refusalOf_check (by simp)
    (refusalOf_check (by simp) ?_)))
  cases s.route target direction with
  | none => rfl
  | some r =>
    simp only [departureChecks_eq, Option.isSome_some, firstRefusal, if_true]
    cases firstRefusal s.departureList <;> rfl

/-- A resume is refused by the first of its checks that fails (03 R60). -/
theorem checkResume_eq {s : State} {t : TripRec} (hrec : s.hc.trip.rec? = some t) :
    s.checkResume = firstRefusal (
      (decide (s.hc.haul = .parked) && s.standstill && s.bl.driveReady, .state) ::
      (decide (s.hc.trip.state = .suspended), .state) :: (decide (s.lgp.position = .referenced), .state) ::
      ((s.targetDistance t).any (fun d => decide ((s.stopWindow : Int) < d)), .direction) ::
      s.departureList) := by
  refine check_eq_firstRefusal (by simp [and_assoc]) (check_eq_firstRefusal (by simp)
    (check_eq_firstRefusal (by simp) ?_))
  simp only [hrec]
  cases s.targetDistance t with
  | none => rfl
  | some d => exact check_eq_firstRefusal (by simp) (departureChecks_eq s)

/-- The departure checks pass when each of them does (03 R50). -/
theorem departureChecks_none {s : State} (locked : s.allLocked = true)
    (clear : s.ft.blocksDispatch s.mau.mode = false) (first : s.stu.tension.fst.average.isSome = true)
    (second : s.stu.tension.snd.average.isSome = true)
    (tested : s.mau.mode.inService = true → s.recordValid .holding = true ∧ s.recordValid .emergency = true) :
    s.departureChecks = none := by
  have brakes : (!s.mau.mode.inService || (s.recordValid .holding && s.recordValid .emergency)) = true := by
    cases service : s.mau.mode.inService with
    | false => rfl
    | true => simp [tested service]
  simp [departureChecks_eq, State.departureList, firstRefusal, locked, clear, first, second, brakes]

/-- A dispatch whose checks all pass goes to its route (03 R50). -/
theorem checkDispatch_ok {s : State} {target direction : Nat} {x : Option Nat × Dir} (parked : s.hc.haul = .parked)
    (still : s.standstill = true) (ready : s.bl.driveReady = true)
    (service : s.mau.mode.inService = true → s.lgp.position = .referenced ∧ s.stop.isSome = true)
    (inside : s.targetOk target direction = true) (route : s.route target direction = some x)
    (departs : s.departureChecks = none) : s.checkDispatch target direction = .ok x := by
  have placed : ¬(s.mau.mode.inService = true ∧ s.lgp.position ≠ .referenced) := fun out =>
    out.2 (service out.1).1
  have atStop : ¬(s.mau.mode.inService = true ∧ s.stop = none) := fun out =>
    Option.isSome_iff_ne_none.1 (service out.1).2 out.2
  rw [State.checkDispatch, if_neg (not_not.2 ⟨parked, still, ready⟩), if_neg placed, if_neg atStop,
    if_neg (by simp [inside]), route]
  simp only [departs]

/-- A resume whose checks all pass is accepted (03 R60). -/
theorem checkResume_none {s : State} {t : TripRec} {d : Int} (parked : s.hc.haul = .parked)
    (still : s.standstill = true) (ready : s.bl.driveReady = true) (suspended : s.hc.trip.state = .suspended)
    (referenced : s.lgp.position = .referenced) (hrec : s.hc.trip.rec? = some t)
    (dist : s.targetDistance t = some d) (far : (s.stopWindow : Int) < d) (departs : s.departureChecks = none) :
    s.checkResume = none := by
  rw [departureChecks_eq] at departs
  simp [checkResume_eq hrec, firstRefusal, parked, still, ready, suspended, referenced, dist, far, departs]

/-- A haul that is not PARKED does not resume (03 R60). -/
theorem checkResume_busy {s : State} (busy : s.hc.haul ≠ .parked) : s.checkResume = some .state :=
  if_pos fun ready => busy ready.1

/-- Without a trip record a resume is refused with STATE (03 R60). -/
theorem checkResume_unrecorded {s : State} (hrec : s.hc.trip.rec? = none) : s.checkResume = some .state := by
  simp only [State.checkResume, hrec, ite_self]

/-- What a dispatch that passed its checks opens (03 R45, R51). -/
theorem openTrip_hc (target : Option Nat) (d : Dir) (s : State) : (openTrip target d s).hc = { s.hc with
    tripCounter := nextTrip s.hc.tripCounter
    trip := {
      state := .active, cause := none,
      rec? := some {
        number := nextTrip s.hc.tripCounter, origin := s.stop, target := target, dir := d, kind := s.tripKind,
        committed := false, batches := none, reapproach := false, startTime := s.tt.clock, topSpeed := 0 } }
    unreferencedTrip := decide (s.lgp.position ≠ .referenced), haul := .warning
    warnDue := some (s.now + s.hc.warningMs * 1000), drive := .noTorque, cycle := .none, waiting := none
    arrivalDue := false } := by
  simp only [openTrip]
  split
  · have now := outer_now (dissolveBoth_outer s)
    simp only [enterWarning, State.modHc, dissolveBoth_hc, now]
  · rfl

/-- DISPATCH at its owner whose checks refuse (03 R50). -/
theorem dispatchTrip_error {s : State} {target direction : Nat} {c : RefusalCode}
    (checks : s.checkDispatch target direction = .error c) : dispatchTrip target direction s = .error c := by
  rw [dispatchTrip, checks]

/-- DISPATCH at its owner whose checks pass opens the trip (03 R50). -/
theorem dispatchTrip_ok {s : State} {target direction : Nat} {x : Option Nat × Dir}
    (checks : s.checkDispatch target direction = .ok x) : dispatchTrip target direction s =
      .ok (openTrip x.1 x.2 s, .tripNumber (nextTrip s.hc.tripCounter)) := by
  rw [dispatchTrip, checks]

/-- Settles O33: the checks in their order, and the trip that a dispatch opens. -/
theorem dispatchOpensATripInWarning : Obligations.DispatchOpensATripInWarning := by
  rintro s q h target direction rfl hp
  refine ⟨fun c refused => refusedWith_of_own rfl rfl hp (dispatchTrip_error (refusalOf_eq_some.1
    ((refusalOf_checkDispatch _ _ _).trans refused))), ?_⟩
  intro x parked still ready service inside route locked clear first second
  have departs := departureChecks_none locked clear first second fun mode => (service mode).2.2
  have checks := checkDispatch_ok parked still ready (fun mode => ⟨(service mode).1, (service mode).2.1⟩) inside
    route departs
  refine ⟨_, doneWith_of_own rfl rfl hp (dispatchTrip_ok checks), ?_⟩
  rw [openTrip_hc]
  exact ⟨rfl, rfl, rfl, rfl, rfl, rfl, openTrip_lgp _ _ _, openTrip_bl _ _ _, openTrip_dc _ _ _,
    openTrip_tt _ _ _, openTrip_mau _ _ _, openTrip_ft _ _ _⟩

/-- RESUME at its owner, of a trip that passes its checks (03 R60). -/
theorem resumeTrip_continues {s : State} {t : TripRec}
    (other : ¬(s.mau.mode = .automatic ∧ s.hc.cycle = .held ∧ s.parkedStop.isSome = true))
    (checks : s.checkResume = none) (hrec : s.hc.trip.rec? = some t) : resumeTrip s = .ok (
      enterWarning (s.modHc fun g => { g with trip := {
        state := .active, rec? := some { t with kind := s.tripKind }, cause := none } }),
      .resumeNumber (some t.number)) := by
  have trip : s.hc.trip.resumed s.tripKind =
      { state := .active, rec? := some { t with kind := s.tripKind }, cause := none } := by
    simp only [Trip.resumed, hrec, Option.map_some]
  simp only [resumeTrip, if_neg other, checks, State.modHc, trip, Trip.number, hrec, Option.map_some]

/-- Settles O35: the held automatic cycle apart, the checks in their order and the trip made active again. -/
theorem resumeContinuesASuspendedTrip : Obligations.ResumeContinuesASuspendedTrip := by
  rintro s q h rfl hp
  have alone : ∀ c, ¬((s.asTaken h .resume).mau.mode = .automatic ∧ (s.asTaken h .resume).hc.cycle = .held ∧
      (s.asTaken h .resume).parkedStop.isSome = true) → (s.asTaken h .resume).checkResume = some c →
      RefusedWith (.resume h) s c := fun c other checks =>
    refusedWith_of_own rfl rfl hp (by simp only [own, resumeTrip, if_neg other, checks])
  refine ⟨?_, fun auto held at_stop => ?_, fun t0 c other hrec refused => alone c other
    ((checkResume_eq hrec).trans refused), fun hrec other => alone _ other (checkResume_unrecorded hrec),
    fun testing => ?_⟩
  · intro t0 d other parked still ready suspended referenced hrec dist far checks
    have passed := checkResume_none parked still ready suspended referenced hrec dist far checks
    refine ⟨_, doneWith_of_own rfl rfl hp (resumeTrip_continues other passed hrec), rfl, rfl, rfl, rfl, rfl⟩
  · exact ⟨_, doneWith_of_own rfl rfl hp (if_pos ⟨auto, held, at_stop⟩), rfl⟩
  · have busy : (s.asTaken h .resume).hc.haul ≠ .parked := by simp [testing]
    refine alone _ (fun ⟨_, _, atStop⟩ => ?_) (checkResume_busy busy)
    simp [State.parkedStop, busy] at atStop

end Sys2Proof.Machine
end

section

namespace Sys2Proof.Machine

/-! ### The car lines when faults are raised and time passes (03 R62) -/

variable (s : State)

@[simp] theorem abandonTrip_carLine (cause : EndCause) : (abandonTrip cause s).hc.carLine = s.hc.carLine := by
  simp [abandonTrip_hc]
@[simp] theorem parkedCycle_carLine (held : Bool) : (parkedCycle held s).hc.carLine = s.hc.carLine := by
  obtain ⟨y, cycle⟩ := parkedCycle_hc held s
  rw [cycle]
@[simp] theorem abandonDeparture_carLine (cause : EndCause) :
    (abandonDeparture cause s).hc.carLine = s.hc.carLine := by
  simp only [abandonDeparture]; (repeat' split) <;> simp [setHaul]
@[simp] theorem emergencyDemand_carLine (code : Option FaultCode) :
    (emergencyDemand code s).hc.carLine = s.hc.carLine := by
  simp only [emergencyDemand]; (repeat' split) <;> simp [command]
@[simp] theorem serviceDemand_carLine (c : FaultCode) : (serviceDemand c s).hc.carLine = s.hc.carLine := by
  simp only [serviceDemand]; split <;> simp [enterStopping, stopCauseFault]
@[simp] theorem handOn_carLine (c : FaultCode) : (handOn c s).hc.carLine = s.hc.carLine := by
  simp only [handOn]; (repeat' split) <;> simp
@[simp] theorem raise_carLine (k : FaultKey) : (raise k s).hc.carLine = s.hc.carLine := by simp [raise]
@[simp] theorem judgeMoment_carLine : (judgeMoment s).hc.carLine = s.hc.carLine := by
  simp only [judgeMoment, noteEnvelope, judgeEnvelope]; (repeat' split) <;> simp
@[simp] theorem passUntil_carLine (t : Nat) : (passUntil t s).hc.carLine = s.hc.carLine :=
  followMoments_keeps (fun s => s.hc.carLine) (fun _ _ => rfl) judgeMoment_carLine _ _ s

/-! ### The messages of the cars (03 R62) -/

variable {s} {c : Car}

theorem setCar_setCar {α : Type} (t : Two α) (c : Car) (x y : α) : (t.setCar c x).setCar c y = t.setCar c y := by
  cases c <;> rfl

/-- The haul controller after a message: the silence interval restarts (03 R62). -/
theorem carMessage_hc : (carMessage c s).hc = { s.hc with carLine := (s.hc.carLine.setCar c
    { s.hc.carLine.car c with alive := true, silenceDue := some (s.now + 2000000) }) } := by
  simp only [carMessage]
  (repeat' split) <;> simp [modCarLine]

/-- The haul controller after a message and the entry of its content (03 R62). -/
theorem told_hc (f : CarLine → CarLine) : (modCarLine c f (carMessage c s)).hc = { s.hc with
    carLine := s.hc.carLine.setCar c (f { s.hc.carLine.car c with
      alive := true, silenceDue := some (s.now + 2000000) }) } := by
  simp only [modCarLine, modHc_hc, carMessage_hc, setCar_car, setCar_setCar]

/-- The fault table after a message: a SILENT line ends its condition (03 R62). -/
theorem carMessage_ft : (carMessage c s).ft =
    if (s.hc.carLine.car c).alive = true then s.ft else s.ft.ended ⟨.carLinkLost, c.index⟩ := by
  simp only [carMessage]
  (repeat' split) <;> simp [endCondition]

/-- A fault of class SERVICE begins a stop of a trip in RUNNING or APPROACH (04 R71). -/
theorem raise_service_enters {k : FaultKey} (hk : k.code.cls = .service)
    (moving : s.hc.haul = .running ∨ s.hc.haul = .approach) :
    raise k s = enterStopping 1 (.fault k.code) (s.modFt (FaultTable.raised k s.tt.clock)) := by
  have demanded : serviceDemand k.code (s.modFt (FaultTable.raised k s.tt.clock)) =
      enterStopping 1 (.fault k.code) (s.modFt (FaultTable.raised k s.tt.clock)) := by
    rcases moving with haul | haul <;> simp [serviceDemand, haul]
  simp only [raise, handOn, hk, demanded]
  rfl

/-- A fault of class SERVICE stops a trip in RUNNING or APPROACH (04 R71). -/
theorem raise_service_stopping {k : FaultKey} (hk : k.code.cls = .service)
    (moving : s.hc.haul = .running ∨ s.hc.haul = .approach) : (raise k s).hc.haul = .stopping := by
  rw [raise_service_enters hk moving]
  rfl

/-- What a report of the track brake comes to, by the one before it (03 R62). -/
theorem trackBrakeReport_eq (v : Bool) : trackBrakeReport c v s =
    let told := modCarLine c (fun x => { x with brakeApplied := v }) (carMessage c s)
    if (s.hc.carLine.car c).brakeApplied = v then told
    else if v = true then raise ⟨.carBrakeTripped, c.index⟩ told
    else endCondition ⟨.carBrakeTripped, c.index⟩ told := by
  cases last : (s.hc.carLine.car c).brakeApplied <;> cases v <;> simp [trackBrakeReport, last]

/-- What a report of the emergency button comes to, by the one before it (03 R62; 09 R162). -/
theorem buttonReport_eq (v : Bool) : buttonReport c v s =
    let told := modCarLine c (fun x => { x with buttonPressed := v }) (carMessage c s)
    let woken := if v = true then wake .carLine told else told
    if (s.hc.carLine.car c).buttonPressed = v then woken
    else if v = true then raise ⟨.carEmergencyRequest, c.index⟩ woken
    else endCondition ⟨.carEmergencyRequest, c.index⟩ woken := by
  cases last : (s.hc.carLine.car c).buttonPressed <;> cases v <;> simp [buttonReport, last]

/-- The car lines after a report of the track brake (03 R62). -/
theorem trackBrakeReport_carLine (v : Bool) : (trackBrakeReport c v s).hc.carLine = s.hc.carLine.setCar c
    { s.hc.carLine.car c with alive := true, silenceDue := some (s.now + 2000000), brakeApplied := v } := by
  rw [trackBrakeReport_eq]
  split_ifs <;> simp [told_hc]

/-- The car lines after a report of the emergency button (03 R62). -/
theorem buttonReport_carLine (v : Bool) : (buttonReport c v s).hc.carLine = s.hc.carLine.setCar c
    { s.hc.carLine.car c with alive := true, silenceDue := some (s.now + 2000000), buttonPressed := v } := by
  rw [buttonReport_eq]
  cases v <;> split_ifs <;> simp [told_hc]

/-- MAU after a report of the emergency button: a report PRESSED is a wake event (09 R162). -/
theorem buttonReport_mau (v : Bool) : (buttonReport c v s).mau = if v = true then (wake .carLine s).mau else s.mau := by
  have woken : ∀ t : State, t.mau = s.mau → t.tt = s.tt → (wake .carLine t).mau = (wake .carLine s).mau := by
    intro t mau tt
    simp only [wake, mau]
    split
    · simp [mau, tt]
    · exact mau
  rw [buttonReport_eq]
  cases v <;> split_ifs <;> simp [woken]

/-- A request for an intermediate stop that no car of a PARKED haul stands at is taken (03 R62). -/
theorem stopRequest_taken {station : Nat} (low : 1 ≤ station) (high : station + 2 ≤ s.stations)
    (away : ∀ k, s.parkedStop = some k → s.stationOf c k ≠ station) : stopRequest c station s =
      modCarLine c (fun x => { x with requests := insertSet station x.requests }) (carMessage c s) := by
  simp only [stopRequest]
  rw [if_neg]
  rintro (out | out | here)
  · omega
  · omega
  · cases parked : s.parkedStop with
    | none => simp [parked] at here
    | some k => exact away k parked (by simpa [parked] using here)

/-- Any other request is a message alone (03 R62). -/
theorem stopRequest_ignored {station : Nat}
    (out : station < 1 ∨ s.stations < station + 2 ∨ ∃ k, s.parkedStop = some k ∧ s.stationOf c k = station) :
    stopRequest c station s = carMessage c s := by
  simp only [stopRequest]
  rw [if_pos]
  refine out.imp_right (Or.imp_right ?_)
  rintro ⟨k, parked, here⟩
  simp [parked, here]

/-- A request is a message, which may enter its station alone (03 R62). -/
theorem stopRequest_eq (station : Nat) (s : State) : stopRequest c station s = carMessage c s ∨
    stopRequest c station s =
      modCarLine c (fun x => { x with requests := insertSet station x.requests }) (carMessage c s) := by
  simp only [stopRequest]
  exact ite_eq_or_eq _ _ _

/-- Settles O52: each message of a car, by the report before it, and the silence of its line. -/
theorem carLinesReportAndFallSilent : Obligations.CarLinesReportAndFallSilent := by
  rintro s c l ft rfl rfl
  refine ⟨fun v => ⟨trackBrakeReport c v s, rfl, ?_, fun last now => ?_, fun last now => ?_, fun same => ?_⟩,
    fun v => ⟨buttonReport c v s, rfl, ?_, fun last now => ?_, fun last now => ?_, fun same => ?_,
      fun pressed off => ?_, fun quiet => ?_⟩,
    fun station => ⟨stopRequest c station s, rfl, ?_, ?_, ?_, fun low high away => ?_, fun out => ?_⟩,
    fun u due => ⟨carSilent c (passUntil u s), happens_expire rfl due, ?_, ?_, ?_⟩⟩
  · rw [trackBrakeReport_carLine, setCar_car]
  · rw [trackBrakeReport_eq, if_neg (by simp [last, now]), if_pos now, raise_ft]
    exact ⟨raise_emergency_tripped _ rfl, by rw [modCarLine_ft, carMessage_ft]; simp⟩
  · rw [trackBrakeReport_eq, if_neg (by simp [last, now]), if_neg (by simp [now])]
    exact congrArg (FaultTable.ended _) carMessage_ft
  · rw [trackBrakeReport_eq, if_pos same]
    exact ⟨carMessage_ft, by rw [told_hc]⟩
  · rw [buttonReport_carLine, setCar_car]
  · rw [buttonReport_eq, if_neg (by simp [last, now]), if_pos now, if_pos now, raise_ft]
    refine ⟨by rw [wake_ft, modCarLine_ft, carMessage_ft]; simp, fun running => raise_service_stopping rfl ?_⟩
    rw [wake_hc, told_hc]
    exact .inl running
  · rw [buttonReport_eq, if_neg (by simp [last, now]), if_neg (by simp [now]), if_neg (by simp [now])]
    exact congrArg (FaultTable.ended _) carMessage_ft
  · rw [buttonReport_eq, if_pos same]
    cases v <;> simp [carMessage_ft, told_hc]
  · rw [buttonReport_mau, if_pos pressed, wake_off _ off]
    exact ⟨mem_addCause _ _, rfl, rfl⟩
  · rw [buttonReport_mau]
    rcases quiet with rfl | on
    · rfl
    · simp [wake, on]
  · rcases stopRequest_eq (c := c) station s with eq | eq <;> simp [eq, carMessage_hc, told_hc]
  · rcases stopRequest_eq (c := c) station s with eq | eq <;> simp [eq, carMessage_ft]
  · rcases stopRequest_eq (c := c) station s with eq | eq <;> simp [eq, carMessage_hc, told_hc]
  · intro j
    rw [stopRequest_taken low high away, told_hc, setCar_car]
    exact mem_insertSet _ _ _
  · rw [stopRequest_ignored out, carMessage_hc, setCar_car]
  · rw [carSilent, outer_now (raise_outer _ _), ← passUntil_now]
    rfl
  · rw [carSilent, raise_carLine, modCarLine, modHc_hc, setCar_car, passUntil_carLine]
  · rw [carSilent, raise_ft]
    rfl

end Sys2Proof.Machine
end

section

namespace Sys2Proof.Machine

/-! ### The escalation of a service stop (04 R74 to R76) -/

variable {s : State}

/-- What passing time leaves of a haul in STOPPING. -/
theorem passUntil_stopping {u : Nat} (haul : s.hc.haul = .stopping) : Still s (passUntil u s) :=
  passTime_frame s _ (underTripCeiling_false (by simp [haul]) (by simp [haul]))

/-- The haul state and the stop record of a stop while time passes (04 R73). -/
theorem passUntil_stop {u : Nat} (haul : s.hc.haul = .stopping) :
    (passUntil u s).hc.haul = .stopping ∧ (passUntil u s).bl.stop = s.bl.stop := by
  obtain ⟨hc, -, -, bl, -⟩ := passUntil_stopping (u := u) haul
  exact ⟨by rw [hc, haul], by rw [bl]⟩

/-- The stop record changed where there is one. -/
theorem modStop_some {r : StopRec} (f : StopRec → StopRec) (stop : s.bl.stop = some r) :
    modStop f s = { s with bl := { s.bl with stop := some (f r) } } := by
  simp only [modStop, State.modBl, stop, Option.map_some]

/-- The 500 ms sample of a stop (04 R74). -/
theorem escalationSample_some {r : StopRec} (stop : s.bl.stop = some r) : escalationSample s = { s with
    bl := { s.bl with stop := some { r with sample := some s.lineSpeed, nextDue := r.start + 1000000 } } } :=
  modStop_some _ stop

/-- The speed that a check requires (04 R74). -/
theorem slowsEnough_iff {v : Nat} : s.slowsEnough v = true ↔
    ((min (s.classDecel s.kind * 125000) (v * 100000) : Nat) : Int) ≤ ((v : Int) - s.lineSpeed) * 100000 :=
  decide_eq_true_iff

/-- A stop as its check leaves it to the stage that follows (04 R74). -/
def State.checked (s : State) (r : StopRec) : State :=
  { s with bl := { s.bl with stop := some { r with sample := some s.lineSpeed, nextDue := r.nextDue + 500000 } } }

/-- An escalation check, by its outcome and the stage (04 R74 to R76). -/
theorem escalationCheck_eq {r : StopRec} (v : Nat) (stop : s.bl.stop = some r) : escalationCheck v s =
    if s.slowsEnough v = true then s.checked r
    else if r.stage = 1 then moveStage2 (s.checked r) else moveStage3 (s.checked r) := by
  simp only [escalationCheck, modStop_some _ stop, stop, State.checked]

/-- A fault of class SERVICE in STOPPING is the cause of the stop where its cause is HOLD (04 R71, R73). -/
theorem raise_service_again {k : FaultKey} (hk : k.code.cls = .service) (haul : s.hc.haul = .stopping) :
    raise k s = stopCauseFault k.code (s.modFt (FaultTable.raised k s.tt.clock)) := by
  have demanded : serviceDemand k.code (s.modFt (FaultTable.raised k s.tt.clock)) =
      stopCauseFault k.code (s.modFt (FaultTable.raised k s.tt.clock)) := by simp [serviceDemand, haul]
  simp [raise, handOn, hk, demanded, abandonDeparture, haul, stopCauseFault]

/-- Stage 2 of a stop: the drive without torque and the holding brake asked to apply (04 R75). -/
theorem moveStage2_leaves {r : StopRec} (haul : s.hc.haul = .stopping) (stop : s.bl.stop = some r) :
    (∃ r', (moveStage2 s).bl.stop = some r' ∧ r'.stage = 2) ∧ (moveStage2 s).hc.haul = .stopping ∧
      (moveStage2 s).hc.drive = .noTorque ∧
      (moveStage2 s).bl.brakes.fst = s.bl.brakes.fst.applied .holding s.now ∧
      (moveStage2 s).ft = s.ft.raised ⟨.brakeEscalated, 0⟩ s.tt.clock := by
  refine ⟨?_, ?_, ?_, ?_, ?_⟩
  all_goals rw [moveStage2, raise_service_again rfl (by simp [command, haul])]
  · simp only [stopCauseFault, applyBrake, modBrake, command, State.modBl, State.modHc, State.modFt, stop,
      Option.map_some]
    refine ⟨_, rfl, ?_⟩
    split <;> rfl
  · exact haul
  · rfl
  · rfl
  · rfl

/-- Stage 3 of a stop trips the haul (04 R76). -/
theorem moveStage3_leaves : (moveStage3 s).hc = { s.hc with
      haul := .tripped, arrivalDue := false, drive := .noTorque
      trip := { s.hc.trip with state := .abandoned, cause := some (.fault .brakeEscalated) } } ∧
    (moveStage3 s).bl.stop = none ∧
    (moveStage3 s).bl.brakes.snd = s.bl.brakes.snd.applied .emergency s.now := by
  simp only [moveStage3, abandonTrip_hc, abandonTrip_bl]
  exact ⟨rfl, rfl, rfl⟩

end Sys2Proof.Machine
end

section

namespace Sys2Proof.Machine

variable {s : State}

/-! ### The departure (03 R51, R53 to R55) -/

/-- A brake asked to release is RELEASING or RELEASED (04 R65). -/
theorem lifted_lifts (b : Brake) (now : Nat) (r : BrakeRec) :
    (r.lifted b now).state = .releasing ∨ (r.lifted b now).state = .released := by
  cases h : r.state <;> simp [BrakeRec.lifted, h]

/-- A release request for the holding brake is carried out (04 R65). -/
theorem releaseBrake_holding : releaseBrake .holding s = modBrake .holding (BrakeRec.lifted .holding s.now) s :=
  if_neg (by simp)

/-- A release request for the emergency brake leaves the holding brake (04 R65). -/
theorem releaseBrake_emergency_fst : (releaseBrake .emergency s).bl.brakes.fst = s.bl.brakes.fst := by
  simp only [releaseBrake]
  split <;> rfl

/-- A release request for the emergency brake is carried out while no fault of class EMERGENCY is present
(04 R65). -/
theorem releaseBrake_emergency_clear (clear : s.ft.presentClass .emergency = false) :
    releaseBrake .emergency s = modBrake .emergency (BrakeRec.lifted .emergency s.now) s :=
  if_neg (by simp [clear])

/-- The end of the warning interval asks both brakes to release (03 R51; 04 R65). -/
theorem warningExpires_brakes :
    (warningExpires s).bl.brakes.fst = s.bl.brakes.fst.lifted .holding s.now ∧
    (s.ft.presentClass .emergency = false →
      (warningExpires s).bl.brakes.snd = s.bl.brakes.snd.lifted .emergency s.now) := by
  refine ⟨?_, fun clear => ?_⟩
  · rw [warningExpires, releaseBrake_emergency_fst, releaseBrake_holding]
    rfl
  · rw [warningExpires, releaseBrake_holding, releaseBrake_emergency_clear (by exact clear)]
    rfl

/-- The haul controller after the end of the warning interval (03 R51, R53). -/
theorem warningExpires_hc : (warningExpires s).hc =
    { s.hc with haul := .releasing, warnDue := none, drive := .holding } := by
  simp [warningExpires]

/-- Which targets are near (03 R53, R55). -/
theorem nearTarget_iff : s.nearTarget = true ↔
    ∃ t d, s.hc.trip.rec? = some t ∧ s.targetDistance t = some d ∧ d ≤ 3000 := by
  simp only [State.nearTarget]
  cases s.hc.trip.rec? with
  | none => simp
  | some t => cases dist : s.targetDistance t <;> simp [dist]

/-! ### The proofs of the brakes (03 R53; 05 R86 to R88) -/

/-- In RELEASING the proofs of both brakes start the trip, and no other state of the brakes does (03 R53). -/
theorem tellProven_releasing (haul : s.hc.haul = .releasing) : tellProven s =
    if s.bl.brakes.fst.state = .released ∧ s.bl.brakes.snd.state = .released then enterRunning s else s := by
  simp only [tellProven, haul]

/-- The end of a test whose restoring is proven (05 R88). -/
theorem finishTest_leaves : (finishTest s).hc.haul = .parked ∧
    (finishTest s).bpu = { s.bpu with test := none, pulseDue := none } ∧ (finishTest s).hc.trip = s.hc.trip ∧
    (finishTest s).hc.drive = s.hc.drive ∧ (finishTest s).bl = s.bl ∧ (finishTest s).ft = s.ft ∧
    ∀ k, s.stop = some k → (finishTest s).hc.heading =
      if k = 0 then .up else if k + 1 = s.stations then .down else s.hc.heading := by
  obtain ⟨y, cycle⟩ := parkedCycle_hc false (followHeading (setHaul .parked (s.modBpu fun b =>
    { b with test := none, pulseDue := none })))
  have hc : (finishTest s).hc = { (followHeading (setHaul .parked (s.modBpu fun b =>
    { b with test := none, pulseDue := none }))).hc with cycle := y } := cycle
  obtain ⟨d, heading⟩ := followHeading_hc (setHaul .parked (s.modBpu fun b =>
    { b with test := none, pulseDue := none }))
  refine ⟨by rw [hc, heading]; rfl, by simp [finishTest], by rw [hc, heading]; rfl, by rw [hc, heading]; rfl,
    by simp [finishTest], by simp [finishTest], fun k atStop => ?_⟩
  rw [hc, followHeading_at (k := k) rfl (by rw [← atStop]; exact stop_congr rfl), headFrom_hc]
  rfl

/-- A proof of the other brake in a test, by the phase (05 R86, R88). -/
theorem tellProven_testing {x : Test} (haul : s.hc.haul = .brakeTest) (test : s.bpu.test = some x) :
    tellProven s = match x.phase, (s.bl.brakes.brake x.brake.other).state with
      | .lifting, .released => beginPulse x s
      | .restoring, .applied => finishTest s
      | _, _ => s := by
  simp only [tellProven, haul, test] <;> rfl

/-! ### The supervised ceiling (04 R69, R72, R73) -/

/-- An emergency demand in another state than TRIPPED keeps the speed of the moment as the ceiling (04 R72). -/
theorem emergencyDemand_ceiling (c : Option FaultCode) : (emergencyDemand c s).bl.trippedCeiling =
    if s.hc.haul = .tripped then s.bl.trippedCeiling else max (s.lineSpeed * 100000) 300000000 := by
  simp only [emergencyDemand]
  by_cases haul : s.hc.haul = .tripped
  · simp only [if_pos haul]
    split <;> rfl
  · simp only [if_neg haul]
    cases c with
    | none => rfl
    | some c => dsimp only; split <;> simp [fineSpeed]

/-- The supervised ceiling of a haul under the ceiling of its trip (04 R69). -/
theorem supervisedCeiling_moving {t : TripRec} (haul : s.hc.haul = .running ∨ s.hc.haul = .approach)
    (trip : s.hc.trip.rec? = some t) : s.supervisedCeiling = s.tripCeiling t := by
  rcases haul with haul | haul <;> simp only [State.supervisedCeiling, State.ceiling, haul, trip]

/-- The supervised ceiling of a haul in STOPPING is the one that its stop keeps (04 R73). -/
theorem supervisedCeiling_stopping {r : StopRec} (haul : s.hc.haul = .stopping) (stop : s.bl.stop = some r) :
    s.supervisedCeiling = r.ceiling := by
  simp only [State.supervisedCeiling, haul, stop]

/-- The supervised ceiling of a TRIPPED haul (04 R72). -/
theorem supervisedCeiling_tripped (haul : s.hc.haul = .tripped) : s.supervisedCeiling = s.bl.trippedCeiling := by
  simp only [State.supervisedCeiling, haul]

/-- The supervised ceiling of a haul that is to stand (04 R69). -/
theorem supervisedCeiling_standing (haul : s.hc.haul = .parked ∨ s.hc.haul = .warning ∨ s.hc.haul = .releasing ∨
    s.hc.haul = .brakeTest) : s.supervisedCeiling = 300000000 := by
  rcases haul with haul | haul | haul | haul <;> simp only [State.supervisedCeiling, haul]

/-- A service stop keeps the ceiling of the trip that it ends (04 R73). -/
theorem enterStopping_ceiling {t : TripRec} (n : Nat) (c : StopCause) (trip : s.hc.trip.rec? = some t) :
    (enterStopping n c s).supervisedCeiling = s.tripCeiling t := by
  rw [supervisedCeiling_stopping rfl rfl]
  simp only [State.ceiling, trip]

/-! ### Envelope supervision (04 R70) -/

/-- When the service test holds (04 R70). -/
theorem serviceTestNow_iff : s.serviceTestNow = true ↔ s.standstill = false ∧
    s.supervisedCeiling * 106 < s.lineSpeed * 100000 * 100 ∧
    s.supervisedCeiling + 150000000 < s.lineSpeed * 100000 := by
  simp only [State.serviceTestNow, exceedsLevel1, Bool.and_eq_true, Bool.not_eq_true', decide_eq_true_eq]
  rfl

/-- When the absolute limit test holds (04 R70). -/
theorem aboveAbsolute_iff : s.aboveAbsolute = true ↔
    ∃ v, s.hc.lineMax = some v ∧ v * 1000000 * 112 < s.lineSpeed * 100000 * 100 := by
  simp only [State.aboveAbsolute]
  cases s.hc.lineMax with
  | none => simp
  | some v =>
    simp only [decide_eq_true_eq, Option.some.injEq, exists_eq_left']
    rfl

/-- When the emergency test holds (04 R70). -/
theorem emergencyTestNow_iff : s.emergencyTestNow = true ↔ s.standstill = false ∧
    ((s.supervisedCeiling * 112 < s.lineSpeed * 100000 * 100 ∧
      s.supervisedCeiling + 300000000 < s.lineSpeed * 100000) ∨
    ∃ v, s.hc.lineMax = some v ∧ v * 1000000 * 112 < s.lineSpeed * 100000 * 100) := by
  rw [← aboveAbsolute_iff]
  simp only [State.emergencyTestNow, exceedsLevel2, Bool.and_eq_true, Bool.or_eq_true, Bool.not_eq_true',
    decide_eq_true_eq]
  rfl

end Sys2Proof.Machine
end

section

namespace Sys2Proof.Machine

variable {s : State}

/-! ### The commit of a departure (03 R54; 08 R143) -/

/-- A list changed at one place. -/
theorem mem_updateAt {α : Type} {f : α → α} {l : List α} {i j : Nat} {x : α} (h : (updateAt i f l)[j]? = some x) :
    ∃ y, l[j]? = some y ∧ (x = y ∨ x = f y) := by
  rw [getElem?_updateAt] at h
  split at h
  · obtain ⟨y, hy, rfl⟩ := Option.map_eq_some_iff.1 h
    exact ⟨y, hy, .inr rfl⟩
  · exact ⟨x, h, .inl rfl⟩

theorem setCar_self {α : Type} (t : Two α) (c : Car) : t.setCar c (t.car c) = t := by cases c <;> rfl

/-- The entries that a commit of car c leaves in a queue (08 R143). -/
def Queue.committed (c : Car) (q : Queue) : Queue :=
  { q with entries := q.entries.filter (fun e => decide (e.batch ≠ some c)) }

/-- A commit takes the batch of its car away (08 R143). -/
theorem commitBatch_batches (c : Car) : (commitBatch c s).gqu.batches = s.gqu.batches.setCar c none := by
  simp only [commitBatch]
  cases batch : s.gqu.batches.car c with
  | none =>
    have kept : s.gqu.batches.setCar c none = s.gqu.batches := by rw [← batch, setCar_self]
    exact kept.symm
  | some b => rfl

/-- A commit adds the batch to the load of its car (08 R143). -/
theorem commitBatch_loads (c : Car) : (commitBatch c s).gqu.loads =
    s.gqu.loads.setCar c ((s.gqu.loads.car c).map (fun n => n + s.batchSize c)) := by
  simp only [commitBatch]
  cases batch : s.gqu.batches.car c with
  | none =>
    simp only [State.batchSize, batch, Nat.add_zero, Option.map_id', setCar_self]
    rfl
  | some b => rfl

/-- A commit takes the entries of the batch out of its queue (08 R143). -/
theorem commitBatch_queues {c : Car} {b : Batch} (batch : s.gqu.batches.car c = some b) :
    (commitBatch c s).gqu.queues = updateAt b.queue (Queue.committed c) s.gqu.queues := by
  simp only [commitBatch, batch]
  rfl

/-- A commit puts no entry into a queue. -/
theorem commitBatch_entries {c : Car} {i : Nat} {x : Queue} (h : (commitBatch c s).gqu.queues[i]? = some x) :
    ∃ y, s.gqu.queues[i]? = some y ∧ ∀ e ∈ x.entries, e ∈ y.entries := by
  cases batch : s.gqu.batches.car c with
  | none =>
    simp only [commitBatch, batch] at h
    exact ⟨x, h, fun _ he => he⟩
  | some b =>
    rw [commitBatch_queues batch] at h
    obtain ⟨y, hy, rfl | rfl⟩ := mem_updateAt h
    · exact ⟨x, hy, fun _ he => he⟩
    · exact ⟨y, hy, fun e he => List.mem_of_mem_filter he⟩

/-- After a commit no entry of the queue of the batch is marked for its car (08 R143). -/
theorem commitBatch_unmarked {c : Car} {b : Batch} {x : Queue} (batch : s.gqu.batches.car c = some b)
    (h : (commitBatch c s).gqu.queues[b.queue]? = some x) : ∀ e ∈ x.entries, e.batch ≠ some c := by
  rw [commitBatch_queues batch, getElem?_updateAt, if_pos rfl] at h
  obtain ⟨y, -, rfl⟩ := Option.map_eq_some_iff.1 h
  exact fun e he => of_decide_eq_true (List.mem_filter.1 he).2

/-- A commit leaves the size of the other car's batch (08 R143). -/
theorem commitBatch_size {c c' : Car} (other : c' ≠ c) : (commitBatch c s).batchSize c' = s.batchSize c' := by
  cases batch : s.gqu.batches.car c with
  | none => simp only [commitBatch, batch]; rfl
  | some b =>
    have kept : ∀ q : Queue, ((Queue.committed c q).entries.filter (fun e => decide (e.batch = some c'))).length =
        (q.entries.filter (fun e => decide (e.batch = some c'))).length := by
      intro q
      rw [Queue.committed, List.filter_filter]
      refine congrArg List.length (List.filter_congr fun e _ => ?_)
      by_cases mark : e.batch = some c' <;> simp [mark, other]
    simp only [State.batchSize, commitBatch_batches, setCar_other _ _ other, commitBatch_queues batch]
    cases s.gqu.batches.car c' with
    | none => rfl
    | some b' =>
      dsimp only
      rw [getElem?_updateAt]
      cases s.gqu.queues[b'.queue]? with
      | none => simp
      | some q => split_ifs <;> simp [kept]

/-- The haul moves with a trip in three states (03 R54). -/
theorem moving_iff (x : HaulState) : x.moving = true ↔ x = .running ∨ x = .approach ∨ x = .stopping := by
  cases x <;> simp [HaulState.moving]

/-- The commit is judged by the haul state, the trip and the way (03 R54). -/
theorem judgeCommit_eq {t0 : TripRec} (trip : s.hc.trip.rec? = some t0) : judgeCommit s =
    if (s.hc.haul = .running ∨ s.hc.haul = .approach ∨ s.hc.haul = .stopping) ∧ s.hc.trip.state = .active ∧
        t0.committed = false ∧ 500 * s.driveCpm ≤ (s.lgp.p - s.hc.commitRef).natAbs then commitTrip t0 s
    else s := by
  simp only [judgeCommit, trip, moving_iff]

/-- What a commit leaves of the haul controller and the queue unit (03 R54; 08 R143). -/
theorem commitTrip_leaves (t0 : TripRec) : (commitTrip t0 s).hc = { s.hc with
      trip := { s.hc.trip with rec? := some { t0 with
        committed := true, batches := some ⟨s.batchSize .a, s.batchSize .b⟩ } }
      forced := (match t0.target with
        | some k => s.hc.forced.filter (fun j => decide (j ≠ k))
        | none => s.hc.forced) } ∧
    (commitTrip t0 s).gqu = (commitBatch .b (commitBatch .a s)).gqu := by
  refine ⟨?_, rfl⟩
  simp only [commitTrip, modHc_hc, commitBatch_hc] <;> rfl

/-- The loads after both commits (08 R143). -/
theorem commitBoth_loads (c : Car) : (commitBatch .b (commitBatch .a s)).gqu.loads.car c =
    (s.gqu.loads.car c).map (fun n => n + s.batchSize c) := by
  rw [commitBatch_loads, commitBatch_loads, commitBatch_size (by simp)]
  cases c <;> rfl

/-- No entry of the queue of a batch is marked for its car after both commits (08 R143). -/
theorem commitBoth_unmarked {c : Car} {b : Batch} {x : Queue} (batch : s.gqu.batches.car c = some b)
    (h : (commitBatch .b (commitBatch .a s)).gqu.queues[b.queue]? = some x) :
    ∀ e ∈ x.entries, e.batch ≠ some c := by
  cases c with
  | a =>
    obtain ⟨y, hy, fewer⟩ := commitBatch_entries h
    exact fun e he => commitBatch_unmarked batch hy e (fewer e he)
  | b =>
    refine commitBatch_unmarked ?_ h
    rw [commitBatch_batches]
    exact batch

/-! ### The pulse of a brake test (05 R87, R88) -/

/-- The request reaches the brake that it names (04 R66). -/
theorem applyBrake_brake (b : Brake) : (applyBrake b s).bl.brakes.brake b =
    (s.bl.brakes.brake b).applied b s.now := by cases b <;> rfl

/-- The drive after an abandoned departure. -/
theorem abandonDeparture_drive (cause : EndCause) : (abandonDeparture cause s).hc.drive = s.hc.drive := by
  have ended : ∀ (held : Bool) (t : State), (parkedCycle held (abandonTrip cause t)).hc.drive = t.hc.drive := by
    intro held t
    obtain ⟨y, cycle⟩ := parkedCycle_hc held (abandonTrip cause t)
    rw [cycle, abandonTrip_hc]
  simp only [abandonDeparture]
  (repeat' split) <;> simp [ended, setHaul]

/-- A fault of class BLOCK leaves the drive (10 R171). -/
theorem raise_block_drive {k : FaultKey} (hk : k.code.cls = .block) : (raise k s).hc.drive = s.hc.drive := by
  simp only [raise, handOn, hk]
  split
  · rw [abandonDeparture_drive]
    rfl
  · rfl

/-- The end of a pulse: the drive without torque, the record, and the restoring of the other brake (05 R88). -/
theorem endPulse_leaves (t : Test) (pass : Bool) : (endPulse t pass s).hc.drive = .noTorque ∧
    (endPulse t pass s).bpu = { s.bpu with
      records := s.bpu.records.setBrake t.brake (some (s.testRecord t pass))
      test := some { t with phase := .restoring }, pulseDue := none } ∧
    ((endPulse t pass s).bl.brakes.brake t.brake.other).state ≠ .released ∧
    ((endPulse t pass s).bl.brakes.brake t.brake.other).state ≠ .releasing := by
  refine ⟨?_, ?_, ?_⟩
  · cases pass
    · simp only [endPulse, applyBrake_hc, modBpu_hc, Bool.false_eq_true, if_false]
      exact raise_block_drive rfl
    · rfl
  · cases pass
    · simp only [endPulse, applyBrake_bpu, Bool.false_eq_true, if_false]
      rw [State.modBpu, raise_block_bpu rfl]
      rfl
    · rfl
  · simp only [endPulse, applyBrake_brake]
    exact applied_state _ _ _

/-- The end of a pulse that passed removes the fault of a failed test (05 R88). -/
theorem endPulse_passed_ft (t : Test) : (endPulse t true s).ft =
    s.ft.removed (fun k _ => decide (k = ⟨.brakeTestFailed, t.brake.index⟩)) := rfl

/-- The end of a pulse that failed raises it (05 R88). -/
theorem endPulse_failed_ft (t : Test) : (endPulse t false s).ft =
    s.ft.raised ⟨.brakeTestFailed, t.brake.index⟩ s.tt.clock := by
  simp only [endPulse, applyBrake_ft, Bool.false_eq_true, if_false]
  exact raise_ft _ _

/-- The slip of a pulse, judged at a position (05 R87). -/
theorem judgeSlip_pulse {x : Test} {p0 : Int} (test : s.bpu.test = some x) (phase : x.phase = .pulse)
    (start : x.start = some p0) : judgeSlip s =
      let y := { x with slip := some (max (x.slip.getD 0) (s.lgp.p - p0).natAbs) }
      let t := s.modBpu fun b => { b with test := some y }
      if 20 * s.driveCpm < max (x.slip.getD 0) (s.lgp.p - p0).natAbs then endPulse y false t else t := by
  simp only [judgeSlip, test, phase, start]

end Sys2Proof.Machine
end

section

namespace Sys2Proof.Machine

variable {s : State}

/-! ### The judgement of the envelope (04 R70) -/

/-- Neither test begins to hold: the tests are kept for the next moment. -/
theorem judgeEnvelope_quiet (service : s.serviceTestNow = false ∨ s.bl.serviceTest = true)
    (emergency : s.emergencyTestNow = false ∨ s.bl.emergencyTest = true) : judgeEnvelope s = { s with
      bl := { s.bl with serviceTest := s.serviceTestNow, emergencyTest := s.emergencyTestNow } } := by
  have first : (s.serviceTestNow && !s.bl.serviceTest) = false := by rcases service with h | h <;> simp [h]
  have second : (s.emergencyTestNow && !s.bl.emergencyTest) = false := by rcases emergency with h | h <;> simp [h]
  simp only [judgeEnvelope, first, second, Bool.false_eq_true, if_false]
  rfl

/-- The service test alone begins to hold. -/
theorem judgeEnvelope_service (service : s.serviceTestNow = true) (last : s.bl.serviceTest = false)
    (emergency : s.emergencyTestNow = false ∨ s.bl.emergencyTest = true) :
    ∃ x y, judgeEnvelope s = (raise ⟨.overspeedService, 0⟩ s).modBl
      fun l => { l with serviceTest := x, emergencyTest := y } := by
  have second : (s.emergencyTestNow && !s.bl.emergencyTest) = false := by rcases emergency with h | h <;> simp [h]
  simp only [judgeEnvelope, service, last, second, Bool.not_false, Bool.and_self, Bool.false_eq_true, if_true, if_false]
  exact ⟨_, _, rfl⟩

/-- The emergency test begins to hold, after what the service test raised. -/
theorem judgeEnvelope_emergency (emergency : s.emergencyTestNow = true) (last : s.bl.emergencyTest = false) :
    ∃ x y, judgeEnvelope s = (raise ⟨.overspeedEmergency, 0⟩
        (if s.serviceTestNow = true ∧ s.bl.serviceTest = false then raise ⟨.overspeedService, 0⟩ s else s)).modBl
      fun l => { l with serviceTest := x, emergencyTest := y } := by
  simp only [judgeEnvelope, emergency, last, Bool.not_false, Bool.and_self, if_true, Bool.and_eq_true,
    Bool.not_eq_true']
  exact ⟨_, _, rfl⟩

/-! ### Passing time in a brake test -/

/-- A length in tenths of a millimetre is a matter of the line. -/
theorem tenths_congr {s t : State} (h : t.lgp = s.lgp) (n : Nat) : t.tenths n = s.tenths n := by
  simp only [State.tenths, State.driveCpm, h]

/-- Passing time leaves the service day (07 R124). -/
@[simp] theorem passUntil_day (u : Nat) : (passUntil u s).tt.day = s.tt.day := by
  rw [passUntil, passTime_tt, Tt.pass]
  split_ifs <;> rfl

/-- The record of a pulse is that of the moment before time passed (05 R88). -/
theorem passUntil_testRecord (u : Nat) (x : Test) (pass : Bool) :
    (passUntil u s).testRecord x pass = s.testRecord x pass := by
  simp only [State.testRecord, passUntil_day, tenths_congr (passUntil_lgp s u)]

theorem setBrake_brake {α : Type} (t : Two α) (b : Brake) (x : α) : (t.setBrake b x).brake b = x := by cases b <;> rfl

end Sys2Proof.Machine
end

section

namespace Sys2Proof.Machine

/-- Settles O51: the timers of a stop, a departure and a brake test, and the judgements of a moving trip. -/
theorem stopsEscalateAndDeparturesRelease : Obligations.StopsEscalateAndDeparturesRelease := by
  intro s
  refine ⟨?sample, ?check, ?warning, nearTarget_iff, ?releasing, ?testing, ?moving, ?stopping,
    supervisedCeiling_tripped, ?demand, supervisedCeiling_standing, ?approach, ?stays, ?commit, serviceTestNow_iff,
    emergencyTestNow_iff, ?envelope, ?pulse, ?slip⟩
  case sample =>
    rintro r q stop first rfl haul
    have due : s.sampleDue = some r.nextDue := by simp [State.sampleDue, stop, first]
    rw [← escalationSample_some ((passUntil_stop haul).2.trans stop)]
    exact happens_expire rfl due
  case check =>
    rintro r q v stop sampled rfl haul
    obtain ⟨stays, kept⟩ := passUntil_stop (u := r.nextDue) haul
    have due : s.checkDue = some r.nextDue := by simp [State.checkDue, stop, sampled]
    have last : s.lastSample = v := by simp [State.lastSample, stop, sampled]
    have happens : Happens .escalationCheck s (escalationCheck v (passUntil r.nextDue s)) := by
      rw [← last]
      exact happens_expire rfl due
    rw [escalationCheck_eq v (kept.trans stop)] at happens
    refine ⟨slowsEnough_iff, fun slow => ?_, fun fast one => ?_, fun fast two => ?_⟩
    · rw [if_pos slow] at happens
      exact happens
    · rw [if_neg (by simp [fast]), if_pos one] at happens
      obtain ⟨⟨r', record, stage⟩, haul, drive, brake, ft⟩ :=
        moveStage2_leaves (s := (passUntil r.nextDue s).checked r) stays rfl
      exact ⟨_, r', happens, record, stage, haul, drive, brake ▸ (applied_state _ _ _).1,
        brake ▸ (applied_state _ _ _).2, ft⟩
    · rw [if_neg (by simp [fast]), if_neg two] at happens
      obtain ⟨hc, record, brake⟩ := moveStage3_leaves (s := (passUntil r.nextDue s).checked r)
      refine ⟨_, happens, by rw [hc], record, by rw [hc], by rw [hc], by rw [hc], ?_, ?_, moveStage3_ft _⟩
      · exact brake ▸ (applied_state _ _ _).1
      · exact brake ▸ (applied_state _ _ _).2
  case warning =>
    intro u due
    obtain ⟨first, second⟩ := warningExpires_brakes (s := passUntil u s)
    refine ⟨warningExpires (passUntil u s), happens_expire rfl due, ?_, by rw [warningExpires_hc],
      by rw [warningExpires_hc], by rw [warningExpires_hc], ?_, fun clear => ?_, by simp [warningExpires]⟩
    · rw [outer_now (warningExpires_outer _), passUntil_now]
    · exact first ▸ lifted_lifts _ _ _
    · exact second clear ▸ lifted_lifts _ _ _
  case releasing =>
    intro haul
    refine ⟨fun first second => ?_, fun unproven => ?_⟩
    · rw [tellProven_releasing haul, if_pos ⟨first, second⟩]
      rfl
    · rw [tellProven_releasing haul, if_neg (not_and_or.2 unproven)]
  case testing =>
    intro x haul test
    refine ⟨fun phase proven => ?_, fun phase proven t ht => ?_, fun idle => ?_⟩
    · rw [tellProven_testing haul test, phase, proven]
      rfl
    · rw [ht, tellProven_testing haul test, phase, proven]
      exact finishTest_leaves
    · rw [tellProven_testing haul test]
      split <;> simp_all
  case moving =>
    intro t haul trip
    exact ⟨supervisedCeiling_moving haul trip, fun n c => enterStopping_ceiling n c trip⟩
  case stopping => exact fun r haul stop => supervisedCeiling_stopping haul stop
  case demand =>
    intro c
    rw [supervisedCeiling_tripped (emergencyDemand_haul s c).1, emergencyDemand_ceiling]
  case approach =>
    intro haul near
    rw [judgeApproach, if_pos ⟨haul, near⟩]
    rfl
  case stays =>
    intro away
    refine if_neg fun ⟨haul, near⟩ => ?_
    rcases away with h | h
    · exact h haul
    · simp [near] at h
  case commit =>
    intro t0 trip
    refine ⟨fun haul active fresh far t ht => ?_, fun idle => ?_⟩
    · obtain ⟨hc, gqu⟩ := commitTrip_leaves (s := s) t0
      rw [ht, judgeCommit_eq trip, if_pos ⟨haul, active, fresh, far⟩, gqu]
      refine ⟨hc, ?_, fun c b x batch found => commitBoth_unmarked batch found, commitBoth_loads⟩
      rw [commitBatch_batches, commitBatch_batches]
      rfl
    · rw [judgeCommit_eq trip, if_neg]
      rintro ⟨haul, active, fresh, far⟩
      rcases idle with ⟨running, approach, stopping⟩ | suspended | committed | near
      · exact haul.elim running (Or.elim · approach stopping)
      · exact suspended active
      · simp [fresh] at committed
      · omega
  case envelope =>
    rintro t rfl
    refine ⟨judgeEnvelope_quiet, fun service last emergency => ?_, fun emergency last => ?_⟩
    · obtain ⟨x, y, judged⟩ := judgeEnvelope_service service last emergency
      rw [judged]
      refine ⟨raise_ft _ _, fun moving => ?_⟩
      rw [raise_service_enters rfl moving]
      exact ⟨rfl, _, rfl, rfl, rfl⟩
    · obtain ⟨x, y, judged⟩ := judgeEnvelope_emergency emergency last
      rw [judged]
      refine ⟨raise_emergency_tripped _ rfl, ?_⟩
      rw [modBl_ft, raise_ft]
      split_ifs <;> simp [raise_ft]
  case pulse =>
    intro u x due test phase
    have expires : pulseExpires (passUntil u s) = endPulse x true (passUntil u s) := by
      simp only [pulseExpires, passUntil_bpu, test, if_pos phase]
    have happens : Happens .pulseExpiry s (endPulse x true (passUntil u s)) := expires ▸ happens_expire rfl due
    obtain ⟨drive, bpu, released, releasing⟩ := endPulse_leaves (s := passUntil u s) x true
    refine ⟨_, happens, drive, ?_, by rw [bpu], by rw [bpu], released, releasing, fun _ k hk => ?_⟩
    · rw [bpu, setBrake_brake, passUntil_testRecord]
      rfl
    · rw [endPulse_passed_ft, slot_removed _ _ hk]
      by_cases failed : k = ⟨.brakeTestFailed, x.brake.index⟩ <;> simp [failed]
  case slip =>
    rintro x p0 n test phase start rfl t rfl
    rw [judgeSlip_pulse test phase start]
    refine ⟨fun small => if_neg (Nat.not_lt.2 small), fun large => ?_⟩
    dsimp only
    rw [if_pos large]
    obtain ⟨drive, bpu, released, releasing⟩ := endPulse_leaves
      (s := s.modBpu fun b => { b with
        test := some { x with slip := some (max (x.slip.getD 0) (s.lgp.p - p0).natAbs) } })
      { x with slip := some (max (x.slip.getD 0) (s.lgp.p - p0).natAbs) } false
    exact ⟨drive, endPulse_failed_ft _, by rw [bpu, setBrake_brake]; rfl, by rw [bpu], by rw [bpu], released, releasing⟩

end Sys2Proof.Machine
end

section

namespace Sys2Proof.Machine

/-! ### What a step does to the fault table and to the brakes -/

/-- A state that comes from `o` by actions of the fault table and of the brake ladder alone, whatever happens to the
rest of the part: raises, ends and removals of slots (10 R169, R170, R173, R174), apply and release requests (04 R65,
R66), proofs and other changes of a brake that leave its state, and a reset of the fault table or of the part. -/
inductive Acts (o : State) : State → Prop
  | start : Acts o o
  | aside {s t : State} (h : Acts o s) (same : t.ft = s.ft ∧ t.bl.brakes = s.bl.brakes) : Acts o t
  | raises {s : State} (h : Acts o s) (k : FaultKey) : Acts o (raise k s)
  | ends {s : State} (h : Acts o s) (k : FaultKey) : Acts o (endCondition k s)
  | removes {s : State} (h : Acts o s) (p : FaultKey → FaultRec → Bool) : Acts o (s.modFt (FaultTable.removed p))
  | empties {s : State} (h : Acts o s) : Acts o (emptyFaults s)
  | applies {s : State} (h : Acts o s) (b : Brake) : Acts o (applyBrake b s)
  | releases {s : State} (h : Acts o s) (b : Brake) : Acts o (releaseBrake b s)
  | proves {s : State} (h : Acts o s) (b : Brake) : Acts o (modBrake b BrakeRec.proven s)
  | adjusts {s : State} (h : Acts o s) (b : Brake) {f : BrakeRec → BrakeRec} (same : ∀ x, (f x).state = x.state) :
      Acts o (modBrake b f s)
  | resets {s : State} (h : Acts o s) : Acts o (resetState s)

@[simp] theorem endCondition_ft (k : FaultKey) (s : State) : (endCondition k s).ft = s.ft.ended k := rfl

section

variable {o s : State}

theorem acts_ite {p : Prop} [Decidable p] {t u : State} (ht : Acts o t) (hu : Acts o u) :
    Acts o (if p then t else u) := by
  split
  · exact ht
  · exact hu

theorem acts_forEach {f : Nat → State → State} (hf : ∀ i (t : State), Acts o t → Acts o (f i t)) :
    ∀ l (s : State), Acts o s → Acts o (forEach f l s)
  | [], _, h => h
  | i :: is, s, h => acts_forEach hf is _ (hf i s h)

theorem acts_emptySlots {p : FaultKey → FaultRec → Bool} (h : Acts o s) :
    Acts o (emptySlots (FaultTable.removed p) s) := (h.removes p).aside (by simp)

/-! #### Demands and raises -/

theorem acts_abandonDeparture {cause : EndCause} (h : Acts o s) : Acts o (abandonDeparture cause s) := by
  have parked : Acts o (setHaul .parked s) := h.aside (by simp)
  simp only [abandonDeparture]
  split
  · exact h.aside (by simp)
  · split
    · exact (parked.applies .holding).aside (by simp)
    · exact ((parked.applies .holding).applies .emergency).aside (by simp)
  · exact h

/-- A demand of class EMERGENCY asks both brakes to apply (04 R72). -/
theorem acts_emergencyDemand {code : Option FaultCode} (h : Acts o s) : Acts o (emergencyDemand code s) := by
  refine ((h.applies .emergency).applies .holding).aside ⟨by simp, ?_⟩
  exact congrArg₂ Two.mk (emergencyDemand_brake s code .holding) (emergencyDemand_brake s code .emergency)

theorem acts_moveStage2 (h : Acts o s) : Acts o (moveStage2 s) := by
  have second : Acts o (command .noTorque (s.modBl fun l => { l with
      stop := l.stop.map (fun r => { r with stage := 2 }) })) := h.aside (by simp)
  exact (second.applies .holding).raises _

theorem acts_moveStage3 (h : Acts o s) : Acts o (moveStage3 s) := by
  have applied : Acts o (applyBrake .emergency (command .noTorque s)) := (h.aside (by simp)).applies .emergency
  exact applied.aside ⟨by simp, by simp [moveStage3]⟩

theorem acts_raiseWhere {p : Prop} [Decidable p] {k : FaultKey} (h : Acts o s) :
    Acts o (if p then raise k s else s) := acts_ite (h.raises k) h

/-- Two faults, each raised where its condition holds. -/
theorem acts_raiseBoth {p q : Prop} [Decidable p] [Decidable q] {k l : FaultKey} (h : Acts o s) :
    Acts o (if q then raise l (if p then raise k s else s) else if p then raise k s else s) :=
  acts_raiseWhere (acts_raiseWhere h)

/-! #### Passing time -/

theorem acts_judgeEnvelope (h : Acts o s) : Acts o (judgeEnvelope s) :=
  (acts_ite ((acts_ite (h.raises _) h).raises _) (acts_ite (h.raises _) h)).aside ⟨rfl, rfl⟩

theorem acts_noteEncoders (h : Acts o s) : Acts o (noteEncoders s) := by
  have noted : ∀ f : Stu → Stu, Acts o (s.modStu f) := fun f => h.aside (by simp)
  exact acts_ite (noted _) ((noted _).ends _)

theorem acts_judgeMoment (h : Acts o s) : Acts o (judgeMoment s) := by
  have noted := acts_noteEncoders h
  exact acts_ite (acts_judgeEnvelope noted) (noted.aside ⟨rfl, rfl⟩)

theorem acts_followMoments : ∀ n t (s : State), Acts o s → Acts o (followMoments n t s)
  | 0, _, _, h => h.aside ⟨rfl, rfl⟩
  | n + 1, t, s, h => by
    have elapsed : ∀ dt, Acts o (elapse dt s) := fun dt => h.aside (by simp)
    simp only [followMoments]
    split
    · exact elapsed _
    · exact acts_followMoments n t _ (acts_judgeMoment (elapsed _))

theorem acts_passTime {dt : Nat} (h : Acts o s) : Acts o (passTime dt s) := acts_followMoments _ _ _ h

theorem acts_passUntil {t : Nat} (h : Acts o s) : Acts o (passUntil t s) := acts_passTime h

end

end Sys2Proof.Machine
end

section

namespace Sys2Proof.Machine

/-! ### The operations of the blocks act on the fault table and the brakes -/

theorem acts_raiseJams {o : State} : ∀ (l : List Lane) (s : State), Acts o s → Acts o (raiseJams l s)
  | [], _, h => h
  | _ :: xs, _, h => acts_raiseJams xs _ (acts_ite (h.raises _) h)

theorem acts_raiseAll {o : State} : ∀ (cs : List Car) (s : State), Acts o s →
    Acts o (cs.foldl (fun t c => raise ⟨.positionDisagree, c.index⟩ t) s)
  | [], _, h => h
  | _ :: cs, _, h => acts_raiseAll cs _ (h.raises _)

section

variable {o s : State}

/-! #### Gates, position, speed and tension -/

theorem acts_removeLaneFaults (h : Acts o s) : Acts o (removeLaneFaults s) := acts_emptySlots h

theorem acts_jamLane {id : Nat} (h : Acts o s) : Acts o (jamLane id s) := by
  have jammed : ∀ f, Acts o (s.modGqu f) := fun f => h.aside (by simp)
  simp only [jamLane]
  split
  · exact jammed _
  · exact Acts.raises (h.aside (by simp)) _

theorem acts_settleExpires (h : Acts o s) : Acts o (settleExpires s) := by
  have settled : ∀ f, Acts o (s.modGqu f) := fun f => h.aside (by simp)
  exact acts_ite ((settled _).ends _) ((settled _).raises _)

theorem acts_restartGates (h : Acts o s) : Acts o (restartGates s) := acts_raiseJams _ _ (h.aside ⟨rfl, rfl⟩)

theorem acts_leaveWindow {c : Car} (h : Acts o s) : Acts o (leaveWindow c s) := by
  have emptied : Acts o (setWatch c none s) := h.aside (by simp)
  simp only [leaveWindow]
  (repeat' split)
  · exact h
  · exact emptied
  · exact h
  · exact emptied.raises _
  · exact emptied

theorem acts_followWatch {c : Car} {x : Int} (h : Acts o s) : Acts o (followWatch c x s) := by
  have left : Acts o (leaveWindow c s) := acts_leaveWindow h
  simp only [followWatch]
  exact left.aside (by simp)

theorem acts_judgeOvertravel {c : Car} (h : Acts o s) : Acts o (judgeOvertravel c s) := by
  have set : ∀ side, Acts o (setOvertravel c side s) := fun side => h.aside (by simp)
  simp only [judgeOvertravel]
  (repeat' split)
  · exact h
  · exact h
  · exact (set _).raises _
  · exact (set _).ends _
  · exact set _

theorem acts_judgeOvertravels (h : Acts o s) : Acts o (judgeOvertravels s) :=
  acts_judgeOvertravel (acts_judgeOvertravel h)

theorem acts_stopOvertravel (h : Acts o s) : Acts o (stopOvertravel s) := by
  have cleared : ∀ f, Acts o (s.modLgp f) := fun f => h.aside (by simp)
  exact ((cleared _).ends _).ends _

theorem acts_doubt {cs : List Car} (h : Acts o s) : Acts o (doubt cs s) := (acts_raiseAll cs s h).aside ⟨rfl, rfl⟩

theorem acts_referenceAt {k : Nat} (h : Acts o s) : Acts o (referenceAt k s) := by
  have placed : ∀ (f : Lgp → Lgp) (t : State), Acts o t → Acts o (t.modLgp f) := fun f t ht => ht.aside (by simp)
  have fresh : ∀ t : State, Acts o t → Acts o (freshWatches t) := fun t ht => ht.aside (by simp)
  exact acts_judgeOvertravels (fresh _ (acts_leaveWindow (acts_leaveWindow (placed _ _
    (acts_ite h (h.aside (by simp)))))))

theorem acts_evaluateReferencing (h : Acts o s) : Acts o (evaluateReferencing s) := by
  rcases evaluateReferencing_cases s with e | ⟨k, -, e⟩ | ⟨c, cs, -, e⟩ <;> rw [e]
  · exact h
  · exact acts_referenceAt h
  · exact acts_doubt h

theorem acts_capture {j : Nat} {m : MarkerRec} {c : Car} (h : Acts o s) : Acts o (capture j m c s) := by
  have watched : ∀ (w : Option Watch) (t : State), Acts o t → Acts o (setWatch c w t) :=
    fun w t ht => ht.aside (by simp)
  have corrected : ∀ f, Acts o (mark (.car c) (s.modLgp f)) := fun f => h.aside (by simp)
  exact acts_ite (acts_judgeOvertravel (watched _ _ (acts_leaveWindow (corrected _)))) (acts_doubt h)

theorem acts_pulse {j : Nat} (h : Acts o s) : Acts o (pulse j s) := by
  rcases pulse_cases s j with e | ⟨m, c, e⟩ | ⟨c, e⟩ <;> rw [e]
  · exact h
  · exact acts_capture h
  · exact acts_doubt h

theorem acts_followCars {xA xB : Int} (h : Acts o s) : Acts o (followCars xA xB s) :=
  acts_judgeOvertravels (acts_followWatch (acts_followWatch h))

theorem acts_restartPosition (h : Acts o s) : Acts o (restartPosition s) := by
  have formed : Acts o (freshWatches (formPresences s)) := h.aside (by simp)
  exact acts_judgeOvertravels (formed.aside ⟨rfl, rfl⟩)

theorem acts_judgeEncoders (h : Acts o s) : Acts o (judgeEncoders s) :=
  acts_ite ((acts_noteEncoders h).raises _) (acts_noteEncoders h)

theorem acts_restartSpeed (h : Acts o s) : Acts o (restartSpeed s) := acts_judgeEncoders (h.aside ⟨rfl, rfl⟩)

theorem acts_disagreementExpires (h : Acts o s) : Acts o (disagreementExpires s) := by
  have stopped : ∀ f, Acts o (s.modStu f) := fun f => h.aside (by simp)
  exact acts_ite ((stopped _).raises _) h

theorem acts_judgeLimits {c : Chan} {avg : Int} (h : Acts o s) : Acts o (judgeLimits c avg s) := by
  have judged : ∀ f, Acts o (modTension c f s) := fun f => h.aside (by simp)
  simp only [judgeLimits]
  split
  · exact h
  · exact acts_ite (acts_ite ((judged _).ends _) (judged _)) (acts_ite ((judged _).raises _) (judged _))

theorem acts_convert {c : Chan} {raw : Nat} (h : Acts o s) : Acts o (convert c raw s) := by
  have converted : ∀ f, Acts o (modTension c f s) := fun f => h.aside (by simp)
  have standby : ∀ avg (t : State), Acts o t → Acts o (judgeStandby c avg t) := fun avg t ht => ht.aside (by simp)
  simp only [convert]
  (repeat' split)
  · exact (converted _).raises _
  · exact converted _
  · exact standby _ _ ((converted _).ends _)
  · exact acts_judgeLimits ((converted _).ends _)

theorem acts_conversionMissing {c : Chan} (h : Acts o s) : Acts o (conversionMissing c s) := by
  have silent : ∀ f, Acts o (modTension c f s) := fun f => h.aside (by simp)
  exact (silent _).raises _

theorem acts_restartTensionFaults (h : Acts o s) : Acts o (restartTensionFaults s) :=
  acts_raiseBoth (acts_raiseBoth h)

/-! #### Doors -/

theorem acts_enterLocked {i : Nat} (h : Acts o s) : Acts o (enterLocked i s) := by
  have ended : Acts o (endCondition ⟨.doorObstructed, i⟩ (endCondition ⟨.doorUnproven, i⟩ s)) :=
    (h.ends _).ends _
  simp only [enterLocked]
  split <;> exact ended.aside (by simp)

theorem acts_raiseObstructed {i : Nat} (h : Acts o s) : Acts o (raiseObstructed i s) := by
  simp only [raiseObstructed]
  split
  · exact acts_ite (h.raises _) h
  · exact h

theorem acts_raiseUnproven {i : Nat} (h : Acts o s) : Acts o (raiseUnproven i s) := acts_ite (h.raises _) h

theorem acts_enterOpening {i : Nat} (h : Acts o s) : Acts o (enterOpening i s) := h.aside (by simp)

theorem acts_modReleased {c : Car} {f : Released → Released} (h : Acts o s) : Acts o (modReleased c f s) :=
  h.aside (by simp)

theorem acts_obstructAlone {i : Nat} (h : Acts o s) : Acts o (obstructAlone i s) := by
  have counted : Acts o (countObstruction i s) := h.aside (by simp)
  exact acts_enterOpening (acts_raiseObstructed counted)

theorem acts_obstruct {c : Car} {is : List Nat} (h : Acts o s) : Acts o (obstruct c is s) := by
  have counted : Acts o (forEach countObstruction is s) := acts_forEach (fun i t ht => ht.aside (by simp)) _ _ h
  have raised := acts_forEach (fun i t ht => acts_raiseObstructed (i := i) ht) is _ counted
  simp only [obstruct]
  split
  · exact h
  · exact acts_forEach (fun i t ht => acts_enterOpening ht) _ _ (acts_ite (acts_modReleased raised) counted)

theorem acts_sendClosing {c : Car} {is : List Nat} (h : Acts o s) : Acts o (sendClosing c is s) := by
  have started : Acts o (forEach startClosing is s) := acts_forEach (fun i t ht => ht.aside (by simp)) _ _ h
  have locked : ∀ l, Acts o (forEach enterLocked l (forEach startClosing is s)) :=
    fun l => acts_forEach (fun i t ht => acts_enterLocked ht) _ _ started
  simp only [sendClosing]
  split
  · exact locked _
  · exact acts_obstruct (locked _)

theorem acts_closeWhileDue {c : Car} : ∀ n (s : State), Acts o s → Acts o (closeWhileDue c n s)
  | 0, _, h => h
  | n + 1, s, h => by
    have dwelt : Acts o (judgeDwell s) := h.aside (by simp)
    simp only [closeWhileDue]
    split
    · exact h
    · exact acts_ite (acts_closeWhileDue n _ (acts_sendClosing dwelt)) h

theorem acts_closeIfDue {c : Car} (h : Acts o s) : Acts o (closeIfDue c s) := acts_closeWhileDue _ _ h

theorem acts_closeBoth (h : Acts o s) : Acts o (closeBoth s) := acts_closeIfDue (acts_closeIfDue h)

theorem acts_closeOnDemand {c : Car} (h : Acts o s) : Acts o (closeOnDemand c s) := by
  simp only [closeOnDemand]
  split
  · exact h
  · exact acts_closeIfDue (acts_ite (acts_sendClosing h) h)

theorem acts_closeAtDwell {c : Car} (h : Acts o s) : Acts o (closeAtDwell c s) := by
  simp only [closeAtDwell]
  split
  · exact h
  · exact acts_ite (acts_closeIfDue (acts_sendClosing (acts_modReleased h))) (acts_modReleased h)

theorem acts_enterUnproven {i : Nat} (h : Acts o s) : Acts o (enterUnproven i s) := by
  have unproven : ∀ f, Acts o (commandDoor i .none (modDoor i f (boardingReopened i s))) := fun f => h.aside (by simp)
  exact (unproven _).raises _

theorem acts_closedChanged {i : Nat} {v : Bool} (h : Acts o s) : Acts o (closedChanged i v s) := by
  have noted : ∀ f, Acts o (modDoorIn i f s) := fun f => h.aside (by simp)
  simp only [closedChanged]
  split
  · exact acts_enterUnproven (noted _)
  · exact acts_enterLocked (noted _)
  · exact acts_enterLocked (noted _)
  · exact noted _

theorem acts_openedChanged {i : Nat} {v : Bool} (h : Acts o s) : Acts o (openedChanged i v s) := by
  have noted : ∀ f, Acts o (modDoorIn i f s) := fun f => h.aside (by simp)
  simp only [openedChanged]
  split
  · exact acts_closeBoth (h.aside (by simp))
  · exact noted _

theorem acts_obstructionChanged {i : Nat} {v : Bool} (h : Acts o s) : Acts o (obstructionChanged i v s) := by
  have noted : ∀ f, Acts o (modDoorIn i f s) := fun f => h.aside (by simp)
  simp only [obstructionChanged]
  split
  · exact acts_closeIfDue (acts_obstruct (noted _))
  · exact acts_obstructAlone (noted _)
  · exact noted _

theorem acts_doorInput {i : Nat} {x : DoorInput} {v : Bool} (h : Acts o s) : Acts o (doorInput i x v s) := by
  cases x
  · exact acts_ite h (acts_closedChanged h)
  · exact acts_ite h (acts_openedChanged h)
  · exact acts_ite h (acts_obstructionChanged h)

theorem acts_doorReport {c : Car} {x y z : Bool} (h : Acts o s) : Acts o (doorReport c x y z s) :=
  acts_doorInput (acts_doorInput (acts_doorInput h))

theorem acts_openProofExpires {i : Nat} (h : Acts o s) : Acts o (openProofExpires i s) := by
  have raised : Acts o (raise ⟨.doorTimeout, i⟩ s) := h.raises _
  exact acts_closeBoth (raised.aside (by simp))

theorem acts_closeProofExpires {i : Nat} (h : Acts o s) : Acts o (closeProofExpires i s) := by
  have raised : Acts o (raise ⟨.doorTimeout, i⟩ s) := h.raises _
  simp only [closeProofExpires]
  split <;> exact raised.aside (by simp)

theorem acts_dwellExpires (h : Acts o s) : Acts o (dwellExpires s) := by
  have expired : Acts o (setDwell .expired s) := h.aside (by simp)
  have first := acts_ite (p := s.unheld .a = true) (acts_closeAtDwell (c := .a) expired) expired
  exact acts_ite (acts_closeAtDwell first) first

theorem acts_newDoors {n : Nat} (h : Acts o s) : Acts o (newDoors n s) := by
  have built : ∀ (f : Dc → Dc) (t : State), Acts o t → Acts o (t.modDc f) := fun f t ht => ht.aside (by simp)
  refine acts_forEach (fun i t ht => acts_raiseUnproven ht) _ _ (built _ _ (acts_emptySlots ?_))
  refine acts_forEach (fun i t ht => acts_ite ht ?_) _ _ h
  split
  · exact ht.aside (by simp)
  · exact ht

theorem acts_restartDoors (h : Acts o s) : Acts o (restartDoors s) := by
  have idle : ∀ f, Acts o (s.modDc f) := fun f => h.aside (by simp)
  simp only [restartDoors]
  refine acts_forEach (fun i t ht => ?_) _ _ (acts_forEach (fun i t ht => acts_raiseUnproven ht) _ _ (idle _))
  split
  · exact acts_ite (ht.raises _) ht
  · exact ht

end

end Sys2Proof.Machine
end

section

namespace Sys2Proof.Machine

section

variable {o s : State}

/-! #### Trips and standstill -/

theorem acts_warningExpires (h : Acts o s) : Acts o (warningExpires s) := by
  have releasing : ∀ f, Acts o (s.modHc f) := fun f => h.aside (by simp)
  exact ((releasing _).releases .holding).releases .emergency

theorem acts_park (h : Acts o s) : Acts o (park s) := by
  have parked : ∀ f, Acts o (s.modHc f) := fun f => h.aside (by simp)
  exact (parked _).applies .holding

theorem acts_arrive {k : Nat} (h : Acts o s) : Acts o (arrive k s) :=
  (acts_park h).aside ⟨by simp, by rw [arrive_bl]⟩

theorem acts_overrun (h : Acts o s) : Acts o (overrun s) := by
  have parked : Acts o (park s) := acts_park h
  exact parked.aside ⟨by simp, by simp [overrun]⟩

theorem acts_missStop {t : TripRec} {k : Nat} (h : Acts o s) : Acts o (missStop t k s) := by
  have again : ∀ f, Acts o (s.modHc f) := fun f => h.aside (by simp)
  exact acts_ite (again _) ((acts_overrun h).raises _)

theorem acts_judgeArrival (h : Acts o s) : Acts o (judgeArrival s) := by
  simp only [judgeArrival]
  split
  · exact h
  · split
    · exact h
    · exact acts_ite (acts_ite (acts_arrive h) (acts_overrun h)) (acts_ite (acts_arrive h) (acts_missStop h))

theorem acts_endStop (h : Acts o s) : Acts o (endStop s) := by
  have parked : ∀ r : StopRec, Acts o (stopParked r s) := by
    intro r
    have stood : Acts o (if r.stage = 1 then park s else setHaul .parked s) :=
      acts_ite (acts_park h) (h.aside (by simp))
    exact stood.aside ⟨rfl, rfl⟩
  simp only [endStop]
  split
  · exact h
  · rename_i r _
    have headed : Acts o (followHeading (stopParked r s)) := (parked r).aside (by simp)
    have abandoned : ∀ c (t : State), Acts o t → Acts o (abandonTrip c t) := fun c t ht => ht.aside (by simp)
    have ended : ∀ t : State, Acts o t → Acts o (parkedCycle false t) := fun t ht => ht.aside (by simp)
    refine ended _ ?_
    split
    · exact headed.aside ⟨rfl, rfl⟩
    · exact abandoned _ _ headed

theorem acts_haulAtStandstill (h : Acts o s) : Acts o (haulAtStandstill s) := by
  simp only [haulAtStandstill]
  split
  · exact acts_judgeArrival h
  · exact acts_endStop h
  · exact h

/-! #### Car lines -/

theorem acts_carMessage {c : Car} (h : Acts o s) : Acts o (carMessage c s) := by
  have alive : ∀ f, Acts o (modCarLine c f s) := fun f => h.aside (by simp)
  have ended : ∀ f, Acts o (endCondition ⟨.carLinkLost, c.index⟩ (modCarLine c f s)) := fun f => (alive f).ends _
  exact acts_ite (alive _) (acts_ite (ended _) ((ended _).aside ⟨rfl, rfl⟩))

theorem acts_trackBrakeReport {c : Car} {v : Bool} (h : Acts o s) : Acts o (trackBrakeReport c v s) := by
  have told : ∀ f, Acts o (modCarLine c f (carMessage c s)) := fun f => (acts_carMessage h).aside ⟨rfl, rfl⟩
  rw [trackBrakeReport_eq]
  exact acts_ite (told _) (acts_ite ((told _).raises _) ((told _).ends _))

theorem acts_buttonReport {c : Car} {v : Bool} (h : Acts o s) : Acts o (buttonReport c v s) := by
  have told : ∀ f, Acts o (modCarLine c f (carMessage c s)) := fun f => (acts_carMessage h).aside ⟨rfl, rfl⟩
  have woken : ∀ t : State, Acts o t → Acts o (if v = true then wake .carLine t else t) := fun t ht =>
    acts_ite (ht.aside (by simp)) ht
  rw [buttonReport_eq]
  exact acts_ite (woken _ (told _)) (acts_ite ((woken _ (told _)).raises _) ((woken _ (told _)).ends _))

theorem acts_stopRequest {c : Car} {station : Nat} (h : Acts o s) : Acts o (stopRequest c station s) := by
  have told := acts_carMessage (c := c) h
  exact acts_ite told (told.aside ⟨rfl, rfl⟩)

theorem acts_carSilent {c : Car} (h : Acts o s) : Acts o (carSilent c s) := by
  have silent : ∀ f, Acts o (modCarLine c f s) := fun f => h.aside (by simp)
  exact (silent _).raises _

theorem acts_restartCarFaults (h : Acts o s) : Acts o (restartCarFaults s) :=
  acts_raiseBoth (acts_raiseBoth h)

/-! #### Brake tests -/

theorem acts_endPulse {t : Test} {pass : Bool} (h : Acts o s) : Acts o (endPulse t pass s) := by
  have recorded : ∀ f, Acts o ((command .noTorque s).modBpu f) := fun f => h.aside (by simp)
  have restoring : ∀ (f : Bpu → Bpu) (u : State), Acts o u → Acts o (u.modBpu f) := fun f u hu => hu.aside (by simp)
  simp only [endPulse]
  refine Acts.applies (restoring _ _ ?_) _
  split
  · exact (recorded _).removes _
  · exact (recorded _).raises _

theorem acts_judgeSlip (h : Acts o s) : Acts o (judgeSlip s) := by
  have slid : ∀ f, Acts o (s.modBpu f) := fun f => h.aside (by simp)
  simp only [judgeSlip]
  split
  · exact h
  · split
    · exact acts_ite (acts_endPulse (slid _)) (slid _)
    · exact h

theorem acts_pulseExpires (h : Acts o s) : Acts o (pulseExpires s) := by
  simp only [pulseExpires]
  split
  · exact h
  · exact acts_ite (acts_endPulse h) h

theorem acts_abortTest (h : Acts o s) : Acts o (abortTest s) := by
  have restoring : ∀ f, Acts o ((command .noTorque s).modBpu f) := fun f => h.aside (by simp)
  simp only [abortTest]
  split
  · exact h
  · exact acts_ite h ((restoring _).applies _)

theorem acts_restartTest (h : Acts o s) : Acts o (restartTest s) := by
  have torqueless : Acts o (command .noTorque s) := h.aside (by simp)
  simp only [restartTest]
  split
  · exact h
  · exact (torqueless.applies _).aside ⟨rfl, rfl⟩

theorem acts_startTest {b : Brake} {d : Dir} {torque duration : Nat} (h : Acts o s) :
    Acts o (startTest b d torque duration s) := by
  have begun : ∀ f, Acts o (mark .brakes (mark .haul (command .noTorque (setHaul .brakeTest (s.modBpu f))))) :=
    fun f => h.aside (by simp)
  have pulsed : ∀ (x : Test) (u : State), Acts o u → Acts o (beginPulse x u) := fun x u hu => hu.aside (by simp)
  exact acts_ite (pulsed _ _ (begun _)) ((begun _).releases _)

/-! #### The brake ladder -/

theorem acts_feedback {b : Brake} {x : FeedbackInput} {v : Bool} (h : Acts o s) : Acts o (feedback b x v s) := by
  have taken : Acts o (modBrake b (BrakeRec.withInput x v) s) := h.adjusts b fun r => by cases x <;> rfl
  exact acts_ite (Acts.raises (acts_ite (taken.applies b) taken) _) taken

theorem acts_releaseProofExpires {b : Brake} (h : Acts o s) : Acts o (releaseProofExpires b s) :=
  (h.applies b).raises _

theorem acts_applyProofExpires {b : Brake} (h : Acts o s) : Acts o (applyProofExpires b s) := by
  have stopped : Acts o (modBrake b (fun r => { r with proofDue := none }) s) := h.adjusts b fun _ => rfl
  exact stopped.raises _

theorem acts_proveBrake {b : Brake} (h : Acts o s) : Acts o (proveBrake b s) :=
  acts_ite ((h.proves b).ends _) (h.proves b)

theorem acts_proveBrakes (h : Acts o s) : Acts o (proveBrakes s) := by
  have proven : Acts o (proveBrake .emergency (proveBrake .holding s)) := acts_proveBrake (acts_proveBrake h)
  exact proven.aside ⟨tellProven_ft _, by rw [proveBrakes, tellProven_bl]⟩

theorem acts_driveFault (h : Acts o s) : Acts o (driveFault s) := by
  have stopping : ∀ c, Acts o (enterStopping 2 c s) := fun c => h.aside ⟨rfl, rfl⟩
  simp only [driveFault]
  split
  · exact h.raises _
  · exact h.raises _
  · exact acts_moveStage2 (stopping _)
  · exact acts_moveStage2 (stopping _)
  · split
    · exact acts_ite (acts_moveStage2 h) h
    · exact h
  · exact acts_abortTest h
  · exact h
  · exact h

theorem acts_driveReport {ready : Bool} (h : Acts o s) : Acts o (driveReport ready s) := by
  have reported : Acts o (s.modBl fun l => { l with driveReady := ready }) := h.aside (by simp)
  exact acts_ite h (acts_ite reported (acts_driveFault reported))

theorem acts_escalationCheck {v : Nat} (h : Acts o s) : Acts o (escalationCheck v s) := by
  have checked : ∀ f, Acts o (modStop f s) := fun f => h.aside ⟨rfl, rfl⟩
  simp only [escalationCheck]
  split
  · exact checked _
  · split
    · exact acts_ite (acts_moveStage2 (checked _)) (acts_moveStage3 (checked _))
    · exact checked _

theorem acts_supervisionLoss (h : Acts o s) : Acts o (supervisionLoss s) := by
  have lost : ∀ f, Acts o (s.modMau f) := fun f => h.aside (by simp)
  exact acts_abortTest ((lost _).raises _)

/-! #### Movement and standstill -/

theorem acts_judgeMovement {before : State} (h : Acts o s) : Acts o (judgeMovement before s) := by
  have moved : Acts o (judgeCommit (judgeApproach (judgeCrossing (before.carPos .a) s))) := h.aside (by simp)
  exact acts_judgeSlip moved

theorem acts_driveEdge {d : Dir} (h : Acts o s) : Acts o (driveEdge d s) := by
  have counted : Acts o (countEdge d s) := h.aside (by simp)
  have stood : ∀ t : State, Acts o t → Acts o (standbyEdge d t) := fun t ht => ht.aside (by simp)
  exact acts_judgeMovement (stood _ (acts_followCars counted))

theorem acts_takeEdge {e : Encoder} {d : Dir} (h : Acts o s) : Acts o (takeEdge e d s) := by
  have taken : Acts o (followTopSpeed (speedEdge e d s)) := h.aside (by simp)
  cases e
  · exact acts_driveEdge taken
  · exact taken

theorem acts_presence {i : Nat} {v : PresenceReport} (h : Acts o s) : Acts o (presence i v s) := by
  have set : ∀ f, Acts o (s.modLgp f) := fun f => h.aside (by simp)
  have seen : ∀ before (t : State), Acts o t → Acts o (judgePairSeen before (formPresences t)) :=
    fun before t ht => ht.aside (by simp)
  exact acts_ite (acts_judgeMovement (acts_evaluateReferencing (seen _ _ (set _)))) (set _)

theorem acts_takePulse {j : Nat} (h : Acts o s) : Acts o (takePulse j s) :=
  acts_ite (acts_judgeMovement (acts_pulse h)) h

theorem acts_quiet {e : Encoder} (h : Acts o s) : Acts o (quiet e s) := by
  have silent : Acts o (modSpeed e SpeedChannel.silence s) := h.aside (by simp)
  have still : ∀ (f : Lgp → Lgp) (t : State), Acts o t → Acts o (t.modLgp f) := fun f t ht => ht.aside (by simp)
  exact acts_ite (acts_judgeMovement (acts_evaluateReferencing (still _ _ (acts_haulAtStandstill silent)))) silent

end

end Sys2Proof.Machine
end

section

namespace Sys2Proof.Machine

section

variable {o s : State}

/-! ### LINE_SET, line restart and full reset act on the fault table and the brakes -/

theorem acts_loadLine {r : LineRec} (h : Acts o s) : Acts o (loadLine r s) := by
  have loaded : ∀ f, Acts o (stopOvertravel (s.modLgp f)) := fun f => acts_stopOvertravel (h.aside (by simp))
  have formed : ∀ t : State, Acts o t → Acts o (formPresences (markStop s t)) := fun t ht => ht.aside (by simp)
  exact acts_evaluateReferencing (formed _ (loaded _))

theorem acts_acceptLine {r : LineRec} (h : Acts o s) : Acts o (acceptLine r s) := by
  have emptied : Acts o (emptyHistories (dissolveBoth s)) := h.aside (by simp)
  have discarded : Acts o (discardTrips (loadLine r (emptyHistories (dissolveBoth s)))) :=
    (acts_loadLine (r := r) emptied).aside (by simp)
  have gated : ∀ (f : Gqu → Gqu) (t : State), Acts o t → Acts o (t.modGqu f) := fun f t ht => ht.aside (by simp)
  have marked : ∀ (l : List NoticeKey) (f : Mau → Mau) (t : State), Acts o t → Acts o (markAll l (t.modMau f)) :=
    fun l f t ht => ht.aside (by simp)
  exact marked _ _ _ (acts_newDoors (gated _ _ (acts_removeLaneFaults discarded)))

theorem acts_restartHaul (h : Acts o s) : Acts o (restartHaul s) := by
  have cleared : ∀ f, Acts o ((s.modHc f).modBl fun l => { l with stop := none, stage3 := none }) :=
    fun f => h.aside (by simp)
  have parked : ∀ t : State, Acts o t → Acts o (followHeading (applyBrake .holding (setHaul .parked t))) := by
    intro t ht
    have set : Acts o (setHaul .parked t) := ht.aside (by simp)
    exact (set.applies .holding).aside (by simp)
  refine acts_ite (acts_emergencyDemand (cleared _)) (acts_ite (cleared _) (parked _ ?_))
  split
  · exact (cleared _).aside ⟨rfl, rfl⟩
  · exact cleared _

theorem acts_restartBrake {b : Brake} (h : Acts o s) : Acts o (restartBrake b s) := acts_ite (h.raises _) h

theorem acts_restartBrakes (h : Acts o s) : Acts o (restartBrakes s) :=
  acts_judgeEnvelope ((acts_restartBrake (b := .emergency) (acts_restartBrake (b := .holding) h)).aside ⟨rfl, rfl⟩)

theorem acts_lineRestart (h : Acts o s) : Acts o (lineRestart s) := by
  have noticed : Acts o (restartNotices (restartMode s)) := h.aside (by simp)
  have supervised : ∀ t : State, Acts o t → Acts o (restartSupervision t) := fun t ht => ht.aside (by simp)
  exact supervised _ (acts_restartCarFaults (acts_restartBrakes (acts_evaluateReferencing (acts_restartPosition
    (acts_restartTensionFaults (acts_restartSpeed (acts_restartDoors (acts_restartGates (acts_restartHaul
      (acts_restartTest noticed.empties))))))))))

theorem acts_fullReset (h : Acts o s) : Acts o (fullReset s) := by
  have judged : ∀ (b : Brake) (t : State), Acts o t → Acts o (resetBrake b t) := by
    intro b t ht
    have raised : Acts o (raise ⟨.brakeFeedback, b.index⟩ t) := ht.raises _
    exact acts_ite ht (raised.aside (by simp))
  exact judged _ _ (judged _ _ h.resets)

/-! ### The end of an event acts on the fault table and the brakes -/

theorem acts_settlePlant (h : Acts o s) : Acts o (settlePlant s) :=
  acts_proveBrakes (acts_judgeEnvelope (acts_judgeEncoders (acts_proveBrakes h)))

theorem acts_finish {before : State} (h : Acts o s) : Acts o (finish before s) := by
  have settled : Acts o (settlePlant s) := acts_settlePlant h
  simp only [finish, settle]
  exact settled.aside (by simp)

theorem acts_transmit (h : Acts o s) : Acts o (transmit s) := by
  refine h.aside ⟨by simp, ?_⟩
  simp only [transmit, forgetReported, startFrame]
  (repeat' split) <;> rfl

theorem acts_event {f : State → State} (h : Acts o (f s)) : Acts o (event f s) := acts_transmit (acts_finish h)

/-! ### Requests act on the fault table and the brakes -/

theorem acts_markAll {l : List NoticeKey} (h : Acts o s) : Acts o (markAll l s) := h.aside (by simp)

theorem acts_setLanes {l : List LaneDesc} (h : Acts o s) : Answer.All (Acts o) (setLanes l s) := by
  have cleared : ∀ f, Acts o ((removeLaneFaults s).modGqu f) := fun f => (acts_removeLaneFaults h).aside ⟨rfl, rfl⟩
  simp only [setLanes]
  (repeat' split) <;> simp only [all_error, all_done]
  exact acts_markAll ((acts_raiseJams _ _ (cleared _)).aside ⟨rfl, rfl⟩)

theorem acts_openDoors {pair : Nat} (h : Acts o s) : Answer.All (Acts o) (openDoors pair s) := by
  simp only [openDoors]
  (repeat' split) <;> simp only [all_error, all_done]
  all_goals exact h.aside (by simp)

theorem acts_closeDoors {pair : Nat} (h : Acts o s) : Answer.All (Acts o) (closeDoors pair s) := by
  have cleared : ∀ l, Acts o (forEach (fun i => modDoor i (fun d => { d with reopen := 0, hold := false })) l s) :=
    fun l => acts_forEach (fun i t ht => ht.aside (by simp)) l s h
  simp only [closeDoors]
  (repeat' split) <;> simp only [all_error, all_done]
  · exact h
  · exact acts_closeIfDue (acts_sendClosing (acts_modReleased (cleared _)))

theorem acts_setHold {c : Car} {k : Nat} {v : Bool} (h : Acts o s) : Acts o (setHold c k v s) := h.aside (by simp)

theorem acts_unholdDoors {pair : Nat} (h : Acts o s) : Answer.All (Acts o) (unholdDoors pair s) := by
  simp only [unholdDoors]
  (repeat' split) <;> simp only [all_error, all_done]
  · exact h
  · exact acts_closeOnDemand (acts_modReleased (acts_setHold h))
  · exact acts_setHold h

theorem acts_changeMode {m : LineMode} (h : Acts o s) : Acts o (changeMode m s) := by
  have entered : Acts o (mark .mode (s.modMau fun x => { x with mode := m })) := h.aside (by simp)
  have off : ∀ t : State, Acts o t → Acts o (enterOff t) := by
    intro t ht
    have calmed : Acts o (clearStandby (restartTension t)) := ht.aside (by simp)
    have applied : Acts o (dissolveBoth (applyBrake .emergency (clearStandby (restartTension t)))) :=
      (calmed.applies .emergency).aside (by simp)
    have stood : ∀ f, Acts o ((dissolveBoth (applyBrake .emergency (clearStandby (restartTension t)))).modMau f) :=
      fun f => applied.aside (by simp)
    exact acts_ite ((stood _).ends _) (stood _)
  have suspended := acts_ite (p := s.hc.trip.state = .suspended ∧ keepsSuspended s.mau.mode m = false)
    (entered.aside ⟨abandonTrip_ft _ .hold, by rw [abandonTrip_bl]⟩) entered
  have gone := acts_ite (p := m = .off) (off _ suspended) suspended
  have left := acts_ite (p := s.mau.mode = .off) (gone.aside ⟨exitOff_ft _, by rw [exitOff_bl]⟩) gone
  have automatic := acts_ite (p := m = .automatic)
    (left.aside ⟨enterAutomatic_ft _, by rw [enterAutomatic_bl]⟩) left
  exact acts_ite (automatic.aside ⟨rfl, rfl⟩) automatic

theorem acts_resetTrip {level : Nat} (h : Acts o s) : Answer.All (Acts o) (resetTrip level s) := by
  have parked : ∀ p, Acts o (command .noTorque (setHaul .parked (s.modFt (FaultTable.removed p)))) :=
    fun p => (h.removes p).aside (by simp)
  have marked : ∀ t : State, Acts o t → Acts o (parkedCycle false (mark .brakes (mark .haul t))) :=
    fun t ht => ht.aside (by simp)
  simp only [resetTrip]
  (repeat' split) <;> simp only [all_error, all_done]
  · exact marked _ (parked _)
  · exact marked _ ((parked _).releases _)

theorem acts_own {level : Nat} {r : Request} (h : Acts o s) : Answer.All (Acts o) (own level r s) := by
  cases r with
  | lineSet x =>
    simp only [own, setLine]
    split_ifs <;> simp [acts_acceptLine h]
  | markersSet limit l =>
    simp only [own, setMarkers]
    (repeat' split) <;> simp only [all_error, all_done]
    all_goals exact h.aside (by simp)
  | profileSet p =>
    simp only [own, setProfile]
    (repeat' split) <;> simp only [all_error, all_done]
    all_goals exact h.aside (by simp)
  | tensionSet one two =>
    simp only [own, setTension]
    split <;> simp only [all_error, all_done]
    exact h.aside (by simp)
  | lanesSet l => exact acts_setLanes h
  | postsSet l =>
    simp only [own, setPosts]
    split <;> simp only [all_error, all_done]
    exact h.aside (by simp)
  | paramSet scope p =>
    simp only [own, setParams]
    (repeat' split) <;> simp only [all_error, all_done]
    · exact h.aside (by simp)
    · exact h.aside (by simp)
  | ticketsLoad t =>
    simp only [own, loadTickets]
    (repeat' split) <;> simp only [all_error, all_done]
    all_goals exact h.aside (by simp)
  | ticketsDrop b =>
    simp only [own, dropTickets]
    (repeat' split) <;> simp only [all_error, all_done]
    all_goals exact h.aside (by simp)
  | ticketQuery n =>
    simp only [own, queryTicket]
    split <;> simp only [all_error, all_ok]
    exact h.aside (by simp)
  | daySet day time =>
    simp only [own, setDay]
    (repeat' split) <;> simp only [all_error, all_done]
    all_goals exact h.aside (by simp)
  | modeSet m =>
    simp only [own, setMode]
    (repeat' split) <;> simp only [all_error, all_done]
    · exact h
    · exact acts_changeMode h
  | dispatch t d =>
    simp only [own, dispatchTrip]
    split <;> simp only [all_error, all_ok]
    exact h.aside (by simp)
  | hold =>
    simp only [own, holdTrip]
    split <;> simp only [all_error, all_done]
    · exact acts_abandonDeparture h
    · exact acts_abandonDeparture h
    · exact h.aside ⟨rfl, rfl⟩
    · exact h.aside ⟨rfl, rfl⟩
    · exact h
  | resume =>
    simp only [own, resumeTrip]
    (repeat' split) <;> simp only [all_error, all_ok]
    · exact h.aside (by simp)
    · exact h.aside (by simp)
    · exact h.aside (by simp)
  | stopNow => exact (all_done _ _).2 (h.raises _)
  | tripReset => exact acts_resetTrip h
  | doors op p a =>
    simp only [own, ownDoors]
    split
    · exact acts_openDoors h
    · exact acts_closeDoors h
    · simp only [holdDoors]
      (repeat' split) <;> simp only [all_error, all_done]
      exact acts_setHold h
    · exact acts_unholdDoors h
    · exact all_error _ _
  | lane l op =>
    simp only [own, ownLane, setLaneClosed, clearLane]
    (repeat' split) <;> simp only [all_error, all_done]
    · exact h.aside (by simp)
    · exact h.aside (by simp)
    · exact Acts.removes (h.aside (by simp)) _
  | queue q op =>
    simp only [own, ownQueue, setQueueClosed]
    (repeat' split) <;> simp only [all_error, all_done]
    all_goals exact h.aside (by simp)
  | forceStop k op =>
    simp only [own, ownForceStop, forceStop]
    (repeat' split) <;> simp only [all_error, all_done]
    all_goals exact h.aside (by simp)
  | weatherSet w =>
    simp only [own, setWeather]
    split <;> simp only [all_error, all_done]
    exact h.aside (by simp)
  | amend c g v a d =>
    simp only [own, amendClass]
    (repeat' split) <;> simp only [all_error, all_ok]
    all_goals exact h.aside (by simp)
  | brakeTest b d t u =>
    simp only [own, testBrake]
    (repeat' split) <;> simp only [all_error, all_done]
    exact acts_startTest h
  | faultsAck => exact (all_ok _ _ _).2 (h.removes _)
  | restart =>
    simp only [own, restartLineRequest]
    split <;> simp [acts_lineRestart h]
  | carRead c =>
    simp only [own, readCar]
    split <;> simp [h]
  | queueRead q p =>
    simp only [own, readQueue]
    split <;> simp [h]
  | laneRead l =>
    simp only [own, readLane]
    split <;> simp [h]
  | statusRead | faultsRead | tripRead | brakesRead | tensionRead => exact (all_ok _ _ _).2 h

/-! ### The line link, commands and steps act on the fault table and the brakes -/

theorem acts_judgeFrame {f : HeldFrame} (h : Acts o s) : Acts o (judgeFrame f s).1 := by
  simp only [judgeFrame]
  (repeat' split)
  · exact h
  · exact h
  · exact h
  · exact acts_own h _ _ ‹_›
  · exact h

theorem acts_modLl {f : Ll → Ll} (h : Acts o s) : Acts o (s.modLl f) := h.aside (by simp)

theorem acts_take {f : HeldFrame} (h : Acts o s) : Acts o (take f s) :=
  acts_transmit (acts_modLl (acts_finish (acts_judgeFrame (acts_modLl h))))

theorem acts_serveWhile : ∀ n (s : State), Acts o s → Acts o (serveWhile n s)
  | 0, _, h => h
  | n + 1, s, h => by
    simp only [serveWhile]
    split
    · exact acts_serveWhile n _ (acts_take h)
    · exact h

theorem acts_serve (h : Acts o s) : Acts o (serve s) := acts_serveWhile 2 s h

theorem acts_validFrame (h : Acts o s) : Acts o (validFrame s) := by
  have framed : ∀ f, Acts o (s.modMau f) := fun f => h.aside (by simp)
  have ended : ∀ f k, Acts o (endCondition k (s.modMau f)) := fun f k => (framed f).ends k
  simp only [validFrame]
  split
  · exact h.aside (by simp)
  · exact h.aside (by simp)
  · exact (ended _ _).aside ⟨rfl, rfl⟩

theorem acts_receive {f : HeldFrame} (h : Acts o s) : Acts o (receive f s) :=
  acts_ite (acts_validFrame (acts_modLl h)) h

theorem acts_frameArrives {f : HeldFrame} (h : Acts o s) : Acts o (frameArrives f s) :=
  acts_serve (acts_event (acts_receive h))

theorem acts_byteIn {b : Byte} (h : Acts o s) : Acts o (byteIn b s) := by
  have hunted : Acts o (hunt s) := acts_modLl h
  have framed : ∀ l, Acts o (inFrame l s) := fun l => acts_modLl h
  simp only [byteIn, checkFrame]
  (repeat' split) <;> simp [h, hunted, framed, acts_receive]

theorem acts_expire {due : Option Nat} {f : State → State} (hf : ∀ t : State, Acts o t → Acts o (f t))
    (h : Acts o s) : Acts o (expire due f s) := by
  simp only [expire]
  split
  · exact h
  · exact acts_event (hf _ (acts_passUntil h))

theorem acts_exec {i : Instr} {t : State} (h : Acts o s) (hx : exec i s = .next t) : Acts o t := by
  have request : ∀ x r, .next (requestArrives x r s) = (.next t : Result) → Acts o t := by
    rintro x r ⟨⟩
    exact acts_frameArrives h
  have happen : ∀ f : State → State, .next (event f s) = (.next t : Result) → Acts o (f s) → Acts o t := by
    rintro f ⟨⟩ hf
    exact acts_event hf
  have expired : ∀ due (f : State → State), .next (expire due f s) = (.next t : Result) →
      (∀ u : State, Acts o u → Acts o (f u)) → Acts o t := by
    rintro due f ⟨⟩ hf
    exact acts_expire hf h
  have changed : ∀ (same : Prop) [Decidable same] (f : State → State),
      (if same then .next s else .next (event f s)) = (.next t : Result) → Acts o (f s) → Acts o t := by
    intro same _ f hx hf
    split at hx
    · cases hx
      exact h
    · exact happen f hx hf
  cases i with
  | unknownKindFrame x kind =>
    cases hx
    exact acts_frameArrives h
  | fullReset =>
    cases hx
    exact acts_fullReset h
  | restartLine => exact happen _ hx (acts_lineRestart h)
  | encoderEdge e d n => exact happen _ hx (acts_takeEdge (acts_passTime h))
  | estimateDecay n | effectiveCeilingFall n => exact happen _ hx (acts_passTime h)
  | quietExpiry e => exact expired _ _ hx fun u hu => acts_quiet hu
  | disagreementIntervalExpiry => exact expired _ _ hx fun u hu => acts_disagreementExpires hu
  | presenceChange i v => exact changed _ _ hx (acts_presence h)
  | markerPulse j => exact happen _ hx (acts_takePulse h)
  | tensionConversion c raw => exact happen _ hx (acts_convert h)
  | missingConversionExpiry c => exact expired _ _ hx fun u hu => acts_conversionMissing hu
  | brakeFeedbackChange b x v => exact changed _ _ hx (acts_feedback h)
  | driveReportChange ready => exact changed _ _ hx (acts_driveReport h)
  | releaseProofExpiry b => exact expired _ _ hx fun u hu => acts_releaseProofExpires hu
  | applyProofExpiry b => exact expired _ _ hx fun u hu => acts_applyProofExpires hu
  | escalationSample => exact expired _ _ hx fun u hu => hu.aside ⟨rfl, rfl⟩
  | escalationCheck => exact expired _ _ hx fun u hu => acts_escalationCheck hu
  | warningExpiry => exact expired _ _ hx fun u hu => acts_warningExpires hu
  | pulseExpiry => exact expired _ _ hx fun u hu => acts_pulseExpires hu
  | carLineSilenceExpiry c => exact expired _ _ hx fun u hu => acts_carSilent hu
  | openProofExpiry i => exact expired _ _ hx fun u hu => acts_openProofExpires hu
  | closeProofExpiry i => exact expired _ _ hx fun u hu => acts_closeProofExpires hu
  | dwellExpiry => exact expired _ _ hx fun u hu => acts_dwellExpires hu
  | passageTimeout lane => exact expired _ _ hx fun u hu => hu.aside (by simp)
  | settleIntervalExpiry => exact expired _ _ hx fun u hu => acts_settleExpires hu
  | supervisionExpiry => exact expired _ _ hx fun u hu => acts_supervisionLoss hu
  | gapIntervalExpiry => exact expired _ _ hx fun u hu => hu.aside ⟨rfl, rfl⟩
  | lineClockStop => exact expired _ _ hx fun u hu => hu
  | carTrackBrakeReport c v => exact happen _ hx (acts_trackBrakeReport h)
  | carEmergencyButtonReport c v => exact happen _ hx (acts_buttonReport h)
  | carStopRequest c v => exact happen _ hx (acts_stopRequest h)
  | carDoorReport c x y z => exact happen _ hx (acts_doorReport (acts_carMessage h))
  | platformDoorInputChange i x v => cases x <;> exact changed _ _ hx (acts_doorInput h)
  | lanePresentation lane serial => exact happen _ hx (h.aside (by simp))
  | lanePassage lane => exact happen _ hx (h.aside (by simp))
  | leafJam lane => exact happen _ hx (acts_jamLane h)
  | leafJamWithdrawn lane => exact happen _ hx (h.aside (by simp))
  | linkByte b =>
    cases hx
    exact acts_serve (acts_event (acts_byteIn h))
  | frameSendEnd =>
    simp only [exec, execFrameSendEnd] at hx
    split at hx
    · cases hx
      exact h
    · cases hx
      exact acts_serve (acts_event (acts_modLl (acts_passUntil h)))
  | _ => exact request _ _ hx

/-- All that a step does to the fault table and the brakes. -/
theorem acts_step {t : State} (hx : Sys2Proof.Machine.step s = .next t) : Acts s t := by
  simp only [Sys2Proof.Machine.step] at hx
  split at hx
  · exact acts_exec (Acts.start.aside (by simp)) hx
  · simp only [idleStep] at hx
    (repeat' split at hx)
    · cases hx
      exact acts_event (acts_passTime .start)
    · exact acts_exec .start hx
    · cases hx
      exact acts_event (acts_passTime .start)

end

end Sys2Proof.Machine
end

section

namespace Sys2Proof.Machine

/-! ### The classes of the present faults -/

/-- The key that stands at the rank of a key is that key itself (10 R172). -/
theorem key_at_rank {k x : FaultKey} (h : allKeys[k.rank]? = some x) : x = k := by
  obtain ⟨place, rfl⟩ := List.getElem?_eq_some_iff.1 h
  exact of_decide_eq_true (List.findIdx_getElem (w := place))

/-- A fault of a class is present when some slot of a key of that class holds a record (10 R171). -/
theorem presentClass_iff (t : FaultTable) (c : FaultClass) : t.presentClass c = true ↔
    ∃ (i : Nat) (k : FaultKey) (x : FaultRec),
      allKeys[i]? = some k ∧ t.slots[i]? = some (some x) ∧ k.code.cls = c := by
  simp only [FaultTable.presentClass, FaultTable.entries, List.any_eq_true, List.mem_filterMap, decide_eq_true_eq]
  constructor
  · rintro ⟨e, ⟨⟨k, slot⟩, mem, entry⟩, cls⟩
    obtain ⟨i, at_i⟩ := List.mem_iff_getElem?.1 mem
    obtain ⟨key, place⟩ := List.getElem?_zip_eq_some.1 at_i
    cases slot with
    | none => simp at entry
    | some x =>
      cases entry
      exact ⟨i, k, x, key, place, cls⟩
  · rintro ⟨i, k, x, key, place, cls⟩
    exact ⟨⟨k, k.code.cls, x⟩, ⟨(k, some x),
      List.mem_iff_getElem?.2 ⟨i, List.getElem?_zip_eq_some.2 ⟨key, place⟩⟩, rfl⟩, cls⟩

/-- A raise makes no fault of another class present (10 R168). -/
theorem presentClass_raised {t : FaultTable} {k : FaultKey} {n : Nat} {c : FaultClass}
    (h : (t.raised k n).presentClass c = true) : t.presentClass c = true ∨ k.code.cls = c := by
  obtain ⟨i, x, r, key, place, cls⟩ := (presentClass_iff _ _).1 h
  rw [FaultTable.raised, getElem?_updateAt] at place
  split at place
  · subst i
    exact .inr (key_at_rank key ▸ cls)
  · exact .inl ((presentClass_iff _ _).2 ⟨i, x, r, key, place, cls⟩)

/-- The end of a condition makes no fault present (10 R170). -/
theorem presentClass_ended {t : FaultTable} {k : FaultKey} {c : FaultClass}
    (h : (t.ended k).presentClass c = true) : t.presentClass c = true := by
  obtain ⟨i, x, r, key, place, cls⟩ := (presentClass_iff _ _).1 h
  rw [FaultTable.ended, getElem?_updateAt] at place
  split at place
  · obtain ⟨old, at_i, ended⟩ := Option.map_eq_some_iff.1 place
    cases old with
    | none => simp [endedSlot] at ended
    | some y => exact (presentClass_iff _ _).2 ⟨i, x, y, key, at_i, cls⟩
  · exact (presentClass_iff _ _).2 ⟨i, x, r, key, place, cls⟩

/-- A class has faults left after a removal where one of its entries is not removed (10 R173). -/
theorem presentClass_removed_iff (p : FaultKey → FaultRec → Bool) (t : FaultTable) (c : FaultClass) :
    (t.removed p).presentClass c = true ↔ ∃ e ∈ t.entries, p e.key e.record = false ∧ e.cls = c := by
  simp only [FaultTable.presentClass, List.any_eq_true, decide_eq_true_eq, mem_entries_removed, and_assoc]

/-- A removal makes no fault present (10 R173). -/
theorem presentClass_removed {p : FaultKey → FaultRec → Bool} {t : FaultTable} {c : FaultClass}
    (h : (t.removed p).presentClass c = true) : t.presentClass c = true := by
  obtain ⟨e, mem, -, cls⟩ := (presentClass_removed_iff _ _ _).1 h
  exact List.any_eq_true.2 ⟨e, mem, decide_eq_true cls⟩

/-- No fault is present in an emptied table (10 R176). -/
theorem presentClass_reset (c : FaultClass) : FaultTable.reset.presentClass c = false := by
  rw [Bool.eq_false_iff]
  intro h
  obtain ⟨i, k, x, -, place, -⟩ := (presentClass_iff _ _).1 h
  have slot := List.eq_of_mem_replicate (List.mem_of_getElem? place)
  simp at slot

/-! ### The emergency brake under a fault of class EMERGENCY (04 R65, R72) -/

/-- The brake is APPLIED or APPLYING (04 R72). -/
def BrakeRec.held (r : BrakeRec) : Prop := r.state = .applied ∨ r.state = .applying

theorem applied_held (b : Brake) (now : Nat) (r : BrakeRec) : (r.applied b now).held := (applied_applies b now r).symm

/-- A proof leaves a brake that is APPLIED or APPLYING so (04 R66). -/
theorem proven_held {r : BrakeRec} (h : r.held) : r.proven.held := by
  rcases h with h | h
  · simp only [BrakeRec.proven, h]
    exact .inl h
  · simp only [BrakeRec.proven, h]
    split
    · exact .inl rfl
    · exact .inr h

/-- An abandoned departure leaves the emergency brake or asks it to apply (03 R53). -/
theorem abandonDeparture_emergency (s : State) (cause : EndCause) :
    (abandonDeparture cause s).bl.brakes.snd = s.bl.brakes.snd ∨
      (abandonDeparture cause s).bl.brakes.snd = s.bl.brakes.snd.applied .emergency s.now := by
  simp only [abandonDeparture]
  split
  · exact .inl (by simp)
  · rw [parkedCycle_bl, abandonTrip_bl]
    split
    · exact .inl rfl
    · exact .inr rfl
  · exact .inl rfl

/-- A service demand asks nothing of the brakes (04 R71). -/
theorem serviceDemand_brakes (s : State) (c : FaultCode) : (serviceDemand c s).bl.brakes = s.bl.brakes := by
  simp only [serviceDemand]
  split <;> rfl

/-- A raise leaves the emergency brake or asks it to apply (10 R171). -/
theorem raise_emergency_brake (s : State) (k : FaultKey) : (raise k s).bl.brakes.snd = s.bl.brakes.snd ∨
    (raise k s).bl.brakes.snd = s.bl.brakes.snd.applied .emergency s.now := by
  simp only [raise, handOn]
  split
  · exact .inr (emergencyDemand_brake _ _ .emergency)
  · have demanded := serviceDemand_brakes (s.modFt (FaultTable.raised k s.tt.clock)) k.code
    have now : (serviceDemand k.code (s.modFt (FaultTable.raised k s.tt.clock))).now = s.now :=
      outer_now (serviceDemand_outer _ _)
    have abandoned := abandonDeparture_emergency (serviceDemand k.code (s.modFt (FaultTable.raised k s.tt.clock)))
      (.fault k.code)
    rw [demanded, now] at abandoned
    exact abandoned
  · split
    · exact abandonDeparture_emergency _ _
    · exact .inl rfl
  · exact .inl rfl

/-- A raise keeps the emergency brake applied under a fault of class EMERGENCY (04 R72). -/
theorem emergencyHeld_raise {s : State} {k : FaultKey} (h : s.emergencyHeld) : (raise k s).emergencyHeld := by
  intro present
  rcases raise_emergency_brake s k with kept | applied
  · rw [raise_ft] at present
    rcases presentClass_raised present with before | cls
    · exact kept ▸ h before
    · have demanded : (raise k s).bl.brakes.snd = s.bl.brakes.snd.applied .emergency s.now := by
        simp only [raise, handOn, cls]
        exact emergencyDemand_brake _ _ .emergency
      exact demanded ▸ applied_held _ _ _
  · exact applied ▸ applied_held _ _ _

/-- A release request that would leave the emergency brake neither APPLIED nor APPLYING is not carried out while a
fault of class EMERGENCY is present (04 R65). -/
theorem emergencyHeld_releaseBrake {s : State} {b : Brake} (h : s.emergencyHeld) :
    (releaseBrake b s).emergencyHeld := by
  intro present
  rw [releaseBrake_ft] at present
  have kept : (releaseBrake b s).bl.brakes.snd = s.bl.brakes.snd := by
    cases b with
    | holding =>
      rw [releaseBrake_holding]
      rfl
    | emergency => rw [releaseBrake, if_pos ⟨rfl, present⟩]
  exact kept ▸ h present

/-- A change of a brake that leaves it APPLIED or APPLYING where it was so. -/
theorem emergencyHeld_modBrake {s : State} {b : Brake} {f : BrakeRec → BrakeRec}
    (hf : ∀ r : BrakeRec, r.held → (f r).held) (h : s.emergencyHeld) : (modBrake b f s).emergencyHeld := by
  intro present
  have before := h present
  cases b
  · exact before
  · exact hf _ before

theorem resetState_ft (s : State) : (resetState s).ft = FaultTable.reset := rfl

/-- No action of the fault table or of the brake ladder leaves the emergency brake RELEASED or RELEASING under a
fault of class EMERGENCY. -/
theorem emergencyHeld_acts {s t : State} (h : s.emergencyHeld) (acts : Acts s t) : t.emergencyHeld := by
  induction acts with
  | start => exact h
  | aside _ same ih =>
    obtain ⟨ft, brakes⟩ := same
    rw [State.emergencyHeld, ft, brakes]
    exact ih
  | raises _ k ih => exact emergencyHeld_raise ih
  | ends _ k ih => exact fun present => ih (presentClass_ended present)
  | removes _ p ih => exact fun present => ih (presentClass_removed present)
  | empties _ ih =>
    intro present
    rw [emptyFaults, emptySlots_ft, presentClass_reset] at present
    exact absurd present (by simp)
  | applies _ b ih => exact emergencyHeld_modBrake (fun r _ => applied_held _ _ r) ih
  | releases _ b ih => exact emergencyHeld_releaseBrake ih
  | proves _ b ih => exact emergencyHeld_modBrake (fun _ => proven_held) ih
  | adjusts _ b same ih =>
    refine emergencyHeld_modBrake (fun r hr => ?_) ih
    rw [BrakeRec.held, same]
    exact hr
  | resets _ ih =>
    intro present
    rw [resetState_ft, presentClass_reset] at present
    exact absurd present (by simp)

/-- Settles O7: a step acts on the fault table and the brakes by the actions of `Acts` alone, and each of them keeps
the emergency brake applied. -/
theorem emergencyFaultsHoldTheEmergencyBrake : Obligations.EmergencyFaultsHoldTheEmergencyBrake :=
  fun _ _ h hx => emergencyHeld_acts h (acts_step hx)

/-- Settles O5: after full reset no fault is present, the link is idle, the tables are empty and the clocks at 0. -/
theorem resetMeetsEveryInvariant : Obligations.ResetMeetsEveryInvariant := by
  refine ⟨fun present => ?held, ?link, ?table, ?lists, ?haul, fun _ => rfl, ?counters⟩
  case held => exact absurd present (by rw [State.reset, presentClass_reset]; simp)
  case link => exact ⟨by decide, Nat.zero_le _, fun _ => rfl, fun _ => rfl⟩
  case table =>
    refine ⟨rfl, fun r mem x present => ?_⟩
    rw [List.eq_of_mem_replicate mem] at present
    cases present
  case lists => exact ⟨fun q mem => absurd mem (by simp [State.reset, Gqu.reset]), Nat.zero_le _⟩
  case haul => exact haulSound_idle rfl rfl
  case counters =>
    exact ⟨Nat.zero_le _, by decide, by decide, by decide, by decide⟩

end Sys2Proof.Machine
end

section

namespace Sys2Proof.Machine

variable {s : State}

/-! ### Demands of class EMERGENCY (04 R72) -/

/-- A demand of class EMERGENCY ends a brake test that runs (04 R72). -/
theorem emergencyDemand_test (code : Option FaultCode) (haul : s.hc.haul = .brakeTest) :
    (emergencyDemand code s).bpu.test = none := by
  simp only [emergencyDemand, haul]
  (repeat' split) <;> simp_all

/-- A raise of class EMERGENCY makes the demand of its class (10 R171). -/
theorem raise_emergency {k : FaultKey} (hk : k.code.cls = .emergency) :
    raise k s = emergencyDemand (some k.code) (s.modFt (FaultTable.raised k s.tt.clock)) := by
  simp only [raise, handOn, hk]

/-- A raise of class EMERGENCY asks both brakes to apply (04 R72). -/
theorem raise_emergency_brakes {k : FaultKey} (hk : k.code.cls = .emergency) (b : Brake) :
    (raise k s).bl.brakes.brake b = (s.bl.brakes.brake b).applied b s.now := by
  rw [raise_emergency hk]
  exact emergencyDemand_brake _ _ b

/-- Settles O36: STOP_NOW raises OPERATOR_EMERGENCY, whose demand does the rest. -/
theorem stopNowTripsTheHaulInEveryState : Obligations.StopNowTripsTheHaulInEveryState := by
  rintro s q h rfl hp
  have cls : (⟨.operatorEmergency, 0⟩ : FaultKey).code.cls = .emergency := rfl
  refine ⟨raise ⟨.operatorEmergency, 0⟩ (s.asTaken h .stopNow), doneWith_of_own rfl rfl hp rfl,
    raise_emergency_tripped _ cls, ?drive, fun testing => ?test, raise_ft _ _, fun b => ?brakes⟩
  case drive =>
    rw [raise_emergency cls]
    exact (emergencyDemand_haul _ _).2
  case test =>
    rw [raise_emergency cls]
    exact emergencyDemand_test _ testing
  case brakes =>
    rw [raise_emergency_brakes cls]
    exact applied_state _ _ _

end Sys2Proof.Machine
end

section

namespace Sys2Proof.Machine

variable {s : State}

/-! ### TRIP_RESET (04 R79 to R81) -/

/-- The fault table without the slots that an accepted TRIP_RESET removes, the haul PARKED and the drive without
torque (04 R80). -/
def tripParked (exception : Bool) (s : State) : State :=
  command .noTorque (setHaul .parked (s.modFt (FaultTable.removed (removedByReset exception))))

/-- What an accepted TRIP_RESET leaves: in another mode than OFF the emergency brake is asked to release (04 R80). -/
def tripCleared (exception : Bool) (s : State) : State :=
  parkedCycle false (mark .brakes (mark .haul
    (if s.mau.mode = .off then tripParked exception s else releaseBrake .emergency (tripParked exception s))))

/-- TRIP_RESET is refused in a wrong state (04 R79). -/
theorem resetTrip_state (level : Nat) (wrong : s.hc.haul ≠ .tripped ∨ s.standstill = false ∨
    s.bl.brakes.fst.state ≠ .applied ∨ s.bl.brakes.snd.state ≠ .applied) :
    resetTrip level s = .error .state := by
  by_cases haul : s.hc.haul = .tripped
  · by_cases still : s.standstill = false
    · simp only [resetTrip, haul, still, not_true_eq_false, ne_eq, if_false, if_true]
    · have applied : ¬(s.bl.brakes.fst.state = .applied ∧ s.bl.brakes.snd.state = .applied) := by
        rintro ⟨fst, snd⟩
        rcases wrong with h | h | h | h <;> contradiction
      simp only [resetTrip, haul, applied, not_true_eq_false, not_false_eq_true, ne_eq, if_true, ite_self]
  · simp only [resetTrip, haul, not_false_eq_true, ne_eq, if_true]

/-- TRIP_RESET of a TRIPPED haul at a standstill with both brakes applied (04 R79, R80). -/
theorem resetTrip_tripped (level : Nat) (haul : s.hc.haul = .tripped) (still : s.standstill = true)
    (fst : s.bl.brakes.fst.state = .applied) (snd : s.bl.brakes.snd.state = .applied) :
    resetTrip level s =
      if s.ft.entries.any (blocksReset (decide (level = 0) && decide (s.mau.mode = .inspection))) = true
      then .error .blockedByFault
      else done (tripCleared (decide (level = 0) && decide (s.mau.mode = .inspection)) s) := by
  simp only [resetTrip, haul, still, fst, snd, and_self, not_true_eq_false, ne_eq, Bool.true_eq_false, if_false]
  rfl

/-- Every slot of class EMERGENCY that does not block the reset is removed by it (04 R79 to R81). -/
theorem removedByReset_of_not_blocks {exception : Bool} {e : FaultEntry} (own : e.cls = e.key.code.cls)
    (cls : e.cls = .emergency) (passes : blocksReset exception e = false) :
    removedByReset exception e.key e.record = true := by
  have code : e.key.code.cls = .emergency := own ▸ cls
  cases state : e.record.state
  · simpa [removedByReset, blocksReset, cls, code, state] using passes
  · simp [removedByReset, code, state]

/-- The class of an entry is that of its code (10 R171). -/
theorem entry_cls {t : FaultTable} {e : FaultEntry} (mem : e ∈ t.entries) : e.cls = e.key.code.cls := by
  obtain ⟨⟨k, slot⟩, -, entry⟩ := List.mem_filterMap.1 mem
  cases slot with
  | none => simp at entry
  | some r =>
    cases entry
    rfl

/-- No fault of class EMERGENCY is left where none blocks the reset (04 R80). -/
theorem tripParked_clear {exception : Bool} (passes : s.ft.entries.any (blocksReset exception) = false) :
    (tripParked exception s).ft.presentClass .emergency = false := by
  rw [Bool.eq_false_iff]
  intro present
  obtain ⟨e, mem, left, cls⟩ := (presentClass_removed_iff _ _ _).1 present
  have clear : blocksReset exception e = false := Bool.eq_false_iff.2 (List.any_eq_false.1 passes e mem)
  rw [removedByReset_of_not_blocks (entry_cls mem) cls clear] at left
  contradiction

theorem tripParked_bl (exception : Bool) : (tripParked exception s).bl = s.bl := rfl

@[simp] theorem tripCleared_ft (exception : Bool) :
    (tripCleared exception s).ft = (tripParked exception s).ft := by
  simp only [tripCleared, parkedCycle_ft, mark_ft]
  split <;> simp

@[simp] theorem tripCleared_lgp (exception : Bool) : (tripCleared exception s).lgp = s.lgp := by
  simp only [tripCleared, parkedCycle_lgp, mark_lgp]
  split <;> simp [tripParked]

theorem tripCleared_haul (exception : Bool) :
    (tripCleared exception s).hc.haul = .parked ∧ (tripCleared exception s).hc.drive = .noTorque := by
  have parked : (if s.mau.mode = .off then tripParked exception s
      else releaseBrake .emergency (tripParked exception s)).hc = (tripParked exception s).hc := by
    split <;> simp
  obtain ⟨y, cycle⟩ := parkedCycle_hc false (mark .brakes (mark .haul
    (if s.mau.mode = .off then tripParked exception s else releaseBrake .emergency (tripParked exception s))))
  rw [tripCleared, cycle, mark_hc, mark_hc, parked]
  exact ⟨rfl, rfl⟩

/-- The brake ladder after a TRIP_RESET in OFF (04 R80). -/
theorem tripCleared_off (exception : Bool) (off : s.mau.mode = .off) : (tripCleared exception s).bl = s.bl := by
  simp only [tripCleared, parkedCycle_bl, mark_bl, if_pos off, tripParked_bl]

/-- The brakes after a TRIP_RESET in another mode than OFF (04 R80, R65). -/
theorem tripCleared_brakes {exception : Bool} (passes : s.ft.entries.any (blocksReset exception) = false)
    (on : s.mau.mode ≠ .off) :
    (tripCleared exception s).bl.brakes = ⟨s.bl.brakes.fst, s.bl.brakes.snd.lifted .emergency s.now⟩ := by
  simp only [tripCleared, parkedCycle_bl, mark_bl, if_neg on, releaseBrake_emergency_clear (tripParked_clear passes)]
  rfl

theorem tripCleared_fst {exception : Bool} (passes : s.ft.entries.any (blocksReset exception) = false) :
    (tripCleared exception s).bl.brakes.fst = s.bl.brakes.fst := by
  by_cases mode : s.mau.mode = .off
  · rw [tripCleared_off _ mode]
  · rw [tripCleared_brakes passes mode]

/-- An APPLIED brake that is lifted is RELEASING and has its release proof interval to prove it (04 R65). -/
theorem lifted_of_applied (b : Brake) (now : Nat) {r : BrakeRec} (applied : r.state = .applied) :
    r.lifted b now = { r with state := .releasing, proofDue := some (now + b.releaseProof) } := by
  simp only [BrakeRec.lifted, applied]

theorem overtravelled_iff :
    s.overtravelled = true ↔ s.lgp.overtravel.fst ≠ none ∨ s.lgp.overtravel.snd ≠ none := by
  simp only [State.overtravelled, Bool.or_eq_true, Option.isSome_iff_ne_none]

/-- After a TRIP_RESET the haul is PARKED at the stop in which the cars are. -/
theorem tripCleared_parkedStop (exception : Bool) : (tripCleared exception s).parkedStop = s.stop := by
  rw [State.parkedStop, if_pos (tripCleared_haul exception).1, stop_congr (tripCleared_lgp exception)]

/-- Settles O37: the checks of TRIP_RESET in their order, and what an accepted one leaves. -/
theorem tripResetParksATrippedHaul : Obligations.TripResetParksATrippedHaul := by
  rintro s q h exception rfl hp rfl
  refine ⟨fun wrong => refusedWith_of_own rfl rfl hp (resetTrip_state _ wrong),
    fun haul still fst snd => ⟨fun blocked => ?_, fun passes => ?_⟩⟩
  · refine refusedWith_of_own rfl rfl hp ((resetTrip_tripped _ haul still fst snd).trans ?_)
    exact if_pos blocked
  · obtain ⟨parked, drive⟩ := tripCleared_haul (s := s.asTaken h .tripReset)
      (decide ((s.asTaken h .tripReset).effectiveLevel h = 0) &&
        decide ((s.asTaken h .tripReset).mau.mode = .inspection))
    refine ⟨_, doneWith_of_own rfl rfl hp ((resetTrip_tripped _ haul still fst snd).trans ?accepted), parked, drive,
      ?clear, tripCleared_fst passes, tripCleared_off _, fun beyond => ?beyond, fun within => ?within,
      fun on => ?lifted⟩
    case accepted => exact if_neg (Bool.eq_false_iff.1 passes)
    case clear =>
      rw [tripCleared_ft]
      exact tripParked_clear passes
    case beyond => rw [tripCleared_parkedStop, stop_overtravelled _ (overtravelled_iff.2 beyond)]
    case within =>
      rw [tripCleared_parkedStop, stop_within_range]
      rw [State.overtravelled, within]
      rfl
    case lifted =>
      rw [tripCleared_brakes passes on]
      exact lifted_of_applied _ _ snd

end Sys2Proof.Machine
end

section

namespace Sys2Proof.Machine

variable {s : State}

/-! ### The record of a brake (04 R65 to R67) -/

theorem setBrake_self {α : Type} (t : Two α) (b : Brake) : t.setBrake b (t.brake b) = t := by cases b <;> rfl

/-- A RELEASED or RELEASING brake that is asked to apply is APPLYING (04 R66). -/
theorem applied_of_lifted {r : BrakeRec} (b : Brake) (now : Nat) (h : r.state = .released ∨ r.state = .releasing) :
    (r.applied b now).state = .applying := by
  rcases h with h | h <;> simp only [BrakeRec.applied, h]

/-- An APPLYING brake that is asked to apply again stays as it is (04 R66). -/
theorem applied_of_applying {r : BrakeRec} (b : Brake) (now : Nat) (h : r.state = .applying) :
    r.applied b now = r := by
  simp only [BrakeRec.applied, h]

@[simp] theorem modBrake_brake (b : Brake) (f : BrakeRec → BrakeRec) :
    (modBrake b f s).bl.brakes.brake b = f (s.bl.brakes.brake b) := setBrake_brake _ _ _

/-! ### The proofs of a brake (04 R65 to R67) -/

/-- A proof after which the feedback agrees ends the condition of BRAKE_FEEDBACK (04 R67). -/
theorem proveBrake_agrees {b : Brake} {r : BrakeRec} (proof : (s.bl.brakes.brake b).proven = r)
    (agrees : r.agrees = true) : proveBrake b s = { s with
      bl := { s.bl with brakes := s.bl.brakes.setBrake b r }
      ft := s.ft.ended ⟨.brakeFeedback, b.index⟩ } := by
  simp only [proveBrake, modBrake_brake, proof, if_pos agrees]
  rw [← proof]
  rfl

/-- What shows nothing of a brake leaves it as it is. -/
theorem modBrake_same {b : Brake} {f : BrakeRec → BrakeRec} (same : f (s.bl.brakes.brake b) = s.bl.brakes.brake b) :
    modBrake b f s = s := by
  simp only [modBrake, State.modBl, same, setBrake_self]

/-- Feedback that agrees with the settled state of the brake ends the condition of BRAKE_FEEDBACK alone (04 R67). -/
theorem proveBrake_settled {b : Brake} (settled : (s.bl.brakes.brake b).proven = s.bl.brakes.brake b)
    (agrees : (s.bl.brakes.brake b).agrees = true) :
    proveBrake b s = { s with ft := s.ft.ended ⟨.brakeFeedback, b.index⟩ } := by
  rw [proveBrake_agrees settled agrees, setBrake_self]

/-- Feedback that neither proves a brake nor agrees with its state does nothing (04 R67). -/
theorem proveBrake_unproven {b : Brake} (settled : (s.bl.brakes.brake b).proven = s.bl.brakes.brake b)
    (disagrees : (s.bl.brakes.brake b).agrees = false) : proveBrake b s = s := by
  simp only [proveBrake, modBrake_same settled, disagrees, Bool.false_eq_true, if_false]

/-! ### Feedback (04 R67) -/

/-- A feedback input that changes is an event. -/
theorem happens_feedback {b : Brake} {x : FeedbackInput} {v : Bool} {t : State}
    (changed : (s.bl.brakes.brake b).withInput x v ≠ s.bl.brakes.brake b) (judged : feedback b x v s = t) :
    Happens (.brakeFeedbackChange b x v) s t := judged ▸ if_neg changed

@[simp] theorem withInput_state (x : FeedbackInput) (v : Bool) (r : BrakeRec) : (r.withInput x v).state = r.state := by
  cases x <;> rfl

/-- Feedback that ceases to agree with the state of the brake raises BRAKE_FEEDBACK, which trips the haul; a RELEASED
brake is asked to apply (04 R67). -/
theorem feedback_lost {b : Brake} {x : FeedbackInput} {v : Bool} (before : (s.bl.brakes.brake b).agrees = true)
    (after : ((s.bl.brakes.brake b).withInput x v).agrees = false) :
    (feedback b x v s).hc.haul = .tripped ∧
      (feedback b x v s).ft = s.ft.raised ⟨.brakeFeedback, b.index⟩ s.tt.clock ∧
      ((s.bl.brakes.brake b).state = .released → ((feedback b x v s).bl.brakes.brake b).state = .applying) := by
  have cls : (⟨.brakeFeedback, b.index⟩ : FaultKey).code.cls = .emergency := rfl
  simp only [feedback, before, after, Bool.not_false, Bool.and_self, if_true]
  refine ⟨raise_emergency_tripped _ cls, ?_, fun released => ?_⟩
  · rw [raise_ft]
    split <;> simp
  · rw [if_pos released, raise_emergency_brakes cls, applyBrake_brake, modBrake_brake]
    have applying := applied_of_lifted (r := (s.bl.brakes.brake b).withInput x v) b
      (modBrake b (BrakeRec.withInput x v) s).now (.inl (by simpa using released))
    rw [applied_of_applying _ _ applying]
    exact applying

/-- Any other change of feedback is noted alone (04 R67). -/
theorem feedback_noted {b : Brake} {x : FeedbackInput} {v : Bool} (kept : (s.bl.brakes.brake b).agrees = false ∨
    ((s.bl.brakes.brake b).withInput x v).agrees = true) :
    feedback b x v s = modBrake b (BrakeRec.withInput x v) s := by
  rcases kept with h | h <;> simp [feedback, h]

/-! ### Proof intervals that expire (04 R65, R66) -/

/-- The release proof interval of a brake expires: it is asked to apply and the haul is tripped (04 R65). -/
theorem releaseProofExpires_leaves {b : Brake} (releasing : (s.bl.brakes.brake b).state = .releasing) :
    (releaseProofExpires b s).hc.haul = .tripped ∧
      ((releaseProofExpires b s).bl.brakes.brake b).state = .applying ∧
      (releaseProofExpires b s).ft = s.ft.raised ⟨.brakeFeedback, b.index⟩ s.tt.clock := by
  have cls : (⟨.brakeFeedback, b.index⟩ : FaultKey).code.cls = .emergency := rfl
  refine ⟨raise_emergency_tripped _ cls, ?_, by simp [releaseProofExpires, raise_ft]⟩
  have applying := applied_of_lifted b s.now (.inr releasing)
  rw [releaseProofExpires, raise_emergency_brakes cls, applyBrake_brake, applied_of_applying _ _ applying]
  exact applying

/-- The apply proof interval of a brake expires: it stays APPLYING without a proof interval and the haul is tripped
(04 R66). -/
theorem applyProofExpires_leaves {b : Brake} (applying : (s.bl.brakes.brake b).state = .applying) :
    (applyProofExpires b s).hc.haul = .tripped ∧
      ((applyProofExpires b s).bl.brakes.brake b).state = .applying ∧
      ((applyProofExpires b s).bl.brakes.brake b).proofDue = none ∧
      (applyProofExpires b s).ft = s.ft.raised ⟨.brakeFeedback, b.index⟩ s.tt.clock := by
  have cls : (⟨.brakeFeedback, b.index⟩ : FaultKey).code.cls = .emergency := rfl
  have brake : (applyProofExpires b s).bl.brakes.brake b = { s.bl.brakes.brake b with proofDue := none } := by
    rw [applyProofExpires, raise_emergency_brakes cls, modBrake_brake]
    exact applied_of_applying _ _ applying
  refine ⟨raise_emergency_tripped _ cls, ?_, ?_, by simp [applyProofExpires, raise_ft]⟩
  · rw [brake, applying]
  · rw [brake]

/-- Passing time leaves the brakes where no trip ceiling supervises (04 R70). -/
theorem passUntil_brakes (u : Nat) (notRunning : s.hc.haul ≠ .running) (notApproach : s.hc.haul ≠ .approach) :
    (passUntil u s).bl.brakes = s.bl.brakes := by
  obtain ⟨-, -, -, bl, -⟩ := passTime_frame s (u - s.now) (underTripCeiling_false notRunning notApproach)
  rw [passUntil, bl]

/-! ### The drive report (04 R68, R75) -/

/-- The drive is not READY. -/
def State.driveLost (s : State) : State := { s with bl := { s.bl with driveReady := false } }

/-- A report of the drive that changes is an event. -/
theorem happens_driveReport {v : Bool} {t : State} (changed : s.bl.driveReady ≠ v) (judged : driveReport v s = t) :
    Happens (.driveReportChange v) s t := judged ▸ if_neg changed

theorem driveReport_ready (lost : s.bl.driveReady = false) :
    driveReport true s = { s with bl := { s.bl with driveReady := true } } := by
  simp only [driveReport, lost, Bool.false_eq_true, if_false, if_true]
  rfl

/-- A drive that ceases to be READY is judged by the haul state (04 R75). -/
theorem happens_driveFault {t : State} (ready : s.bl.driveReady = true) (judged : driveFault s.driveLost = t) :
    Happens (.driveReportChange false) s t := by
  refine happens_driveReport (by simp [ready]) (Eq.trans ?_ judged)
  simp only [driveReport, ready, Bool.true_eq_false, Bool.false_eq_true, if_false]
  rfl

/-- Stage 2 of a stop (04 R75): HOLD gives way to the fault as its cause (04 R73). -/
theorem moveStage2_eq {r : StopRec} (haul : s.hc.haul = .stopping) (stop : s.bl.stop = some r) :
    moveStage2 s = { s with
      hc := { s.hc with drive := .noTorque }
      bl := { s.bl with
        brakes := ⟨s.bl.brakes.fst.applied .holding s.now, s.bl.brakes.snd⟩
        stop := some { r with stage := 2, cause := if r.cause = .hold then .fault .brakeEscalated else r.cause } }
      ft := s.ft.raised ⟨.brakeEscalated, 0⟩ s.tt.clock } := by
  rw [moveStage2, raise_service_again rfl (by simp [command, haul])]
  simp only [stopCauseFault, applyBrake, modBrake, command, State.modBl, State.modHc, State.modFt, stop,
    Option.map_some]
  by_cases hold : r.cause = .hold
  · simp only [hold, if_true]
    rfl
  · simp only [hold, if_false]
    rfl

/-- The drive fails where nothing moves: it is noted alone (04 R75). -/
theorem driveFault_standing (haul : s.hc.haul = .parked ∨ s.hc.haul = .tripped) : driveFault s = s := by
  rcases haul with haul | haul <;> simp only [driveFault, haul]

/-- The drive fails in RUNNING or APPROACH: the stop begins at stage 2 (04 R75). -/
theorem driveFault_moving (haul : s.hc.haul = .running ∨ s.hc.haul = .approach) :
    driveFault s = moveStage2 (enterStopping 2 (.fault .brakeEscalated) s) := by
  rcases haul with haul | haul <;> simp only [driveFault, haul]

/-- The drive fails in a stop: one at stage 1 moves to stage 2 (04 R75). -/
theorem driveFault_stopping {r : StopRec} (haul : s.hc.haul = .stopping) (stop : s.bl.stop = some r) :
    driveFault s = if r.stage = 1 then moveStage2 s else s := by
  simp only [driveFault, haul, stop]

/-- A fault of class SERVICE abandons a departure (10 R171). -/
theorem raise_service_departing {k : FaultKey} (hk : k.code.cls = .service)
    (haul : s.hc.haul = .warning ∨ s.hc.haul = .releasing) :
    raise k s = abandonDeparture (.fault k.code) (s.modFt (FaultTable.raised k s.tt.clock)) := by
  have demanded : serviceDemand k.code (s.modFt (FaultTable.raised k s.tt.clock)) =
      s.modFt (FaultTable.raised k s.tt.clock) := by
    rcases haul with haul | haul <;> simp [serviceDemand, haul]
  simp only [raise, handOn, hk, demanded]

/-- The drive fails in a departure (04 R75). -/
theorem driveFault_departing (haul : s.hc.haul = .warning ∨ s.hc.haul = .releasing) : driveFault s =
    abandonDeparture (.fault .brakeEscalated) (s.modFt (FaultTable.raised ⟨.brakeEscalated, 0⟩ s.tt.clock)) := by
  have raised := raise_service_departing (k := ⟨.brakeEscalated, 0⟩) rfl haul
  rcases haul with haul | haul <;> simp only [driveFault, haul, raised]

/-- An aborted test: the drive without torque and the restoring of the other brake (05 R90). -/
theorem abortTest_eq {x : Test} (test : s.bpu.test = some x) (phase : x.phase ≠ .restoring) :
    abortTest s = applyBrake x.brake.other ((command .noTorque s).modBpu fun b => { b with
      test := some { x with phase := .restoring }, pulseDue := none }) := by
  simp only [abortTest, test, if_neg phase]

/-- A test that is RESTORING already is not aborted (05 R90). -/
theorem abortTest_restoring {x : Test} (test : s.bpu.test = some x) (phase : x.phase = .restoring) :
    abortTest s = s := by
  simp only [abortTest, test, if_pos phase]

/-- The drive fails in a brake test: the test is aborted (05 R90). -/
theorem driveFault_testing (haul : s.hc.haul = .brakeTest) : driveFault s = abortTest s := by
  simp only [driveFault, haul]

end Sys2Proof.Machine
end

section

namespace Sys2Proof.Machine

/-- Settles O50: feedback and proofs by the record of the brake, and a drive that fails by the haul state. -/
theorem brakeFeedbackAndDriveReportsAreActedOn : Obligations.BrakeFeedbackAndDriveReportsAreActedOn := by
  intro s
  refine ⟨?feedback, ?proof, ?releaseProof, ?applyProof, passUntil_brakes, fun v same => if_pos same,
    fun lost => happens_driveReport (by simp [lost]) (driveReport_ready lost),
    fun ready => ⟨fun standing => happens_driveFault ready (driveFault_standing standing), fun moving => ?moving,
      fun r stopping stop => ?stopping, fun x testing test => ?testing, fun departing => ?departing⟩⟩
  case feedback =>
    intro b x v r r' hr changed
    subst hr
    obtain rfl : r' = (s.bl.brakes.brake b).withInput x v := changed.trans (by cases x <;> rfl)
    refine ⟨fun same => if_pos same, fun differs before after => ?_, fun differs kept =>
      happens_feedback differs (feedback_noted kept)⟩
    obtain ⟨haul, ft, brake⟩ := feedback_lost before after
    exact ⟨_, happens_feedback differs rfl, haul, ft, brake⟩
  case proof =>
    rintro b r rfl
    have shows : ∀ {p q : Bool}, p = false ∨ q = true → (p && !q) = false := by
      rintro p q (rfl | rfl) <;> simp
    refine ⟨fun state inputs other => ?_, fun state inputs other => ?_, fun state inputs other => ?_,
      fun state inputs other => ?_, fun state inputs => ?_, fun state inputs => ?_, fun state inputs => ?_,
      fun state inputs => ?_⟩
    · refine proveBrake_agrees ?_ ?_
      · simp [BrakeRec.proven, state, BrakeRec.showsReleased, inputs, other]
      · simp [BrakeRec.agrees, inputs, other]
    · refine proveBrake_agrees ?_ ?_
      · simp [BrakeRec.proven, state, BrakeRec.showsApplied, inputs, other]
      · simp [BrakeRec.agrees, inputs, other]
    · exact proveBrake_settled (by simp [BrakeRec.proven, state]) (by simp [BrakeRec.agrees, state, inputs, other])
    · exact proveBrake_settled (by simp [BrakeRec.proven, state]) (by simp [BrakeRec.agrees, state, inputs, other])
    · exact proveBrake_unproven (by simp [BrakeRec.proven, state]) (by simp [BrakeRec.agrees, state, shows inputs])
    · exact proveBrake_unproven (by simp [BrakeRec.proven, state]) (by simp [BrakeRec.agrees, state, shows inputs])
    · exact proveBrake_unproven (by simp [BrakeRec.proven, state, BrakeRec.showsReleased, shows inputs])
        (by simp [BrakeRec.agrees, state])
    · exact proveBrake_unproven (by simp [BrakeRec.proven, state, BrakeRec.showsApplied, shows inputs])
        (by simp [BrakeRec.agrees, state])
  case releaseProof =>
    intro b u releasing running kept
    have due : s.brakeDue b .releasing = some u := (if_pos releasing).trans running
    obtain ⟨haul, brake, ft⟩ := releaseProofExpires_leaves (s := passUntil u s) (b := b) (by rw [kept, releasing])
    refine ⟨_, happens_expire rfl due, ?_, haul, brake, ft⟩
    rw [outer_now (releaseProofExpires_outer _ b), passUntil_now]
  case applyProof =>
    intro b u applying running kept
    have due : s.brakeDue b .applying = some u := (if_pos applying).trans running
    obtain ⟨haul, brake, proof, ft⟩ :=
      applyProofExpires_leaves (s := passUntil u s) (b := b) (by rw [kept, applying])
    refine ⟨_, happens_expire rfl due, ?_, haul, brake, proof, ft⟩
    rw [outer_now (applyProofExpires_outer _ b), passUntil_now]
  case moving =>
    obtain ⟨fst, fst'⟩ := applied_state .holding s.now s.bl.brakes.fst
    have judged := driveFault_moving (s := s.driveLost) moving
    exact ⟨_, _, happens_driveFault ready (judged.trans (moveStage2_eq rfl rfl)),
      rfl, rfl, rfl, rfl, rfl, fst, fst', rfl⟩
  case stopping =>
    have judged := driveFault_stopping (s := s.driveLost) stopping stop
    have second := moveStage2_eq (s := s.driveLost) stopping stop
    refine ⟨fun first => ?_, fun later => happens_driveFault ready (judged.trans (if_neg later))⟩
    obtain ⟨fst, fst'⟩ := applied_state .holding s.now s.bl.brakes.fst
    exact ⟨_, happens_driveFault ready ((judged.trans (if_pos first)).trans second),
      stopping, rfl, rfl, fst, fst', rfl, rfl⟩
  case testing =>
    have judged := driveFault_testing (s := s.driveLost) testing
    refine ⟨fun phase => ?_, fun phase => happens_driveFault ready (judged.trans (abortTest_restoring test phase))⟩
    refine ⟨_, happens_driveFault ready (judged.trans (abortTest_eq test phase)), rfl, rfl, rfl, rfl, testing, ?_, ?_,
      rfl⟩ <;> rw [applyBrake_brake]
    · exact (applied_state _ _ _).1
    · exact (applied_state _ _ _).2
  case departing =>
    obtain ⟨parked, state, cause, -⟩ := abandonDeparture_leaves (.fault .brakeEscalated)
      (s := s.driveLost.modFt (FaultTable.raised ⟨.brakeEscalated, 0⟩ s.driveLost.tt.clock)) departing
    exact ⟨_, happens_driveFault ready (driveFault_departing departing), parked, state, cause⟩

end Sys2Proof.Machine
end

section

namespace Sys2Proof.Machine

variable {s : State}

/-! ### BRAKE_TEST (05 R85 to R87) -/

/-- A change of the other brake's record leaves the record of the brake under test. -/
@[simp] theorem modBrake_other_brake (b : Brake) (f : BrakeRec → BrakeRec) :
    (modBrake b.other f s).bl.brakes.brake b = s.bl.brakes.brake b := by cases b <;> rfl

/-- A release request is carried out while no fault of class EMERGENCY is present (04 R65). -/
theorem releaseBrake_clear (b : Brake) (clear : s.ft.presentClass .emergency = false) :
    releaseBrake b s = modBrake b (BrakeRec.lifted b s.now) s := by
  cases b with
  | holding => exact releaseBrake_holding
  | emergency => exact releaseBrake_emergency_clear clear

/-- The catalogue numbers a brake by its index as a fault subject. -/
theorem brake?_index (b : Brake) : brake? b.index = some b := by cases b <;> rfl

/-- No brake has a number above 1. -/
theorem brake?_none {n : Nat} (high : 1 < n) : brake? n = none := by
  match n with
  | n + 2 => rfl

/-- The catalogue numbers the directions UP and DOWN. -/
theorem dir?_number (d : Dir) : dir? (if d = .up then 0 else 1) = some d := by cases d <;> rfl

/-- No direction has a number above 1. -/
theorem dir?_none {n : Nat} (high : 1 < n) : dir? n = none := by
  match n with
  | n + 2 => rfl

/-- When the range checks of a test refuse it (05 R85). -/
theorem testRanges_fail_iff {torque duration : Nat} :
    within 10 150 torque = false ∨ within 1000 10000 duration = false ↔
      torque < 10 ∨ 150 < torque ∨ duration < 1000 ∨ 10000 < duration := by
  simp only [within, Bool.and_eq_false_iff, decide_eq_false_iff_not, Nat.not_le, or_assoc]

/-- BRAKE_TEST out of range is refused before its other checks (05 R85). -/
theorem testBrake_bounds {n m torque duration : Nat} (out : 1 < n ∨ 1 < m ∨ torque < 10 ∨ 150 < torque ∨
    duration < 1000 ∨ 10000 < duration) : testBrake n m torque duration s = .error .bounds := by
  by_cases brake : 1 < n
  · simp only [testBrake, brake?_none brake]
  by_cases dir : 1 < m
  · simp only [testBrake, dir?_none dir]
    cases brake? n <;> rfl
  simp only [testBrake, if_pos (testRanges_fail_iff.2 ((out.resolve_left brake).resolve_left dir))]
  split <;> rfl

/-- The checks of a test of brake b in their order (05 R85). -/
def State.testChecks (s : State) (b : Brake) : List (Bool × RefusalCode) :=
  [(decide (s.hc.haul = .parked) && s.standstill && s.bl.driveReady, .state), (s.windowStop.isSome, .offStop),
    (s.allLocked, .state),
    (!s.ft.presentClass .emergency && !s.ft.presentClass .service, .blockedByFault), (s.brakesReady b, .state)]

/-- BRAKE_TEST in range is refused by the first of its checks that fails (05 R85). -/
theorem refusalOf_testBrake {torque duration : Nat} (b : Brake) (d : Dir) (low : 10 ≤ torque) (high : torque ≤ 150)
    (short : 1000 ≤ duration) (long : duration ≤ 10000) :
    refusalOf (testBrake b.index (if d = .up then 0 else 1) torque duration s) = firstRefusal (s.testChecks b) := by
  have inside := mt (testRanges_fail_iff (torque := torque) (duration := duration)).1 (by omega)
  simp only [testBrake, brake?_index, dir?_number, if_neg inside]
  exact refusalOf_check (by simp [and_assoc]) (refusalOf_check (by simp) (refusalOf_check (by simp)
    (refusalOf_check (by simp only [Bool.or_eq_true, Bool.and_eq_true, Bool.not_eq_true', not_and_or,
      Bool.not_eq_false]) (refusalOf_check (by simp) rfl))))

/-- BRAKE_TEST in range starts the test when its checks pass (05 R85, R86). -/
theorem testBrake_ok {torque duration : Nat} {b : Brake} (d : Dir) (low : 10 ≤ torque) (high : torque ≤ 150)
    (short : 1000 ≤ duration) (long : duration ≤ 10000) (parked : s.hc.haul = .parked) (still : s.standstill = true)
    (ready : s.bl.driveReady = true) (atStop : s.windowStop.isSome = true) (locked : s.allLocked = true)
    (emergency : s.ft.presentClass .emergency = false) (service : s.ft.presentClass .service = false)
    (brakes : s.brakesReady b = true) :
    testBrake b.index (if d = .up then 0 else 1) torque duration s = done (startTest b d torque duration s) := by
  have inside := mt (testRanges_fail_iff (torque := torque) (duration := duration)).1 (by omega)
  have stopped : s.windowStop ≠ none := Option.isSome_iff_ne_none.1 atStop
  simp only [testBrake, brake?_index, dir?_number, if_neg inside, parked, still, ready, and_self, not_true_eq_false,
    if_false, if_neg stopped, locked, emergency, service, brakes, Bool.or_self, Bool.true_eq_false,
    Bool.false_eq_true]

/-- The brakes are ready for a test of an APPLIED brake whose other is APPLIED or RELEASED (05 R85). -/
theorem brakesReady_iff {b : Brake} : s.brakesReady b = true ↔ (s.bl.brakes.brake b).state = .applied ∧
    ((s.bl.brakes.brake b.other).state = .applied ∨ (s.bl.brakes.brake b.other).state = .released) := by
  simp only [State.brakesReady, Bool.and_eq_true, Bool.or_eq_true, decide_eq_true_eq]

/-- A test whose other brake is RELEASED begins with its pulse (05 R87). -/
theorem startTest_released {b : Brake} (d : Dir) (torque duration : Nat)
    (lifted : (s.bl.brakes.brake b.other).state = .released) :
    (startTest b d torque duration s).hc.haul = .brakeTest ∧
    (startTest b d torque duration s).hc.drive = .test d torque ∧ (startTest b d torque duration s).bl = s.bl ∧
    (startTest b d torque duration s).bpu = { s.bpu with
      pulseDue := some (s.now + duration * 1000),
      test := some { brake := b, dir := d, torque := torque, duration := duration,
                     phase := .pulse, start := some s.lgp.p, slip := some 0 } } := by
  rw [startTest, if_pos lifted]
  exact ⟨rfl, rfl, by simp [setHaul], rfl⟩

/-- A test whose other brake is APPLIED asks it to release first (05 R86). -/
theorem startTest_applied {b : Brake} (d : Dir) (torque duration : Nat)
    (closed : (s.bl.brakes.brake b.other).state = .applied) (clear : s.ft.presentClass .emergency = false) :
    (startTest b d torque duration s).hc.haul = .brakeTest ∧
    (startTest b d torque duration s).hc.drive = .noTorque ∧
    ((startTest b d torque duration s).bl.brakes.brake b.other).state = .releasing ∧
    (startTest b d torque duration s).bl.brakes.brake b = s.bl.brakes.brake b ∧
    (startTest b d torque duration s).bpu = { s.bpu with
      pulseDue := none,
      test := some { brake := b, dir := d, torque := torque, duration := duration,
                     phase := .lifting, start := none, slip := none } } := by
  rw [startTest, if_neg (by simp [closed]), releaseBrake_clear b.other (by simpa using clear)]
  refine ⟨rfl, rfl, ?_, modBrake_other_brake _ _, rfl⟩
  rw [modBrake_brake, lifted_of_applied b.other _ (by simpa [setHaul] using closed)]

end Sys2Proof.Machine
end

section

namespace Sys2Proof.Machine

/-- Settles O43: the ranges, the checks in their order, and the start of the test by the state of the other
brake. -/
theorem brakeTestLiftsTheOtherBrakeAndBegins : Obligations.BrakeTestLiftsTheOtherBrakeAndBegins := by
  rintro s q h n m torque duration rfl hp
  refine ⟨fun out => refusedWith_of_own rfl rfl hp (testBrake_bounds out), ?_⟩
  rintro b d rfl rfl low high short long
  refine ⟨fun c refused => refusedWith_of_own rfl rfl hp (refusalOf_eq_some.1
    ((refusalOf_testBrake b d low high short long).trans refused)), ?_⟩
  intro parked still ready atStop locked emergency service tested
  have accepted := fun other => testBrake_ok d low high short long parked still ready atStop locked emergency service
    (brakesReady_iff.2 ⟨tested, other⟩)
  refine ⟨fun closed => ⟨_, doneWith_of_own rfl rfl hp (accepted (.inl closed)), ?_⟩,
    fun lifted => ⟨_, doneWith_of_own rfl rfl hp (accepted (.inr lifted)), ?_⟩⟩
  · exact startTest_applied d torque duration closed emergency
  · exact startTest_released d torque duration lifted

end Sys2Proof.Machine
end

section

namespace Sys2Proof.Machine

/-! ### Cars and their pairs (06 section 6.2) -/

/-- The catalogue numbers the cars 0 and 1. -/
theorem carOf?_index (c : Car) : carOf? c.index = some c := by cases c <;> rfl

/-- No car has a number above 1. -/
theorem carOf?_none {n : Nat} (high : 1 < n) : carOf? n = none := by
  match n with
  | n + 2 => rfl

/-- The cars have different numbers. -/
theorem index_inj {c c' : Car} : c.index = c'.index ↔ c = c' := by cases c <;> cases c' <;> simp [Car.index]

/-- A car door set stands below the platform door sets. -/
theorem index_lt (c : Car) : c.index < 2 := by cases c <;> decide

section

variable {s t : State} {c : Car} {k i : Nat}

/-- The sets of a pair are the car door set and a platform door set. -/
theorem mem_pairSets : i ∈ s.pairSets c k ↔ i = c.index ∨ i = s.stationOf c k + 2 := by
  simp [State.pairSets]

/-- The car door set is one of its pair. -/
theorem index_mem_pairSets : c.index ∈ s.pairSets c k := mem_pairSets.2 (.inl rfl)

/-- A pair holds each of its sets once. -/
theorem pairSets_nodup (s : State) (c : Car) (k : Nat) : (s.pairSets c k).Nodup := by
  have := index_lt c
  simp only [State.pairSets, List.nodup_cons, List.mem_singleton, List.not_mem_nil, not_false_eq_true,
    List.nodup_nil, and_true]
  omega

/-- The car door set of another car is none of a pair. -/
theorem eq_of_index_mem {c' : Car} (h : c'.index ∈ s.pairSets c k) : c' = c := by
  have := index_lt c'
  rcases mem_pairSets.1 h with h | h
  · exact index_inj.1 h
  · omega

/-- The pairs of two cars at different stations share no set. -/
theorem pairSets_apart {c' : Car} {k' : Nat} (other : c' ≠ c) (apart : s.stationOf c' k' ≠ s.stationOf c k)
    (h : i ∈ s.pairSets c k) : i ∉ s.pairSets c' k' := by
  intro h'
  have := index_lt c
  have := index_lt c'
  rcases mem_pairSets.1 h with rfl | rfl
  · exact other (eq_of_index_mem h').symm
  · rcases mem_pairSets.1 h' with h' | h' <;> omega

/-- The line record alone says where a car stands at a stop. -/
theorem stationOf_congr (lgp : t.lgp = s.lgp) (c : Car) (k : Nat) : t.stationOf c k = s.stationOf c k := by
  have := stations_congr (congrArg Lgp.line lgp)
  cases c <;> simp [State.stationOf, this]

/-- The line record alone says which sets a pair has. -/
theorem pairSets_congr (lgp : t.lgp = s.lgp) (c : Car) (k : Nat) : t.pairSets c k = s.pairSets c k := by
  simp [State.pairSets, stationOf_congr lgp]

/-- The inputs of a set are read of the inputs of the door control alone. -/
theorem doorIn_congr (inputs : t.dc.inputs = s.dc.inputs) (i : Nat) : t.doorIn i = s.doorIn i := by
  simp [State.doorIn, inputs]

/-- The state of a set whose record is known. -/
theorem doorState_of {d : DoorSet} (h : s.dc.sets[i]? = some d) : s.doorState? i = some d.state := by
  simp [State.doorState?, h]

/-- A set with a state has a record. -/
theorem set_of_doorState {x : DoorState} (h : s.doorState? i = some x) : ∃ d, s.dc.sets[i]? = some d ∧ d.state = x := by
  simpa [State.doorState?] using h

/-- The sets of a list in one of the states that p accepts. -/
theorem mem_setsIn {p : DoorState → Bool} {l : List Nat} :
    i ∈ s.setsIn p l ↔ i ∈ l ∧ ∃ x, s.doorState? i = some x ∧ p x = true := by
  rw [State.setsIn, List.mem_filter]
  cases s.doorState? i <;> simp

end

end Sys2Proof.Machine
end

section

namespace Sys2Proof.Machine

/-! ### What the door operations do to the records of DC -/

/-- A place changed twice. -/
theorem updateAt_updateAt {α : Type} (f g : α → α) : ∀ (l : List α) (i : Nat),
    updateAt i g (updateAt i f l) = updateAt i (fun x => g (f x)) l
  | [], _ => by simp [updateAt]
  | _ :: _, 0 => rfl
  | x :: xs, i + 1 => congrArg (x :: ·) (updateAt_updateAt f g xs i)

/-- A place that its change leaves as it is. -/
theorem updateAt_id {α : Type} {f : α → α} : ∀ {l : List α} {i : Nat}, (∀ x, l[i]? = some x → f x = x) →
    updateAt i f l = l
  | [], _, _ => by simp [updateAt]
  | x :: _, 0, h => congrArg (· :: _) (h x rfl)
  | x :: _, _ + 1, h => congrArg (x :: ·) (updateAt_id fun y hy => h y hy)

variable (s : State) (i : Nat)

@[simp] theorem modDoor_sets (f : DoorSet → DoorSet) : (modDoor i f s).dc.sets = updateAt i f s.dc.sets := rfl
@[simp] theorem modDoor_pairs (f : DoorSet → DoorSet) : (modDoor i f s).dc.pairs = s.dc.pairs := rfl
@[simp] theorem modDoor_inputs (f : DoorSet → DoorSet) : (modDoor i f s).dc.inputs = s.dc.inputs := rfl
@[simp] theorem modDoor_dwell (f : DoorSet → DoorSet) : (modDoor i f s).dc.dwell = s.dc.dwell := rfl

/-- A command enters the record of its set, and may count a message. -/
theorem commandDoor_dc (x : DoorCommand) : ∃ n, (commandDoor i x s).dc = { s.dc with
    sets := updateAt i (fun d => { d with command := x }) s.dc.sets, doorMessages := n } := by
  simp only [commandDoor]
  split
  · exact ⟨_, rfl⟩
  · split <;> exact ⟨_, rfl⟩

@[simp] theorem commandDoor_sets (x : DoorCommand) :
    (commandDoor i x s).dc.sets = updateAt i (fun d => { d with command := x }) s.dc.sets := by
  obtain ⟨n, h⟩ := commandDoor_dc s i x
  rw [h]
@[simp] theorem commandDoor_pairs (x : DoorCommand) : (commandDoor i x s).dc.pairs = s.dc.pairs := by
  obtain ⟨n, h⟩ := commandDoor_dc s i x
  rw [h]
@[simp] theorem commandDoor_inputs (x : DoorCommand) : (commandDoor i x s).dc.inputs = s.dc.inputs := by
  obtain ⟨n, h⟩ := commandDoor_dc s i x
  rw [h]
@[simp] theorem commandDoor_dwell (x : DoorCommand) : (commandDoor i x s).dc.dwell = s.dc.dwell := by
  obtain ⟨n, h⟩ := commandDoor_dc s i x
  rw [h]

@[simp] theorem modReleased_sets (c : Car) (f : Released → Released) : (modReleased c f s).dc.sets = s.dc.sets := by
  rw [modReleased_dc]
  rfl
@[simp] theorem modReleased_inputs (c : Car) (f : Released → Released) :
    (modReleased c f s).dc.inputs = s.dc.inputs := by
  rw [modReleased_dc]
  rfl
@[simp] theorem modReleased_dwell (c : Car) (f : Released → Released) :
    (modReleased c f s).dc.dwell = s.dc.dwell := by
  rw [modReleased_dc]
  rfl
/-- A change of the released record of a pair changes it and no other. -/
@[simp] theorem modReleased_released (c : Car) (f : Released → Released) :
    ((modReleased c f s).dc.pairs.car c).released = (s.dc.pairs.car c).released.map f := by
  rw [modReleased_dc]
  simp [modPair]
/-- The other pair after a change of a released record. -/
theorem modReleased_other {c c' : Car} (f : Released → Released) (other : c' ≠ c) :
    (modReleased c f s).dc.pairs.car c' = s.dc.pairs.car c' := by
  rw [modReleased_dc]
  simp [modPair, setCar_other _ _ other]

@[simp] theorem modDoorIn_sets (f : DoorInputs → DoorInputs) : (modDoorIn i f s).dc.sets = s.dc.sets := rfl
@[simp] theorem modDoorIn_pairs (f : DoorInputs → DoorInputs) : (modDoorIn i f s).dc.pairs = s.dc.pairs := rfl
@[simp] theorem modDoorIn_dwell (f : DoorInputs → DoorInputs) : (modDoorIn i f s).dc.dwell = s.dc.dwell := rfl
@[simp] theorem modDoorIn_inputs (f : DoorInputs → DoorInputs) :
    (modDoorIn i f s).dc.inputs = updateAt i f s.dc.inputs := rfl

end Sys2Proof.Machine
end

section

namespace Sys2Proof.Machine

/-! ### Operations that move door sets alone -/

/-- From s to t the time, the line and the door control stand, but for door sets and messages. -/
structure DoorsStand (s t : State) : Prop where
  now : t.now = s.now
  tt : t.tt = s.tt
  lgp : t.lgp = s.lgp
  inputs : t.dc.inputs = s.dc.inputs
  pairs : t.dc.pairs = s.dc.pairs
  dwell : t.dc.dwell = s.dc.dwell

/-- From s to t the door sets of l have changed by g, and beside them what the rules of the doors read stands. -/
structure DoorsMove (l : List Nat) (g : Nat → DoorSet → DoorSet) (s t : State) : Prop extends DoorsStand s t where
  sets : ∀ i, t.dc.sets[i]? = if i ∈ l then (s.dc.sets[i]?).map (g i) else s.dc.sets[i]?

section

variable {s t u : State} {l : List Nat} {g : Nat → DoorSet → DoorSet} {i : Nat}

theorem DoorsStand.refl (s : State) : DoorsStand s s := ⟨rfl, rfl, rfl, rfl, rfl, rfl⟩

theorem DoorsStand.trans (h : DoorsStand s t) (h' : DoorsStand t u) : DoorsStand s u :=
  ⟨h'.now.trans h.now, h'.tt.trans h.tt, h'.lgp.trans h.lgp, h'.inputs.trans h.inputs, h'.pairs.trans h.pairs,
    h'.dwell.trans h.dwell⟩

theorem DoorsStand.doorIn (h : DoorsStand s t) (i : Nat) : t.doorIn i = s.doorIn i := doorIn_congr h.inputs i

theorem DoorsStand.pairSets (h : DoorsStand s t) (c : Car) (k : Nat) : t.pairSets c k = s.pairSets c k :=
  pairSets_congr h.lgp c k

/-- A set of the list after a move. -/
theorem DoorsMove.inside (h : DoorsMove l g s t) {d : DoorSet} (mem : i ∈ l) (found : s.dc.sets[i]? = some d) :
    t.dc.sets[i]? = some (g i d) := by
  rw [h.sets, if_pos mem, found]
  rfl

/-- A set outside the list after a move. -/
theorem DoorsMove.outside (h : DoorsMove l g s t) (out : i ∉ l) : t.dc.sets[i]? = s.dc.sets[i]? := by
  rw [h.sets, if_neg out]

/-- The state of a set outside the list after a move. -/
theorem DoorsMove.state_outside (h : DoorsMove l g s t) (out : i ∉ l) : t.doorState? i = s.doorState? i := by
  rw [State.doorState?, h.outside out, State.doorState?]

/-- One set changed moves it alone. -/
theorem doorsMove_of_updateAt (h : DoorsStand s t) (sets : t.dc.sets = updateAt i (g i) s.dc.sets) :
    DoorsMove [i] g s t :=
  { h with
    sets := fun j => by
      simp only [sets, getElem?_updateAt, List.mem_singleton]
      split_ifs with same
      · rw [same]
      · rfl }

/-- Moves of single sets, one after the other. -/
theorem forEach_moves_from {f : Nat → State → State} (step : ∀ i t, DoorsStand s t → DoorsMove [i] g t (f i t)) :
    ∀ (l : List Nat) (t : State), l.Nodup → DoorsStand s t → DoorsMove l g t (forEach f l t)
  | [], t, _, _ => { DoorsStand.refl t with sets := fun i => by simp [forEach] }
  | i :: is, t, nodup, stand => by
    obtain ⟨notMem, nodup⟩ := List.nodup_cons.1 nodup
    have first := step i t stand
    have rest := forEach_moves_from step is (f i t) nodup (stand.trans first.toDoorsStand)
    refine { first.toDoorsStand.trans rest.toDoorsStand with sets := fun j => ?_ }
    rw [forEach, rest.sets, first.sets]
    by_cases same : j = i
    · simp [same, notMem]
    · simp [same]

/-- Moves of single sets, one after the other, move the sets of a list without repeats. -/
theorem forEach_moves {f : Nat → State → State} (step : ∀ i t, DoorsStand s t → DoorsMove [i] g t (f i t))
    (nodup : l.Nodup) : DoorsMove l g s (forEach f l s) :=
  forEach_moves_from step l s nodup (.refl s)

end

/-- A set sent to CLOSING (06 R103). -/
def DoorSet.sentClosing (now clock : Nat) (d : DoorSet) : DoorSet :=
  { d with state := .closing, command := .close, proof := some { start := clock, due := now + 6000000 } }

/-- A set sent to OPENING, which is OPEN at once when it is fully open (06 R99). -/
def DoorSet.sentOpening (opened : Bool) (now clock : Nat) (d : DoorSet) : DoorSet :=
  if opened then { d with state := .open, command := .open, proof := none, lastProof := some clock }
  else { d with state := .opening, command := .open, proof := some { start := clock, due := now + 4000000 } }

/-- A set whose obstruction is counted (06 R105). -/
def DoorSet.obstructed (d : DoorSet) : DoorSet := { d with reopen := min 3 (d.reopen + 1) }

variable (s : State) (i : Nat)

theorem modDoor_stands (f : DoorSet → DoorSet) : DoorsStand s (modDoor i f s) := ⟨rfl, rfl, rfl, rfl, rfl, rfl⟩

/-- A change of one record moves its set. -/
theorem modDoor_moves (f : DoorSet → DoorSet) : DoorsMove [i] (fun _ => f) s (modDoor i f s) :=
  doorsMove_of_updateAt (modDoor_stands s i f) rfl

theorem startClosing_stands : DoorsStand s (startClosing i s) :=
  ⟨outer_now (startClosing_outer s i), startClosing_tt s i, startClosing_lgp s i, by simp [startClosing],
    by simp [startClosing], by simp [startClosing]⟩

theorem startClosing_moves :
    DoorsMove [i] (fun _ => DoorSet.sentClosing s.now s.tt.clock) s (startClosing i s) :=
  doorsMove_of_updateAt (startClosing_stands s i) (by
    simp only [startClosing, mark_dc, commandDoor_sets, modDoor_sets, updateAt_updateAt]
    rfl)

/-- Sets sent to CLOSING one after the other. -/
theorem startClosing_all {l : List Nat} (nodup : l.Nodup) :
    DoorsMove l (fun _ => DoorSet.sentClosing s.now s.tt.clock) s (forEach startClosing l s) :=
  forEach_moves (fun i t h => by rw [← h.now, ← h.tt]; exact startClosing_moves t i) nodup

@[simp] theorem enterOpen_sets (proven : Bool) : (enterOpen i proven s).dc.sets = updateAt i (fun d => { d with
    state := .open, proof := none, lastProof := if proven then some s.tt.clock else d.lastProof }) s.dc.sets := by
  simp [enterOpen]

theorem enterOpen_stands (proven : Bool) : DoorsStand s (enterOpen i proven s) :=
  ⟨outer_now (enterOpen_outer s i proven), enterOpen_tt s i proven, enterOpen_lgp s i proven, by simp [enterOpen],
    by simp [enterOpen], by simp [enterOpen]⟩

theorem enterOpening_stands : DoorsStand s (enterOpening i s) := by
  refine ⟨outer_now (enterOpening_outer s i), enterOpening_tt s i, enterOpening_lgp s i, ?_, ?_, ?_⟩ <;>
  · simp only [enterOpening]
    (repeat' split) <;> simp [enterOpen]

theorem enterOpening_moves :
    DoorsMove [i] (fun j => DoorSet.sentOpening (s.doorIn j).opened s.now s.tt.clock) s (enterOpening i s) := by
  refine doorsMove_of_updateAt (enterOpening_stands s i) ?_
  have reopened : ∀ r : State, (if s.doorState? i = some .locked then boardingReopened i s else s) = r →
      r.dc = s.dc ∧ r.tt = s.tt := by
    rintro r rfl
    split <;> simp
  simp only [enterOpening]
  generalize hr : (if s.doorState? i = some .locked then boardingReopened i s else s) = r
  obtain ⟨dc, tt⟩ := reopened r hr
  unfold DoorSet.sentOpening
  split <;> simp [updateAt_updateAt, dc, tt]

/-- Sets sent to OPENING one after the other. -/
theorem enterOpening_all {l : List Nat} (nodup : l.Nodup) :
    DoorsMove l (fun i => DoorSet.sentOpening (s.doorIn i).opened s.now s.tt.clock) s (forEach enterOpening l s) :=
  forEach_moves (fun i t h => by
    simp only [← h.now, ← h.tt, ← h.doorIn]
    exact enterOpening_moves t i) nodup

theorem setHold_moves (c : Car) (k : Nat) (v : Bool) :
    DoorsMove (s.pairSets c k) (fun _ d => { d with hold := v }) s (setHold c k v s) :=
  forEach_moves (fun i t _ => modDoor_moves t i _) (pairSets_nodup s c k)

end Sys2Proof.Machine
end

section

namespace Sys2Proof.Machine

/-! ### Sending a pair to CLOSING (06 R103) -/

variable {s t : State} {c : Car} {r : Released} {k i : Nat}

/-- No set of a pair is closed or obstructed by its inputs. -/
def State.pairClear (s : State) (c : Car) (k : Nat) : Prop :=
  ∀ i ∈ s.pairSets c k, (s.doorIn i).closed = false ∧ (s.doorIn i).obstructed = false

/-- The inputs and the line alone say whether a pair is clear. -/
theorem pairClear_congr (lgp : t.lgp = s.lgp) (inputs : t.dc.inputs = s.dc.inputs) :
    t.pairClear c k ↔ s.pairClear c k := by
  simp only [State.pairClear, pairSets_congr lgp, doorIn_congr inputs]

/-- A close demand that acts now: some set of the pair is OPEN and none is OPENING or CLOSING (06 R103). -/
def State.closeDue (s : State) (c : Car) (r : Released) : Prop :=
  r.closeDemand = true ∧ (∃ i ∈ s.pairSets c r.stop, s.doorState? i = some .open) ∧
    ∀ i ∈ s.pairSets c r.stop, s.doorState? i ≠ some .opening ∧ s.doorState? i ≠ some .closing

/-- The sets of a pair that are in a state and not LOCKED or UNPROVEN. -/
theorem mem_moving : i ∈ s.moving c k ↔ i ∈ s.pairSets c k ∧ ∃ x, s.doorState? i = some x ∧ x ≠ .locked ∧
    x ≠ .unproven := by
  simp [State.moving, mem_setsIn]

/-- The UNPROVEN sets of a pair. -/
theorem mem_unprovenSets : i ∈ s.unprovenSets c k ↔ i ∈ s.pairSets c k ∧ s.doorState? i = some .unproven := by
  simp [State.unprovenSets, mem_setsIn]

/-- The sets of a pair that are OPENING, OPEN or UNPROVEN. -/
theorem mem_closable : i ∈ s.closable c k ↔ i ∈ s.pairSets c k ∧ ∃ x, s.doorState? i = some x ∧ x ≠ .closing ∧
    x ≠ .locked := by
  simp [State.closable, mem_setsIn]

theorem closable_nodup (s : State) (c : Car) (k : Nat) : (s.closable c k).Nodup :=
  List.Nodup.filter _ (pairSets_nodup s c k)

/-- The states of the sets alone say which may be sent to CLOSING. -/
theorem closable_congr (lgp : t.lgp = s.lgp) (states : ∀ i, t.doorState? i = s.doorState? i) :
    t.closable c k = s.closable c k := by
  simp only [State.closable, State.setsIn, pairSets_congr lgp, states]

/-- The condition under which a close demand acts, as the model writes it. -/
theorem closeDue_iff : s.closeDue c r ↔ r.closeDemand = true ∧ s.moving c r.stop ≠ [] ∧
    (s.moving c r.stop).all (fun i => decide (s.doorState? i = some .open)) = true := by
  simp only [State.closeDue, List.all_eq_true, decide_eq_true_eq, ne_eq, List.eq_nil_iff_forall_not_mem, mem_moving,
    not_forall, not_not]
  refine and_congr_right fun _ => ⟨fun ⟨⟨i, mem, isOpen⟩, rest⟩ => ⟨⟨i, mem, _, isOpen, by simp⟩, ?_⟩,
    fun ⟨⟨i, mem, x, state⟩, rest⟩ => ⟨⟨i, mem, rest i ⟨mem, x, state⟩⟩, fun j mem => ⟨fun state => ?_, fun state => ?_⟩⟩⟩
  · rintro j ⟨mem, x, state, locked, unproven⟩
    have := rest j mem
    cases x <;> simp_all
  · simpa [state] using rest j ⟨mem, _, state, by simp⟩
  · simpa [state] using rest j ⟨mem, _, state, by simp⟩

/-- A pair whose close demand is not due rests. -/
theorem closeWhileDue_rests (h : ∀ r, (s.dc.pairs.car c).released = some r → ¬ s.closeDue c r) :
    ∀ n, closeWhileDue c n s = s
  | 0 => rfl
  | n + 1 => by
    rw [closeWhileDue]
    cases released : (s.dc.pairs.car c).released with
    | none => rfl
    | some r => exact if_neg (mt closeDue_iff.2 (h r released))

/-- A pair whose close demand is not due rests. -/
theorem closeIfDue_rests (h : ∀ r, (s.dc.pairs.car c).released = some r → ¬ s.closeDue c r) : closeIfDue c s = s :=
  closeWhileDue_rests h 8

/-- Sets that their inputs show neither closed nor obstructed stay CLOSING (06 R103). -/
theorem sendClosing_clear {is : List Nat} (nodup : is.Nodup)
    (clear : ∀ i ∈ is, (s.doorIn i).closed = false ∧ (s.doorIn i).obstructed = false) :
    sendClosing c is s = forEach startClosing is s := by
  have moved := startClosing_all s nodup
  have closed : is.filter (fun i => ((forEach startClosing is s).doorIn i).closed) = [] :=
    List.filter_eq_nil_iff.2 fun i mem => by simp [moved.doorIn, clear i mem]
  have obstructed : is.filter (fun i => ((forEach startClosing is s).doorIn i).obstructed &&
      !((forEach startClosing is s).doorIn i).closed) = [] :=
    List.filter_eq_nil_iff.2 fun i mem => by simp [moved.doorIn, clear i mem]
  simp only [sendClosing, closed, obstructed, forEach]

/-- The sets of a clear pair that may be sent to CLOSING are sent, and stay so. -/
theorem sendClosing_closable (clear : s.pairClear c k) (same : s.closable c k = t.closable c k)
    (lgp : t.lgp = s.lgp) (inputs : t.dc.inputs = s.dc.inputs) :
    sendClosing c (s.closable c k) t = forEach startClosing (t.closable c k) t := by
  rw [same]
  exact sendClosing_clear (closable_nodup t c k) fun i mem =>
    (pairClear_congr lgp inputs).2 clear i (mem_closable.1 mem).1

/-- The door control after the sets of a pair that may be sent to CLOSING were sent. -/
theorem closable_moves (s : State) (c : Car) (k : Nat) :
    DoorsMove (s.closable c k) (fun _ => DoorSet.sentClosing s.now s.tt.clock) s
      (forEach startClosing (s.closable c k) s) :=
  startClosing_all s (closable_nodup s c k)

/-- After a pair was sent to CLOSING each of its sets that is not LOCKED is CLOSING. -/
theorem closable_sent (mem : i ∈ s.pairSets c k) {x : DoorState}
    (state : (forEach startClosing (s.closable c k) s).doorState? i = some x) : x = .closing ∨ x = .locked := by
  have moved := closable_moves s c k
  by_cases sent : i ∈ s.closable c k
  · obtain ⟨y, before, _⟩ := (mem_closable.1 sent).2
    obtain ⟨d, found, _⟩ := set_of_doorState before
    rw [doorState_of (moved.inside sent found)] at state
    exact .inl (Option.some.inj state).symm
  · rw [moved.state_outside sent] at state
    by_contra other
    exact sent (mem_closable.2 ⟨mem, x, state, not_or.1 other⟩)

/-- No close demand is due for a pair that was sent to CLOSING. -/
theorem not_closeDue_sent (stop : ∀ r, (s.dc.pairs.car c).released = some r → r.stop = k) :
    ∀ r, ((forEach startClosing (s.closable c k) s).dc.pairs.car c).released = some r →
      ¬ (forEach startClosing (s.closable c k) s).closeDue c r := by
  rintro r released ⟨_, ⟨i, mem, isOpen⟩, _⟩
  have moved := closable_moves s c k
  rw [moved.pairs] at released
  rw [moved.pairSets, stop r released] at mem
  simpa using closable_sent mem isOpen

/-- The judgement of the dwell leaves the door sets, the pairs and the inputs alone. -/
theorem judgeDwell_dc (s : State) : ∃ d, (judgeDwell s).dc = { s.dc with dwell := d } := by
  simp only [judgeDwell]
  split <;> split
  · exact ⟨_, setDwell_dc s _⟩
  · exact ⟨_, rfl⟩
  · exact ⟨_, setDwell_dc s _⟩
  · exact ⟨_, rfl⟩

@[simp] theorem judgeDwell_sets (s : State) : (judgeDwell s).dc.sets = s.dc.sets := by
  obtain ⟨d, h⟩ := judgeDwell_dc s
  rw [h]
@[simp] theorem judgeDwell_pairs (s : State) : (judgeDwell s).dc.pairs = s.dc.pairs := by
  obtain ⟨d, h⟩ := judgeDwell_dc s
  rw [h]
@[simp] theorem judgeDwell_inputs (s : State) : (judgeDwell s).dc.inputs = s.dc.inputs := by
  obtain ⟨d, h⟩ := judgeDwell_dc s
  rw [h]

/-- A dwell that has started stands while a pair is released (06 R100). -/
theorem judgeDwell_stands (dwell : s.dc.dwell ≠ .idle) (released : (s.dc.pairs.car c).released = some r) :
    judgeDwell s = s := by
  have notEmpty : (s.dc.pairs.fst.released.isNone && s.dc.pairs.snd.released.isNone) = false := by
    cases c <;> simp_all [Two.car]
  cases state : s.dc.dwell with
  | idle => exact absurd state dwell
  | running => simp only [judgeDwell, state, notEmpty, Bool.false_eq_true, if_false]
  | expired => simp only [judgeDwell, state, notEmpty, Bool.false_eq_true, if_false]

/-- The states of the sets, the pairs and the inputs alone say what a close demand does. -/
theorem judgeDwell_closable : (judgeDwell s).closable c k = s.closable c k :=
  closable_congr (judgeDwell_lgp s) fun i => by simp [State.doorState?]

/-- A close demand that is due sends the OPEN and UNPROVEN sets of a clear pair to CLOSING (06 R103). -/
theorem closeIfDue_sends (released : (s.dc.pairs.car c).released = some r) (due : s.closeDue c r)
    (clear : s.pairClear c r.stop) : closeIfDue c s =
      forEach startClosing ((judgeDwell s).closable c r.stop) (judgeDwell s) := by
  have list : (s.pairSets c r.stop).filter (fun i => decide (i ∈ s.moving c r.stop) ||
      decide (i ∈ s.unprovenSets c r.stop)) = s.closable c r.stop := by
    simp only [State.closable, State.setsIn]
    refine List.filter_congr fun i mem => ?_
    obtain ⟨opening, closing⟩ := due.2.2 i mem
    simp only [mem_moving, mem_unprovenSets, mem, true_and]
    cases state : s.doorState? i with
    | none => rfl
    | some x => cases x <;> simp_all
  have sent := sendClosing_closable (t := judgeDwell s) clear judgeDwell_closable.symm (by simp) (by simp)
  have rest := closeWhileDue_rests (not_closeDue_sent (s := judgeDwell s) (c := c) (k := r.stop) fun r' h => by
    rw [judgeDwell_pairs, released] at h
    exact congrArg Released.stop (Option.some.inj h).symm)
  rw [closeIfDue, closeWhileDue, released]
  simp only [if_pos (closeDue_iff.1 due), list, sent]
  exact rest 7

/-- A set of a pair that was sent to CLOSING. -/
theorem closable_set (mem : i ∈ s.pairSets c k) {d : DoorSet} (found : s.dc.sets[i]? = some d) :
    (forEach startClosing (s.closable c k) s).dc.sets[i]? =
      some (if d.state = .locked ∨ d.state = .closing then d else d.sentClosing s.now s.tt.clock) := by
  have moved := closable_moves s c k
  by_cases sent : i ∈ s.closable c k
  · rw [moved.inside sent found, if_neg]
    obtain ⟨x, state, ne⟩ := (mem_closable.1 sent).2
    rw [doorState_of found] at state
    obtain rfl := Option.some.inj state
    tauto
  · rw [moved.outside sent, found, if_pos]
    by_contra other
    exact sent (mem_closable.2 ⟨mem, _, doorState_of found, by tauto⟩)

end Sys2Proof.Machine
end

section

namespace Sys2Proof.Machine

/-! ### The door requests (06 sections 6.2 and 6.4) -/

variable {s t : State} {c : Car} {r : Released} {k i pair : Nat}

/-- DOORS of a pair number above 1 is out of range. -/
theorem doors_bounds (high : 1 < pair) : openDoors pair s = .error .bounds ∧ closeDoors pair s = .error .bounds ∧
    holdDoors pair s = .error .bounds ∧ unholdDoors pair s = .error .bounds := by
  simp only [openDoors, closeDoors, holdDoors, unholdDoors, carOf?_none high, and_self]

/-- The sets that a release sends to OPENING: LOCKED, UNPROVEN and CLOSING ones (06 R96, R98). -/
def State.openable (s : State) (l : List Nat) : List Nat :=
  s.setsIn (fun x => decide (x ≠ .opening) && decide (x ≠ .open)) l

theorem mem_openable {l : List Nat} : i ∈ s.openable l ↔ i ∈ l ∧ ∃ x, s.doorState? i = some x ∧ x ≠ .opening ∧
    x ≠ .open := by
  simp [State.openable, mem_setsIn]

/-- A release sends the sets that may be sent to OPENING, one after the other. -/
theorem openSets_eq (l : List Nat) (s : State) : openSets l s = forEach enterOpening (s.openable l) s := by
  rw [openSets, State.openable]
  congr 2
  funext x
  cases x <;> rfl

/-- The door sets after a release (06 R96, R98). -/
theorem openSets_moves (s : State) (c : Car) (k : Nat) : DoorsMove (s.openable (s.pairSets c k))
    (fun i => DoorSet.sentOpening (s.doorIn i).opened s.now s.tt.clock) s (openSets (s.pairSets c k) s) := by
  rw [openSets_eq]
  exact enterOpening_all s (List.Nodup.filter _ (pairSets_nodup s c k))

/-- A set sent to OPENING is OPENING or OPEN. -/
theorem sentOpening_state (opened : Bool) (now clock : Nat) (d : DoorSet) :
    (d.sentOpening opened now clock).state = .opening ∨ (d.sentOpening opened now clock).state = .open := by
  cases opened
  · exact .inl rfl
  · exact .inr rfl

/-- A set sent to OPENING keeps its reopen count. -/
theorem sentOpening_reopen (opened : Bool) (now clock : Nat) (d : DoorSet) :
    (d.sentOpening opened now clock).reopen = d.reopen := by
  cases opened <;> rfl

/-- A set of a pair that is CLOSING, LOCKED or UNPROVEN after a release. -/
theorem openSets_opens (mem : i ∈ s.pairSets c k) {d : DoorSet} (found : s.dc.sets[i]? = some d)
    (shut : d.state = .closing ∨ d.state = .locked ∨ d.state = .unproven) :
    ((openSets (s.pairSets c k) s).doorState? i = some .opening ∨
      (openSets (s.pairSets c k) s).doorState? i = some .open) ∧
    ((openSets (s.pairSets c k) s).dc.sets[i]?).map DoorSet.reopen = some d.reopen := by
  have sent : i ∈ s.openable (s.pairSets c k) :=
    mem_openable.2 ⟨mem, _, doorState_of found, by rcases shut with h | h | h <;> simp [h]⟩
  have after := (openSets_moves s c k).inside sent found
  rw [doorState_of after, after]
  exact ⟨by simpa using sentOpening_state _ _ _ d, by simp [sentOpening_reopen]⟩

/-- A set of a pair that is OPENING or OPEN stays as it is in a release. -/
theorem openSets_keeps {d : DoorSet} (found : s.dc.sets[i]? = some d)
    (opened : d.state = .opening ∨ d.state = .open) : (openSets (s.pairSets c k) s).dc.sets[i]? = some d := by
  rw [(openSets_moves s c k).outside, found]
  intro sent
  obtain ⟨x, state, notOpening, notOpen⟩ := (mem_openable.1 sent).2
  rw [doorState_of found, Option.some.injEq] at state
  rcases opened with h | h <;> simp_all

/-- Every set of a pair is OPENING or OPEN after a release. -/
theorem openSets_opened (mem : i ∈ s.pairSets c k) {x : DoorState}
    (state : (openSets (s.pairSets c k) s).doorState? i = some x) : x = .opening ∨ x = .open := by
  have moved := openSets_moves s c k
  by_cases sent : i ∈ s.openable (s.pairSets c k)
  · obtain ⟨y, before, _⟩ := (mem_openable.1 sent).2
    obtain ⟨d, found, _⟩ := set_of_doorState before
    rw [doorState_of (moved.inside sent found)] at state
    rw [← Option.some.inj state]
    exact sentOpening_state _ _ _ d
  · rw [moved.state_outside sent] at state
    by_contra other
    exact sent (mem_openable.2 ⟨mem, x, state, not_or.1 other⟩)

/-- The end of an accepted DOORS OPEN: a dwell that is EXPIRED in AUTOMATIC is IDLE again (06 R98). -/
def reopenDwell (q t : State) : State :=
  if q.mau.mode = .automatic ∧ q.dc.dwell = .expired then setDwell .idle t else t

/-- The end of an accepted DOORS OPEN changes the dwell alone. -/
theorem reopenDwell_dc {q t : State} (dwell : t.dc.dwell = q.dc.dwell) : (reopenDwell q t).dc = { t.dc with
    dwell := if q.mau.mode = .automatic ∧ q.dc.dwell = .expired then .idle else q.dc.dwell } := by
  rw [reopenDwell]
  split
  · exact setDwell_dc t _
  · rw [← dwell]

/-- The end of an accepted DOORS OPEN leaves the other blocks alone. -/
theorem reopenDwell_frame (q t : State) : (reopenDwell q t).lgp = t.lgp ∧ (reopenDwell q t).bl = t.bl ∧
    (reopenDwell q t).ft = t.ft ∧ (reopenDwell q t).tt = t.tt ∧ (reopenDwell q t).mau = t.mau := by
  rw [reopenDwell]
  split <;> simp

/-- DOORS OPEN where the pair may not be released (06 R98). -/
theorem openDoors_refused (h : s.stop = none ∨ ∃ k, s.stop = some k ∧ s.mayRelease c k = false) :
    openDoors c.index s = .error .state := by
  simp only [openDoors, carOf?_index]
  rcases h with stop | ⟨k, stop, may⟩ <;> simp [*]

/-- DOORS OPEN of a pair whose record is empty releases it (06 R98). -/
theorem openDoors_releases (stop : s.stop = some k) (may : s.mayRelease c k = true)
    (empty : (s.dc.pairs.car c).released = none) :
    openDoors c.index s = done (reopenDwell s (releasePair c k s)) := by
  simp only [openDoors, carOf?_index, stop, may, if_true, empty]
  rfl

/-- DOORS OPEN of a pair released at the stop reopens it (06 R98). -/
theorem openDoors_reopens (stop : s.stop = some k) (may : s.mayRelease c k = true)
    (released : (s.dc.pairs.car c).released = some r) (here : r.stop = k) :
    openDoors c.index s = done (reopenDwell s
      (openSets (s.pairSets c k) (modReleased c (fun x => { x with closeDemand := false }) s))) := by
  simp only [openDoors, carOf?_index, stop, may, if_true, released, if_pos here]
  rfl

/-- A set sent by DOORS CLOSE or HOLD reads as before by its state. -/
theorem doorState_of_moves {l : List Nat} {g : Nat → DoorSet → DoorSet} (h : DoorsMove l g s t)
    (keeps : ∀ i d, (g i d).state = d.state) (i : Nat) : t.doorState? i = s.doorState? i := by
  rw [State.doorState?, State.doorState?, h.sets]
  split
  · simp [Function.comp_def, keeps]
  · rfl

/-- From q to p the pair records and the notice list alone have changed. -/
structure PairsAlone (q p : State) : Prop where
  lgp : p.lgp = q.lgp
  bl : p.bl = q.bl
  ft : p.ft = q.ft
  tt : p.tt = q.tt
  mau : p.mau = q.mau
  sets : p.dc.sets = q.dc.sets
  dwell : p.dc.dwell = q.dc.dwell

theorem modPair_alone (c : Car) (f : PairRec → PairRec) (q : State) : PairsAlone q (modPair c f q) :=
  ⟨rfl, rfl, rfl, rfl, rfl, rfl, rfl⟩

theorem modReleased_alone (c : Car) (f : Released → Released) (q : State) : PairsAlone q (modReleased c f q) := by
  constructor <;> simp

/-- The door control after an accepted DOORS OPEN that made the pair records those of p (06 R98, R100). -/
theorem reopened_dc {q p : State} (alone : PairsAlone q p) (c : Car) (k : Nat) :
    (reopenDwell q (openSets (q.pairSets c k) p)).dc = { (openSets (p.pairSets c k) p).dc with
      dwell := if q.mau.mode = .automatic ∧ q.dc.dwell = .expired then .idle else q.dc.dwell } := by
  rw [← pairSets_congr alone.lgp]
  exact reopenDwell_dc ((openSets_moves p c k).dwell.trans alone.dwell)

/-- What an accepted DOORS OPEN leaves alone. -/
theorem reopened_frame {q p : State} (alone : PairsAlone q p) (l : List Nat) :
    (reopenDwell q (openSets l p)).lgp = q.lgp ∧ (reopenDwell q (openSets l p)).bl = q.bl ∧
    (reopenDwell q (openSets l p)).ft = q.ft ∧ (reopenDwell q (openSets l p)).tt = q.tt ∧
    (reopenDwell q (openSets l p)).mau = q.mau := by
  obtain ⟨lgp, bl, ft, tt, mau⟩ := reopenDwell_frame q (openSets l p)
  simp [*, alone.lgp, alone.bl, alone.ft, alone.tt, alone.mau]

/-- Settles O38: the checks of DOORS OPEN, and the door sets that a release or a reopening sends. -/
theorem doorsOpenReleasesAPairAtTheStop : Obligations.DoorsOpenReleasesAPairAtTheStop := by
  rintro s q h pair rfl hp
  refine ⟨fun high => refusedWith_of_own rfl rfl hp (doors_bounds high).1, ?_⟩
  rintro c rfl
  have refused := fun no => refusedWith_of_own (i := .doorsOpen h c.index) rfl rfl hp (openDoors_refused (c := c) no)
  have accepted := fun t owned => doneWith_of_own (i := .doorsOpen h c.index) (t := t) (b := .empty) rfl rfl hp owned
  generalize s.asTaken h (.doors 0 c.index 0) = q at refused accepted ⊢
  refine ⟨fun off => refused (.inl off), fun k stop => ⟨fun may => refused (.inr ⟨k, stop, may⟩),
    fun may empty => ⟨_, accepted _ (openDoors_releases stop may empty), ?_⟩,
    fun r may released here => ⟨_, accepted _ (openDoors_reopens stop may released here), ?_⟩⟩⟩
  · have alone := modPair_alone c (fun _ =>
      { released := some { stop := k, closeDemand := false, closureStopped := false }, pendingStop := none }) q
    rw [releasePair]
    generalize made : modPair c (fun _ =>
      { released := some { stop := k, closeDemand := false, closureStopped := false }, pendingStop := none }) q = p
      at alone ⊢
    have moved := openSets_moves p c k
    simp only [State.doorState?, reopened_dc alone]
    refine ⟨?_, fun i mem x state => ?_, trivial, reopened_frame alone _⟩
    · rw [moved.pairs, ← made]
      simp [modPair]
    · exact openSets_opened (pairSets_congr alone.lgp c k ▸ mem) state
  · have alone := modReleased_alone c (fun x => { x with closeDemand := false }) q
    generalize made : modReleased c (fun x => { x with closeDemand := false }) q = p at alone ⊢
    have moved := openSets_moves p c k
    simp only [State.doorState?, reopened_dc alone]
    refine ⟨?_, fun i mem d found => ?_, trivial, reopened_frame alone _⟩
    · rw [moved.pairs, ← made, modReleased_released, released]
      rfl
    · rw [← alone.sets] at found
      exact ⟨openSets_opens (pairSets_congr alone.lgp c k ▸ mem) found, openSets_keeps found⟩

end Sys2Proof.Machine
end

section

namespace Sys2Proof.Machine

/-! ### DOORS CLOSE (06 R102) -/

variable {s t : State} {c : Car} {r : Released} {k i : Nat}

/-- A set whose reopen count and hold flag DOORS CLOSE clears (06 R102). -/
def DoorSet.eased (d : DoorSet) : DoorSet := { d with reopen := 0, hold := false }

/-- DOORS CLOSE before it sends the sets: counts and hold flags clear, the close demand set (06 R102). -/
def closePrepared (c : Car) (r : Released) (s : State) : State :=
  modReleased c (fun x => { x with closeDemand := true, closureStopped := false })
    (forEach (fun i => modDoor i DoorSet.eased) (s.pairSets c r.stop) s)

/-- Counts and hold flags of a pair cleared. -/
theorem eased_moves (s : State) (c : Car) (k : Nat) : DoorsMove (s.pairSets c k) (fun _ => DoorSet.eased) s
    (forEach (fun i => modDoor i DoorSet.eased) (s.pairSets c k) s) :=
  forEach_moves (fun i t _ => modDoor_moves t i _) (pairSets_nodup s c k)

/-- The preparation of DOORS CLOSE leaves the time, the line and the inputs alone. -/
theorem closePrepared_frame (c : Car) (r : Released) (s : State) : (closePrepared c r s).now = s.now ∧
    (closePrepared c r s).tt = s.tt ∧ (closePrepared c r s).lgp = s.lgp ∧
    (closePrepared c r s).dc.inputs = s.dc.inputs := by
  have moved := eased_moves s c r.stop
  exact ⟨(outer_now (modReleased_outer _ _ _)).trans moved.now, (modReleased_tt _ _ _).trans moved.tt,
    (modReleased_lgp _ _ _).trans moved.lgp, (modReleased_inputs _ _ _).trans moved.inputs⟩

/-- DOORS CLOSE of a clear pair sends the sets that may be sent (06 R102, R103). -/
theorem closeDoors_sends (released : (s.dc.pairs.car c).released = some r) (clear : s.pairClear c r.stop) :
    closeDoors c.index s = done (forEach startClosing ((closePrepared c r s).closable c r.stop) (closePrepared c r s)) := by
  have moved := eased_moves s c r.stop
  obtain ⟨-, -, lgp, inputs⟩ := closePrepared_frame c r s
  have states : ∀ i, (closePrepared c r s).doorState? i = s.doorState? i := fun i => by
    rw [← doorState_of_moves moved (fun _ _ => rfl) i]
    simp [closePrepared, State.doorState?]
  have sent := sendClosing_closable clear (closable_congr lgp states).symm lgp inputs
  have rest := closeIfDue_rests (not_closeDue_sent (s := closePrepared c r s) (c := c) (k := r.stop) fun r' h => by
    rw [closePrepared, modReleased_released, moved.pairs, released] at h
    rw [← Option.some.inj h])
  simp only [closeDoors, carOf?_index, released]
  exact congrArg done ((congrArg (closeIfDue c) sent).trans rest)

/-- DOORS CLOSE of a pair that is not released changes nothing (06 R102). -/
theorem closeDoors_empty (empty : (s.dc.pairs.car c).released = none) : closeDoors c.index s = done s := by
  simp only [closeDoors, carOf?_index, empty]

/-- Settles O39: the sets of a released pair eased, its record changed, and those that may be sent sent. -/
theorem doorsCloseClosesAReleasedPair : Obligations.DoorsCloseClosesAReleasedPair := by
  rintro s q h pair rfl hp
  refine ⟨fun high => refusedWith_of_own rfl rfl hp (doors_bounds high).2.1, ?_⟩
  rintro c rfl
  have accepted := fun t owned => doneWith_of_own (i := .doorsClose h c.index) (t := t) (b := .empty) rfl rfl hp owned
  generalize s.asTaken h (.doors 1 c.index 0) = q at accepted ⊢
  refine ⟨fun empty => accepted _ (closeDoors_empty empty), fun r released clear =>
    ⟨_, accepted _ (closeDoors_sends released clear), ?_⟩⟩
  have eased := eased_moves q c r.stop
  have moved := closable_moves (closePrepared c r q) c r.stop
  refine ⟨?_, fun i mem d found state => ?_, ?_⟩
  · rw [moved.pairs, closePrepared, modReleased_released, eased.pairs, released]
    rfl
  · have found' : (closePrepared c r q).dc.sets[i]? = some d.eased := by
      rw [closePrepared, modReleased_sets, eased.inside mem found]
    obtain ⟨now, tt, lgp, -⟩ := closePrepared_frame c r q
    rw [closable_set (pairSets_congr lgp c r.stop ▸ mem) found', if_neg, now, tt]
    · rfl
    · rcases state with h | h | h <;> simp [DoorSet.eased, h]
  · simp [closePrepared, forEach_lgp, forEach_bl, forEach_hc, forEach_ft, forEach_tt, forEach_mau]

end Sys2Proof.Machine
end

section

namespace Sys2Proof.Machine

/-! ### DOORS HOLD (06 R101) -/

variable {s t : State} {c : Car} {r : Released} {k i : Nat}

/-- The sets of a pair after their hold flags became v (06 R101). -/
theorem setHold_set (s : State) (c : Car) (k : Nat) (v : Bool) :
    (∀ i ∈ s.pairSets c k, (setHold c k v s).dc.sets[i]? = (s.dc.sets[i]?).map (fun d => { d with hold := v })) ∧
    ∀ i, i ∉ s.pairSets c k → (setHold c k v s).dc.sets[i]? = s.dc.sets[i]? := by
  have moved := setHold_moves s c k v
  exact ⟨fun i mem => by rw [moved.sets, if_pos mem], fun i out => moved.outside out⟩

/-- Records of door sets changed one after the other change the records of the sets alone. -/
theorem forEach_modDoor (f : DoorSet → DoorSet) : ∀ (l : List Nat) (s : State), forEach (fun i => modDoor i f) l s =
    { s with dc := { s.dc with sets := (forEach (fun i => modDoor i f) l s).dc.sets } }
  | [], _ => rfl
  | i :: is, s => by
    rw [forEach, forEach_modDoor f is (modDoor i f s)]
    rfl

/-- DOORS HOLD SET of a released pair sets the hold flags, and one that is not released is refused (06 R101). -/
theorem holdDoors_released (released : (s.dc.pairs.car c).released = some r) :
    holdDoors c.index s = done (setHold c r.stop true s) := by
  simp only [holdDoors, carOf?_index, released]

theorem holdDoors_empty (empty : (s.dc.pairs.car c).released = none) : holdDoors c.index s = .error .state := by
  simp only [holdDoors, carOf?_index, empty]

/-- DOORS HOLD CLEAR of a pair that is not released changes nothing (06 R101). -/
theorem unholdDoors_empty (empty : (s.dc.pairs.car c).released = none) : unholdDoors c.index s = done s := by
  simp only [unholdDoors, carOf?_index, empty]

/-- DOORS HOLD CLEAR of a released pair for which no expired dwell waits (06 R101). -/
theorem unholdDoors_plain (released : (s.dc.pairs.car c).released = some r)
    (plain : s.mau.mode ≠ .automatic ∨ s.dc.dwell ≠ .expired ∨ r.closureStopped = true ∨ r.closeDemand = true) :
    unholdDoors c.index s = done (setHold c r.stop false s) := by
  simp only [unholdDoors, carOf?_index, released]
  rw [if_neg]
  rintro ⟨mode, dwell, stopped, demand⟩
  rcases plain with h | h | h | h <;> simp_all

/-- The state in which the close demand of a HOLD CLEAR acts: the hold flags clear, the demand set (06 R101). -/
def unheldPrepared (c : Car) (r : Released) (s : State) : State :=
  modReleased c (fun x => { x with closeDemand := true }) (setHold c r.stop false s)

/-- DOORS HOLD CLEAR for which an expired dwell waits sets the close demand, which acts (06 R101). -/
theorem unholdDoors_demands (released : (s.dc.pairs.car c).released = some r) (auto : s.mau.mode = .automatic)
    (dwell : s.dc.dwell = .expired) (stopped : r.closureStopped = false) (demand : r.closeDemand = false) :
    unholdDoors c.index s = done (closeOnDemand c (unheldPrepared c r s)) := by
  simp only [unholdDoors, carOf?_index, released, auto, dwell, stopped, demand, and_self, if_true]
  rfl

/-- A demand just set waits while a set of the pair is OPENING or CLOSING (06 R103). -/
theorem closeOnDemand_waits (released : (s.dc.pairs.car c).released = some r)
    (busy : ∃ i ∈ s.pairSets c r.stop, s.doorState? i = some .opening ∨ s.doorState? i = some .closing) :
    closeOnDemand c s = s := by
  obtain ⟨i, mem, state⟩ := busy
  have moving : s.moving c r.stop ≠ [] := by
    refine List.ne_nil_of_mem (a := i) (mem_moving.2 ⟨mem, ?_⟩)
    rcases state with h | h <;> exact ⟨_, h, by simp⟩
  simp only [closeOnDemand, released, if_neg moving]
  refine closeIfDue_rests fun r' h due => ?_
  obtain rfl := Option.some.inj (released.symm.trans h)
  obtain ⟨notOpening, notClosing⟩ := due.2.2 i mem
  exact state.elim notOpening notClosing

/-- A demand just set sends a clear pair of which no set is OPENING or CLOSING (06 R103, log 18). -/
theorem closeOnDemand_sends (released : (s.dc.pairs.car c).released = some r) (demand : r.closeDemand = true)
    (dwell : s.dc.dwell ≠ .idle) (clear : s.pairClear c r.stop)
    (idle : ∀ i ∈ s.pairSets c r.stop, s.doorState? i ≠ some .opening ∧ s.doorState? i ≠ some .closing) :
    closeOnDemand c s = forEach startClosing (s.closable c r.stop) s := by
  simp only [closeOnDemand, released]
  split
  · next settled =>
    have list : s.unprovenSets c r.stop = s.closable c r.stop := by
      simp only [State.unprovenSets, State.closable, State.setsIn]
      refine List.filter_congr fun i mem => ?_
      have still : i ∉ s.moving c r.stop := by simp [settled]
      rw [mem_moving] at still
      cases state : s.doorState? i with
      | none => rfl
      | some x => cases x <;> simp_all
    rw [list, sendClosing_closable clear rfl rfl rfl]
    exact closeIfDue_rests (not_closeDue_sent fun r' h => by rw [← Option.some.inj (released.symm.trans h)])
  · next busy =>
    obtain ⟨i, mem⟩ := List.exists_mem_of_ne_nil _ busy
    obtain ⟨mem, x, state, notLocked, notUnproven⟩ := mem_moving.1 mem
    have isOpen : s.doorState? i = some .open := by
      have := idle i mem
      cases x <;> simp_all
    rw [closeIfDue_sends released ⟨demand, ⟨i, mem, isOpen⟩, idle⟩ clear, judgeDwell_stands dwell released]

/-- The state in which a HOLD CLEAR sends, beside its door sets and its pair record. -/
theorem unheldPrepared_frame (released : (s.dc.pairs.car c).released = some r) :
    ((unheldPrepared c r s).dc.pairs.car c).released = some { r with closeDemand := true } ∧
    (unheldPrepared c r s).dc.dwell = s.dc.dwell ∧ (unheldPrepared c r s).dc.inputs = s.dc.inputs ∧
    (unheldPrepared c r s).now = s.now ∧ (unheldPrepared c r s).tt = s.tt ∧ (unheldPrepared c r s).lgp = s.lgp ∧
    (unheldPrepared c r s).bl = s.bl ∧ (unheldPrepared c r s).hc = s.hc ∧ (unheldPrepared c r s).ft = s.ft ∧
    (unheldPrepared c r s).mau = s.mau ∧ (unheldPrepared c r s).gqu = s.gqu := by
  have held := setHold_moves s c r.stop false
  have now := (outer_now (modReleased_outer (setHold c r.stop false s) c (fun x => { x with closeDemand := true }))).trans
    held.now
  simp [unheldPrepared, held.pairs, held.inputs, held.dwell, released, now]

/-- The door sets in which a HOLD CLEAR sends: their hold flags are clear. -/
theorem unheldPrepared_set (mem : i ∈ s.pairSets c r.stop) :
    (unheldPrepared c r s).dc.sets[i]? = (s.dc.sets[i]?).map (fun d => { d with hold := false }) := by
  rw [unheldPrepared, modReleased_sets, (setHold_set s c r.stop false).1 i mem]

theorem unheldPrepared_state (c : Car) (r : Released) (s : State) (i : Nat) :
    (unheldPrepared c r s).doorState? i = s.doorState? i := by
  rw [← doorState_of_moves (setHold_moves s c r.stop false) (fun _ _ => rfl) i]
  simp [unheldPrepared, State.doorState?]

/-- Settles O40: the hold flags of the pair, and for a HOLD CLEAR that an expired dwell waits for the close demand
and the sets that it sends. -/
theorem doorsHoldSetsAndClearsTheHoldFlags : Obligations.DoorsHoldSetsAndClearsTheHoldFlags := by
  intro s h pair
  refine ⟨?_, ?_⟩
  · rintro q rfl hp
    refine ⟨fun high => refusedWith_of_own rfl rfl hp (doors_bounds high).2.2.1, ?_⟩
    rintro c rfl
    refine ⟨fun empty => refusedWith_of_own rfl rfl hp (holdDoors_empty empty), fun r released =>
      ⟨_, doneWith_of_own rfl rfl hp (holdDoors_released released), forEach_modDoor _ _ _, setHold_set _ _ _ _⟩⟩
  · rintro q rfl hp
    refine ⟨fun high => refusedWith_of_own rfl rfl hp (doors_bounds high).2.2.2, ?_⟩
    rintro c rfl
    have accepted := fun t owned =>
      doneWith_of_own (i := .doorsHoldClear h c.index) (t := t) (b := .empty) rfl rfl hp owned
    generalize s.asTaken h (.doors 2 c.index 1) = q at accepted ⊢
    refine ⟨fun empty => accepted _ (unholdDoors_empty empty), fun r released plain =>
      ⟨_, accepted _ (unholdDoors_plain released plain), forEach_modDoor _ _ _, setHold_set _ _ _ _⟩,
      fun r released auto dwell stopped demand clear =>
        ⟨_, accepted _ (unholdDoors_demands released auto dwell stopped demand), ?_⟩⟩
    obtain ⟨released', dwell', inputs, now, tt, lgp, bl, hc, ft, mau, gqu⟩ := unheldPrepared_frame released
    have states := unheldPrepared_state c r q
    have sets := fun i => unheldPrepared_set (s := q) (c := c) (r := r) (i := i)
    generalize unheldPrepared c r q = p at *
    have pair : p.pairSets c r.stop = q.pairSets c r.stop := pairSets_congr lgp c r.stop
    by_cases busy : ∃ j ∈ q.pairSets c r.stop, q.doorState? j = some .opening ∨ q.doorState? j = some .closing
    · rw [closeOnDemand_waits released' (by simpa only [pair, states] using busy)]
      refine ⟨released', dwell'.trans dwell, fun idle => ?_, fun _ i mem => sets i mem, lgp, bl, hc, ft, mau, gqu⟩
      obtain ⟨j, mem, state⟩ := busy
      rcases state with state | state <;> obtain ⟨d, found, eq⟩ := set_of_doorState state
      · exact absurd eq (idle j mem d found).1
      · exact absurd eq (idle j mem d found).2
    · have idle : ∀ j ∈ q.pairSets c r.stop, q.doorState? j ≠ some .opening ∧ q.doorState? j ≠ some .closing :=
        fun j mem => not_or.1 fun state => busy ⟨j, mem, state⟩
      rw [closeOnDemand_sends released' rfl (by simp [dwell', dwell]) ((pairClear_congr lgp inputs).2 clear)
        (by simpa only [pair, states] using idle)]
      have moved := closable_moves p c r.stop
      refine ⟨by rw [moved.pairs, released'], by rw [moved.dwell, dwell', dwell], fun _ i mem d found => ?_,
        fun ⟨j, mem, d, found, state⟩ => absurd ⟨j, mem, ?_⟩ busy, ?_⟩
      · have found' := (sets i mem).trans (congrArg _ found)
        rw [closable_set (pair ▸ mem) found', now, tt]
        have notClosing : d.state ≠ .closing := fun e => (idle i mem).2 (by rw [doorState_of found, e])
        by_cases locked : d.state = .locked
        · simp [locked]
        · simp [locked, notClosing, DoorSet.sentClosing]
      · simpa only [doorState_of found, Option.some.injEq] using state
      · simp [forEach_lgp, forEach_bl, forEach_hc, forEach_ft, forEach_mau, forEach_gqu, lgp, bl, hc, ft, mau, gqu]

end Sys2Proof.Machine
end

section

namespace Sys2Proof.Machine

/-! ### Raises and the boarding batches (03 R45; 08 R142) -/

variable {s : State} {c : Car}

@[simp] theorem dissolveBatch_loads (c : Car) (s : State) : (dissolveBatch c s).gqu.loads = s.gqu.loads := by
  simp only [dissolveBatch]
  split <;> simp

/-- A dissolved batch is absent (08 R142). -/
theorem dissolveBatch_absent (c : Car) (s : State) : (dissolveBatch c s).gqu.batches.car c = none := by
  simp only [dissolveBatch]
  split
  · assumption
  · simp

/-- A batch that is absent stays absent when one is dissolved. -/
theorem dissolveBatch_keeps_absent (c' : Car) (absent : s.gqu.batches.car c = none) :
    (dissolveBatch c' s).gqu.batches.car c = none := by
  by_cases same : c = c'
  · exact same ▸ dissolveBatch_absent c s
  · simp only [dissolveBatch]
    split
    · exact absent
    · simp [setCar_other _ _ same, absent]

/-- What dissolving a batch makes of the gate and queue unit is read of that unit alone. -/
theorem dissolveBatch_gqu_congr {t : State} (c : Car) (h : t.gqu = s.gqu) :
    (dissolveBatch c t).gqu = (dissolveBatch c s).gqu := by
  simp only [dissolveBatch, h]
  split <;> simp [h]

/-- From s to t the gate and queue unit stands, or has lost both batches. -/
def BatchesKept (s t : State) : Prop := t.gqu = s.gqu ∨ t.gqu = (dissolveBoth s).gqu

theorem BatchesKept.of_gqu {t u : State} (h : BatchesKept t u) (same : t.gqu = s.gqu) : BatchesKept s u :=
  h.imp (·.trans same) (·.trans (dissolveBatch_gqu_congr .b (dissolveBatch_gqu_congr .a same)))

/-- A trip that is abandoned dissolves both batches or none (03 R45). -/
theorem abandonTrip_batches (cause : EndCause) (s : State) : BatchesKept s (abandonTrip cause s) := by
  simp only [abandonTrip]
  split
  · exact .inl rfl
  · exact .inr (dissolveBatch_gqu_congr .b (dissolveBatch_gqu_congr .a rfl))

/-- A departure that is abandoned dissolves both batches or none (03 R51). -/
theorem abandonDeparture_batches (cause : EndCause) (s : State) : BatchesKept s (abandonDeparture cause s) := by
  have parked : ∀ held t, t.gqu = s.gqu → BatchesKept s (parkedCycle held (abandonTrip cause t)) := fun held t same => by
    rw [BatchesKept, parkedCycle_gqu]
    exact (abandonTrip_batches cause t).of_gqu same
  simp only [abandonDeparture]
  split
  · exact parked _ _ rfl
  · refine parked _ _ ?_
    split <;> simp
  · exact .inl rfl

/-- An emergency demand dissolves both batches or none (04 R72). -/
theorem emergencyDemand_batches (code : Option FaultCode) (s : State) : BatchesKept s (emergencyDemand code s) := by
  simp only [emergencyDemand]
  have tested : ∀ f, (if s.hc.haul = .brakeTest then s.modBpu f else s).gqu = s.gqu := fun f => by split <;> rfl
  split
  · exact .inl (by simp [tested])
  · split
    · split
      · exact (abandonTrip_batches _ _).of_gqu (by simp [tested])
      · exact .inl (by simp [tested])
    · exact .inl (by simp [tested])

/-- A raise leaves the gate and queue unit alone, or dissolves both batches (10 R171; 03 R45). -/
theorem raise_gqu (k : FaultKey) (s : State) : BatchesKept s (raise k s) := by
  simp only [raise, handOn]
  split
  · exact (emergencyDemand_batches _ _).of_gqu rfl
  · exact (abandonDeparture_batches _ _).of_gqu (by simp)
  · split
    · exact (abandonDeparture_batches _ _).of_gqu rfl
    · exact .inl rfl
  · exact .inl rfl

@[simp] theorem raise_loads (k : FaultKey) (s : State) : (raise k s).gqu.loads = s.gqu.loads := by
  rcases raise_gqu k s with h | h <;> simp [h, dissolveBoth]

/-- A batch that is absent stays absent in a raise. -/
theorem raise_keeps_absent (k : FaultKey) (absent : s.gqu.batches.car c = none) :
    (raise k s).gqu.batches.car c = none := by
  rcases raise_gqu k s with h | h <;> rw [h]
  · exact absent
  · exact dissolveBatch_keeps_absent _ (dissolveBatch_keeps_absent _ absent)

/-! ### The load at a terminal opening (08 R144) -/

/-- The pair of the car of door set i is released at a terminal stop. -/
def State.atTerminal (s : State) (i : Nat) (c : Car) : Prop :=
  i = c.index ∧ ∃ r, (s.dc.pairs.car c).released = some r ∧ (r.stop = 0 ∨ r.stop + 1 = s.stations)

/-- A car door set that enters OPEN at a terminal stop empties its car (08 R144). -/
theorem terminalOpening_empties {i : Nat} (h : s.atTerminal i c) :
    (terminalOpening i s).gqu = { s.gqu with loads := s.gqu.loads.setCar c (some 0) } := by
  obtain ⟨rfl, r, released, terminal⟩ := h
  simp only [terminalOpening, carOf?_index, released, if_pos terminal]
  rfl

/-- The car of a number has it. -/
theorem index_of_carOf? {i : Nat} (h : carOf? i = some c) : i = c.index := by
  match i with
  | 0 => cases h; rfl
  | 1 => cases h; rfl
  | i + 2 => cases h

/-- Elsewhere the loads stay (08 R144). -/
theorem terminalOpening_elsewhere {i : Nat} (h : ∀ c, ¬ s.atTerminal i c) : (terminalOpening i s).gqu = s.gqu := by
  simp only [terminalOpening]
  split
  · rfl
  · next c car =>
    split
    · rfl
    · next r released =>
      rw [if_neg fun terminal => h c ⟨index_of_carOf? car, r, released, terminal⟩]

/-- The line and the pair records alone say whether a set is at a terminal stop. -/
theorem atTerminal_congr {t : State} {i : Nat} (lgp : t.lgp = s.lgp) (pairs : t.dc.pairs = s.dc.pairs) :
    t.atTerminal i c ↔ s.atTerminal i c := by
  simp only [State.atTerminal, pairs, stations_congr (congrArg Lgp.line lgp)]

/-- A terminal opening where the pairs are those of s does to the loads what R144 says. -/
theorem terminalOpening_loads {t : State} {i : Nat} (lgp : t.lgp = s.lgp) (pairs : t.dc.pairs = s.dc.pairs) :
    (∀ c r, i = c.index → (s.dc.pairs.car c).released = some r → r.stop = 0 ∨ r.stop + 1 = s.stations →
      (terminalOpening i t).gqu.loads = t.gqu.loads.setCar c (some 0)) ∧
    ((∀ c r, i = c.index → (s.dc.pairs.car c).released = some r → r.stop ≠ 0 ∧ r.stop + 1 ≠ s.stations) →
      (terminalOpening i t).gqu.loads = t.gqu.loads) := by
  refine ⟨fun c r car released terminal => ?_, fun away => ?_⟩
  · rw [terminalOpening_empties ((atTerminal_congr lgp pairs).2 ⟨car, r, released, terminal⟩)]
  · rw [terminalOpening_elsewhere fun c h => ?_]
    obtain ⟨car, r, released, terminal⟩ := (atTerminal_congr lgp pairs).1 h
    exact not_or.2 (away c r car released) terminal

end Sys2Proof.Machine
end

section

namespace Sys2Proof.Machine

/-! ### Close demands after an entry to OPEN (06 R99, R103) -/

variable {s : State} {c : Car} {r : Released} {d : DoorSet} {i : Nat}

/-- With no close demand set nothing closes. -/
theorem closeBoth_rests (none : ∀ c r, (s.dc.pairs.car c).released = some r → r.closeDemand = false) :
    closeBoth s = s := by
  have rests : ∀ c, closeIfDue c s = s := fun c => closeIfDue_rests fun r released due => by
    simpa [due.1] using none c r released
  rw [closeBoth, rests, rests]

/-- A close demand of the only released pair that is due sends its sets (06 R103). -/
theorem closeBoth_sends (released : (s.dc.pairs.car c).released = some r)
    (alone : ∀ c', c' ≠ c → (s.dc.pairs.car c').released = none) (due : s.closeDue c r)
    (clear : s.pairClear c r.stop) :
    closeBoth s = forEach startClosing ((judgeDwell s).closable c r.stop) (judgeDwell s) := by
  have sends := closeIfDue_sends released due clear
  have pairs : (closeIfDue c s).dc.pairs = s.dc.pairs := by
    rw [sends, (closable_moves _ c r.stop).pairs, judgeDwell_pairs]
  have rests : ∀ c' t, c' ≠ c → t.dc.pairs = s.dc.pairs → closeIfDue c' t = t := fun c' t other same =>
    closeIfDue_rests fun r' h => by
      rw [same, alone c' other] at h
      cases h
  rw [closeBoth]
  cases c with
  | a => rw [rests .b _ (by decide) pairs, sends]
  | b => rw [rests .a s (by decide) rfl, sends]

/-- Door set i after it entered OPEN. -/
theorem enterOpen_set (proven : Bool) (found : s.dc.sets[i]? = some d) : (enterOpen i proven s).dc.sets[i]?
    = some { d with state := .open, proof := none, lastProof := if proven then some s.tt.clock else d.lastProof } := by
  rw [enterOpen_sets, getElem?_updateAt, if_pos rfl, found]
  rfl

/-- The other door sets after set i entered OPEN. -/
theorem enterOpen_other {j : Nat} (proven : Bool) (other : j ≠ i) :
    (enterOpen i proven s).dc.sets[j]? = s.dc.sets[j]? := by
  rw [enterOpen_sets, getElem?_updateAt, if_neg other]

/-- A set that enters OPEN under the close demand of the only released pair is sent on to CLOSING with the OPEN and
UNPROVEN sets of the pair (06 R99, R103). -/
theorem enterOpen_closes (proven : Bool) (found : s.dc.sets[i]? = some d)
    (released : (s.dc.pairs.car c).released = some r) (mem : i ∈ s.pairSets c r.stop) (demand : r.closeDemand = true)
    (alone : ∀ c', c' ≠ c → (s.dc.pairs.car c').released = none) (clear : s.pairClear c r.stop)
    (rest : ∀ j ∈ s.pairSets c r.stop, j ≠ i → s.doorState? j = some .open ∨ s.doorState? j = some .locked ∨
      s.doorState? j = some .unproven) :
    (closeBoth (enterOpen i proven s)).dc.sets[i]? = some { d with
      state := .closing, command := .close, proof := some { start := s.tt.clock, due := s.now + 6000000 },
      lastProof := if proven then some s.tt.clock else d.lastProof } ∧
    (∀ j ∈ s.pairSets c r.stop, j = i ∨ s.doorState? j = some .open ∨ s.doorState? j = some .unproven →
      (closeBoth (enterOpen i proven s)).doorState? j = some .closing) ∧
    (closeBoth (enterOpen i proven s)).gqu = (enterOpen i proven s).gqu ∧
    (closeBoth (enterOpen i proven s)).ft = s.ft ∧
    (closeBoth (enterOpen i proven s)).dc.inputs = s.dc.inputs := by
  have stand := enterOpen_stands s i proven
  have opened := enterOpen_set proven found
  have other := fun j => enterOpen_other (s := s) (i := i) (j := j) proven
  have ft := enterOpen_ft s i proven
  generalize enterOpen i proven s = t at *
  have pair := stand.pairSets c r.stop
  have due : t.closeDue c r := by
    refine ⟨demand, ⟨i, pair ▸ mem, doorState_of opened⟩, fun j mem' => ?_⟩
    by_cases same : j = i
    · simp [same, doorState_of opened]
    · have := rest j (pair ▸ mem') same
      rw [State.doorState?, other j same, ← State.doorState?]
      rcases this with h | h | h <;> simp [h]
  rw [closeBoth_sends (stand.pairs ▸ released) (by simpa only [stand.pairs] using alone) due
    ((pairClear_congr stand.lgp stand.inputs).2 clear)]
  have lgp : (judgeDwell t).lgp = s.lgp := (judgeDwell_lgp t).trans stand.lgp
  have sent : ∀ j ∈ s.pairSets c r.stop, ∀ x, (judgeDwell t).dc.sets[j]? = some x → x.state ≠ .locked →
      x.state ≠ .closing → (forEach startClosing ((judgeDwell t).closable c r.stop) (judgeDwell t)).dc.sets[j]?
        = some (x.sentClosing s.now s.tt.clock) := fun j mem x isx notLocked notClosing => by
    rw [closable_set (pairSets_congr lgp c r.stop ▸ mem) isx, if_neg (not_or.2 ⟨notLocked, notClosing⟩),
      outer_now (judgeDwell_outer t), judgeDwell_tt, stand.now, stand.tt]
  have self := sent i mem _ (by rw [judgeDwell_sets, opened]) (by simp) (by simp)
  refine ⟨self, fun j mem' state => ?_, ?_, ?_, ?_⟩
  · by_cases same : j = i
    · rw [same, doorState_of self]
      rfl
    · obtain ⟨x, found', notLocked, notClosing⟩ : ∃ x, s.dc.sets[j]? = some x ∧ x.state ≠ .locked ∧
          x.state ≠ .closing := by
        rcases state.resolve_left same with h | h <;> obtain ⟨x, found', eq⟩ := set_of_doorState h <;>
          exact ⟨x, found', by simp [eq]⟩
      rw [doorState_of (sent j mem' x (by rw [judgeDwell_sets, other j same, found']) notLocked notClosing)]
      rfl
  · simp [forEach_gqu]
  · simp [forEach_ft, ft]
  · rw [(closable_moves _ c r.stop).inputs, judgeDwell_inputs, stand.inputs]

end Sys2Proof.Machine
end

section

namespace Sys2Proof.Machine

/-! ### Proofs that expire (06 R99, R104) -/

variable {s q : State} {c : Car} {r : Released} {d : DoorSet} {p : Proof} {i : Nat}

/-- The command of an open proof that runs is its expiry. -/
theorem happens_openProof {n : Fin 8} (found : s.dc.sets[n.val]? = some d) (proof : d.proof = some p)
    (state : d.state = .opening) : Happens (.openProofExpiry n) s (openProofExpires n.val (passUntil p.due s)) :=
  happens_expire (due := s.doorDue n.val .opening) rfl (by simp [State.doorDue, found, state, proof])

/-- The command of a close proof that runs is its expiry. -/
theorem happens_closeProof {n : Fin 8} (found : s.dc.sets[n.val]? = some d) (proof : d.proof = some p)
    (state : d.state = .closing) : Happens (.closeProofExpiry n) s (closeProofExpires n.val (passUntil p.due s)) :=
  happens_expire (due := s.doorDue n.val .closing) rfl (by simp [State.doorDue, found, state, proof])

/-- A DOOR_TIMEOUT leaves the doors, the time and the line alone. -/
theorem timeout_stands (i : Nat) (q : State) : DoorsStand q (raise ⟨.doorTimeout, i⟩ q) :=
  ⟨outer_now (raise_outer _ _), raise_tt _ _, raise_lgp _ _, by simp, by simp, by simp⟩

/-- What R144 says of the loads of t, by the pairs of s and from the loads of q. -/
def LoadsByTerminal (s q : State) (i : Nat) (t : State) : Prop :=
  (∀ c r, i = c.index → (s.dc.pairs.car c).released = some r → r.stop = 0 ∨ r.stop + 1 = s.stations →
    t.gqu.loads = q.gqu.loads.setCar c (some 0)) ∧
  ((∀ c r, i = c.index → (s.dc.pairs.car c).released = some r → r.stop ≠ 0 ∧ r.stop + 1 ≠ s.stations) →
    t.gqu.loads = q.gqu.loads)

/-- The loads after a set entered OPEN by a proof that expired. -/
theorem enterOpen_loadsByTerminal {x : State} (lgp : x.lgp = s.lgp) (pairs : x.dc.pairs = s.dc.pairs)
    (loads : x.gqu.loads = q.gqu.loads) (f : DoorSet → DoorSet) :
    LoadsByTerminal s q i (terminalOpening i (modDoor i f x)) := by
  have := terminalOpening_loads (s := s) (t := modDoor i f x) (i := i) lgp pairs
  rwa [modDoor_gqu, loads] at this

/-- The pair records of a close proof that expires: the pair of the set waits for DOORS CLOSE (06 R104). -/
theorem closeProofExpires_pair (pair : q.pairOf i = some c) (released : (q.dc.pairs.car c).released = some r) :
    ((closeProofExpires i q).dc.pairs.car c).released
      = some { r with closeDemand := false, closureStopped := true } := by
  simp [closeProofExpires, pair, released]

/-- What a close proof that expires does beside the pair records (06 R104). -/
theorem closeProofExpires_eq (i : Nat) (q : State) :
    (closeProofExpires i q).dc.sets = updateAt i (fun d => { d with state := .open, proof := none, command := .none })
      q.dc.sets ∧
    (closeProofExpires i q).ft = q.ft.raised ⟨.doorTimeout, i⟩ q.tt.clock ∧
    (closeProofExpires i q).gqu = (terminalOpening i (modDoor i (fun d => { d with state := .open, proof := none })
      (raise ⟨.doorTimeout, i⟩ q))).gqu := by
  simp only [closeProofExpires]
  split <;> simp [updateAt_updateAt, raise_ft]

/-- The pair of a set is read of the pair records and the line. -/
theorem pairOf_congr {t : State} (lgp : t.lgp = s.lgp) (pairs : t.dc.pairs = s.dc.pairs) (i : Nat) :
    t.pairOf i = s.pairOf i := by
  simp only [State.pairOf, pairs, pairSets_congr lgp]

/-- An open proof that expires with no close demand set (06 R99). -/
theorem openProofExpires_opens (dc : q.dc = s.dc) (lgp : q.lgp = s.lgp) (found : s.dc.sets[i]? = some d)
    (idle : ∀ c r, (s.dc.pairs.car c).released = some r → r.closeDemand = false) :
    (openProofExpires i q).dc.sets[i]? = some { d with state := .open, proof := none } ∧
    LoadsByTerminal s q i (openProofExpires i q) ∧
    (openProofExpires i q).ft = q.ft.raised ⟨.doorTimeout, i⟩ q.tt.clock := by
  have x := (timeout_stands i q).trans (enterOpen_stands (raise ⟨.doorTimeout, i⟩ q) i false)
  rw [openProofExpires, closeBoth_rests (by rw [x.pairs, dc]; exact idle)]
  refine ⟨?_, enterOpen_loadsByTerminal (by simp [lgp]) (by simp [dc]) (by simp) _, by simp [raise_ft]⟩
  rw [enterOpen_set false (by rw [raise_dc, dc, found])]
  rfl

/-- An open proof that expires under the close demand of the only released pair (06 R99, R103). -/
theorem openProofExpires_closes (dc : q.dc = s.dc) (lgp : q.lgp = s.lgp) (found : s.dc.sets[i]? = some d)
    (released : (s.dc.pairs.car c).released = some r) (mem : i ∈ s.pairSets c r.stop) (demand : r.closeDemand = true)
    (alone : ∀ c', c' ≠ c → (s.dc.pairs.car c').released = none) (clear : s.pairClear c r.stop)
    (rest : ∀ j ∈ s.pairSets c r.stop, j ≠ i → s.doorState? j = some .open ∨ s.doorState? j = some .locked ∨
      s.doorState? j = some .unproven) :
    (openProofExpires i q).dc.sets[i]? = some { d with
      state := .closing, command := .close, proof := some { start := q.tt.clock, due := q.now + 6000000 } } ∧
    LoadsByTerminal s q i (openProofExpires i q) ∧
    (openProofExpires i q).ft = q.ft.raised ⟨.doorTimeout, i⟩ q.tt.clock := by
  have x := timeout_stands i q
  have raised : (raise ⟨.doorTimeout, i⟩ q).dc = s.dc := (raise_dc _ _).trans dc
  have line : (raise ⟨.doorTimeout, i⟩ q).lgp = s.lgp := (raise_lgp _ _).trans lgp
  have pair := pairSets_congr line c r.stop
  obtain ⟨set, -, gqu, ft, -⟩ := enterOpen_closes (s := raise ⟨.doorTimeout, i⟩ q) (i := i) false
    (raised ▸ found) (raised ▸ released) (pair ▸ mem) demand (raised ▸ alone)
    ((pairClear_congr line (congrArg Dc.inputs raised)).2 clear)
    (by simpa only [pair, State.doorState?, raised] using rest)
  rw [openProofExpires]
  refine ⟨?_, ?_, ft.trans (raise_ft _ _)⟩
  · rw [set, x.now, x.tt]
    rfl
  · rw [LoadsByTerminal, gqu]
    exact enterOpen_loadsByTerminal line (by rw [raised]) (by simp) _

/-- A close proof that expires (06 R104). -/
theorem closeProofExpires_opens (dc : q.dc = s.dc) (lgp : q.lgp = s.lgp) (found : s.dc.sets[i]? = some d) :
    (closeProofExpires i q).dc.sets[i]? = some { d with state := .open, proof := none, command := .none } ∧
    LoadsByTerminal s q i (closeProofExpires i q) ∧
    (closeProofExpires i q).ft = q.ft.raised ⟨.doorTimeout, i⟩ q.tt.clock ∧
    ∀ c r, s.pairOf i = some c → (s.dc.pairs.car c).released = some r →
      ((closeProofExpires i q).dc.pairs.car c).released
        = some { r with closeDemand := false, closureStopped := true } := by
  obtain ⟨sets, ft, gqu⟩ := closeProofExpires_eq i q
  refine ⟨?_, ?_, ft, fun c r pair released =>
    closeProofExpires_pair (pairOf_congr lgp (congrArg Dc.pairs dc) i ▸ pair) (dc ▸ released)⟩
  · rw [sets, getElem?_updateAt, if_pos rfl, dc, found]
    rfl
  · rw [LoadsByTerminal, gqu]
    exact enterOpen_loadsByTerminal (by simp [lgp]) (by simp [dc]) (by simp) _

end Sys2Proof.Machine
end

section

namespace Sys2Proof.Machine

/-! ### The dwell (06 R100, R103) -/

variable {s q t : State} {c : Car} {r : Released} {i : Nat}

/-- Every set of every released pair is OPEN, and some pair is released (06 R100). -/
theorem releasedOpen_iff : s.releasedOpen = true ↔ (∃ c, (s.dc.pairs.car c).released ≠ none) ∧
    ∀ c r, (s.dc.pairs.car c).released = some r → ∀ i ∈ s.pairSets c r.stop, s.doorState? i = some .open := by
  have cars : ∀ p : Car → Prop, ((∀ c, p c) ↔ p .a ∧ p .b) ∧ ((∃ c, p c) ↔ p .a ∨ p .b) := fun p =>
    ⟨⟨fun h => ⟨h .a, h .b⟩, fun h c => by cases c; exacts [h.1, h.2]⟩,
      ⟨fun ⟨c, h⟩ => by cases c; exacts [.inl h, .inr h], fun h => h.elim (⟨_, ·⟩) (⟨_, ·⟩)⟩⟩
  rw [(cars _).1, (cars _).2]
  cases fst : s.dc.pairs.fst.released <;> cases snd : s.dc.pairs.snd.released <;>
    simp [State.releasedOpen, Two.car, fst, snd]

/-- The judgement of an IDLE dwell (06 R100). -/
theorem judgeDwell_idle (idle : s.dc.dwell = .idle) :
    (s.mau.mode = .automatic → s.releasePending = false → s.releasedOpen = true → judgeDwell s
      = markAll [.door 0, .door 1] { s with dc := { s.dc with
          dwell := .running s.tt.clock (s.now + s.dc.dwellS * 1000000) } }) ∧
    (s.mau.mode ≠ .automatic ∨ s.releasePending = true ∨ s.releasedOpen = false → judgeDwell s = s) := by
  refine ⟨fun auto pending opened => ?_, fun no => ?_⟩
  · simp only [judgeDwell, idle, auto, pending, opened, and_self, if_true, setDwell]
    rfl
  · simp only [judgeDwell, idle]
    rw [if_neg]
    rintro ⟨auto, pending, opened⟩
    rcases no with h | h | h <;> simp_all

/-- The judgement of a dwell that has started (06 R100). -/
theorem judgeDwell_started (started : s.dc.dwell ≠ .idle) :
    (s.dc.pairs.fst.released = none → s.dc.pairs.snd.released = none → judgeDwell s
      = markAll [.door 0, .door 1] { s with dc := { s.dc with dwell := .idle } }) ∧
    (s.dc.pairs.fst.released ≠ none ∨ s.dc.pairs.snd.released ≠ none → judgeDwell s = s) := by
  refine ⟨fun fst snd => ?_, fun some => ?_⟩
  · have empty : (s.dc.pairs.fst.released.isNone && s.dc.pairs.snd.released.isNone) = true := by simp [fst, snd]
    cases state : s.dc.dwell with
    | idle => exact absurd state started
    | running =>
      simp only [judgeDwell, state, empty, if_true, setDwell]
      rfl
    | expired =>
      simp only [judgeDwell, state, empty, if_true, setDwell]
      rfl
  · rcases some with h | h <;> obtain ⟨r, released⟩ := Option.ne_none_iff_exists'.1 h
    · exact judgeDwell_stands (c := .a) started released
    · exact judgeDwell_stands (c := .b) started released

end Sys2Proof.Machine
end

section

namespace Sys2Proof.Machine

/-! ### The dwell expiry (06 R100, R103) -/

variable {s t u : State} {c : Car} {r : Released} {i : Nat}

/-- Car c's pair, if it is released, is clear by its inputs. -/
def State.carClear (s : State) (c : Car) : Prop :=
  ∀ r, (s.dc.pairs.car c).released = some r → s.pairClear c r.stop

/-- From s to t at most car c's pair and its door sets have changed. -/
structure PairActs (c : Car) (s t : State) : Prop where
  now : t.now = s.now
  tt : t.tt = s.tt
  lgp : t.lgp = s.lgp
  inputs : t.dc.inputs = s.dc.inputs
  dwell : t.dc.dwell = s.dc.dwell
  other : ∀ c', c' ≠ c → t.dc.pairs.car c' = s.dc.pairs.car c'
  outside : ∀ i, (∀ r, (s.dc.pairs.car c).released = some r → i ∉ s.pairSets c r.stop) →
    t.dc.sets[i]? = s.dc.sets[i]?

theorem PairActs.refl (c : Car) (s : State) : PairActs c s s :=
  ⟨rfl, rfl, rfl, rfl, rfl, fun _ _ => rfl, fun _ _ => rfl⟩

/-- What the close demand of the dwell expiry makes of the sets of car c's pair, released with the record r (06 R100,
R103). -/
structure ClosedAtDwell (c : Car) (r : Released) (s t : State) : Prop where
  sent : (∀ i ∈ s.pairSets c r.stop, s.doorState? i ≠ some .closing) →
    ∀ i ∈ s.pairSets c r.stop, ∀ d, s.dc.sets[i]? = some d →
      t.dc.sets[i]? = some (if d.state = .locked then d else d.sentClosing s.now s.tt.clock)
  waits : (∃ i ∈ s.pairSets c r.stop, s.doorState? i = some .closing) →
    ∀ i ∈ s.pairSets c r.stop, t.dc.sets[i]? = s.dc.sets[i]?

/-- The dwell expiry may send a pair none of whose sets is CLOSING. -/
theorem readyToClose_iff : s.readyToClose c r.stop = true ↔
    ∀ i ∈ s.pairSets c r.stop, s.doorState? i ≠ some .closing := by
  simp only [State.readyToClose, List.all_eq_true, decide_eq_true_eq]
  exact ⟨fun h i mem state => h i (mem_moving.2 ⟨mem, _, state, by simp⟩) state, fun h i mem => h i (mem_moving.1 mem).1⟩

/-- The state in which the dwell expiry sends a pair: its close demand is set (06 R100). -/
def demanded (c : Car) (s : State) : State := modReleased c (fun x => { x with closeDemand := true }) s

/-- A close demand set at the dwell expiry acts on its pair alone. -/
theorem demanded_acts (c : Car) (s : State) : PairActs c s (demanded c s) :=
  ⟨outer_now (modReleased_outer _ _ _), modReleased_tt _ _ _, modReleased_lgp _ _ _, modReleased_inputs _ _ _,
    modReleased_dwell _ _ _, fun _ other => modReleased_other _ _ other, fun _ _ => by simp [demanded]⟩

/-- A close demand set at the dwell expiry leaves the door sets. -/
theorem demanded_sets (c : Car) (s : State) : (demanded c s).dc.sets = s.dc.sets := modReleased_sets _ _ _

/-- A clear pair at the dwell expiry: the demand is set, and its sets go where none is CLOSING (06 R103). -/
theorem closeAtDwell_eq (released : (s.dc.pairs.car c).released = some r) (clear : s.pairClear c r.stop) :
    closeAtDwell c s = if s.readyToClose c r.stop then
      forEach startClosing ((demanded c s).closable c r.stop) (demanded c s) else demanded c s := by
  have acts := demanded_acts c s
  have same : (demanded c s).closable c r.stop = s.closable c r.stop :=
    closable_congr acts.lgp fun i => by simp [State.doorState?, demanded_sets]
  have rest := closeIfDue_rests (not_closeDue_sent (s := demanded c s) (c := c) (k := r.stop) fun r' h => by
    rw [demanded, modReleased_released, released] at h
    rw [← Option.some.inj h])
  simp only [closeAtDwell, released]
  change (if _ then closeIfDue c (sendClosing c _ (demanded c s)) else demanded c s) = _
  rw [sendClosing_closable clear same.symm acts.lgp acts.inputs, rest]

/-- The dwell expiry acts on a clear pair alone. -/
theorem closeAtDwell_acts (clear : s.carClear c) : PairActs c s (closeAtDwell c s) := by
  cases released : (s.dc.pairs.car c).released with
  | none =>
    simp only [closeAtDwell, released]
    exact .refl c s
  | some r =>
    have acts := demanded_acts c s
    have moved := closable_moves (demanded c s) c r.stop
    rw [closeAtDwell_eq released (clear r released)]
    split
    · refine ⟨moved.now.trans acts.now, moved.tt.trans acts.tt, moved.lgp.trans acts.lgp,
        moved.inputs.trans acts.inputs, moved.dwell.trans acts.dwell, fun c' other => ?_, fun i out => ?_⟩
      · rw [moved.pairs, acts.other c' other]
      · rw [moved.outside fun mem => out r released (pairSets_congr acts.lgp c r.stop ▸ (mem_closable.1 mem).1),
          demanded_sets]
    · exact acts

/-- What the dwell expiry makes of a clear pair (06 R100, R103). -/
theorem closeAtDwell_closes (released : (s.dc.pairs.car c).released = some r) (clear : s.pairClear c r.stop) :
    ((closeAtDwell c s).dc.pairs.car c).released = some { r with closeDemand := true } ∧
      ClosedAtDwell c r s (closeAtDwell c s) := by
  have acts := demanded_acts c s
  have moved := closable_moves (demanded c s) c r.stop
  have record : ((demanded c s).dc.pairs.car c).released = some { r with closeDemand := true } := by
    rw [demanded, modReleased_released, released]
    rfl
  rw [closeAtDwell_eq released clear]
  refine ⟨?_, fun idle i mem d found => ?_, fun busy i mem => ?_⟩
  · split
    · rw [moved.pairs, record]
    · exact record
  · rw [if_pos (readyToClose_iff.2 idle), closable_set (pairSets_congr acts.lgp c r.stop ▸ mem)
      ((demanded_sets c s).symm ▸ found), acts.now, acts.tt]
    have notClosing : d.state ≠ .closing := fun e => idle i mem (by rw [doorState_of found, e])
    simp [notClosing]
  · rw [if_neg (mt readyToClose_iff.1 fun idle => busy.elim fun j h => idle j h.1 h.2), demanded_sets]

/-- An expired dwell acts on the pairs one after the other (06 R100). -/
def closeUnheld (p : Bool) (c : Car) (s : State) : State := if p then closeAtDwell c s else s

theorem closeUnheld_acts (p : Bool) (clear : s.carClear c) : PairActs c s (closeUnheld p c s) := by
  cases p
  · exact .refl c s
  · exact closeAtDwell_acts clear

/-- A pair that is clear stays so while the dwell expiry acts on another. -/
theorem PairActs.clear {c' : Car} (acts : PairActs c s t) (other : c' ≠ c) (clear : s.carClear c') : t.carClear c' :=
  fun r released => (pairClear_congr acts.lgp acts.inputs).2 (clear r (acts.other c' other ▸ released))

/-- The released pairs of two cars are at different stations, that of car c with the record r. -/
def State.apart (s : State) (c : Car) (r : Released) : Prop :=
  ∀ c' r', c' ≠ c → (s.dc.pairs.car c').released = some r' → s.stationOf c' r'.stop ≠ s.stationOf c r.stop

/-- The sets of a pair stand while the dwell expiry acts on a pair at another station. -/
theorem PairActs.sets {c' : Car} (acts : PairActs c' s t) (other : c' ≠ c) (apart : s.apart c r)
    (mem : i ∈ s.pairSets c r.stop) : t.dc.sets[i]? = s.dc.sets[i]? :=
  acts.outside i fun r' released => pairSets_apart other (apart c' r' other released) mem

/-- What becomes of a pair stands while the dwell expiry acts on a pair at another station afterwards. -/
theorem ClosedAtDwell.after {c' : Car} (closed : ClosedAtDwell c r s u) (first : PairActs c s u)
    (acts : PairActs c' u t) (other : c' ≠ c) (apart : s.apart c r) : ClosedAtDwell c r s t := by
  have apart' : u.apart c r := fun c₁ r₁ ne released => by
    simpa only [stationOf_congr first.lgp] using apart c₁ r₁ ne (first.other c₁ ne ▸ released)
  have stands := fun i (mem : i ∈ s.pairSets c r.stop) =>
    acts.sets other apart' (pairSets_congr first.lgp c r.stop ▸ mem)
  exact ⟨fun idle i mem d found => (stands i mem).trans (closed.sent idle i mem d found),
    fun busy i mem => (stands i mem).trans (closed.waits busy i mem)⟩

/-- What becomes of a pair is what its sets say before the dwell expiry acts on a pair at another station. -/
theorem ClosedAtDwell.before {c' : Car} (closed : ClosedAtDwell c r u t) (acts : PairActs c' s u)
    (other : c' ≠ c) (apart : s.apart c r) : ClosedAtDwell c r s t := by
  have stands := fun i (mem : i ∈ s.pairSets c r.stop) => acts.sets other apart mem
  have states := fun i (mem : i ∈ s.pairSets c r.stop) =>
    show u.doorState? i = s.doorState? i by rw [State.doorState?, stands i mem, State.doorState?]
  have pair := pairSets_congr acts.lgp c r.stop
  refine ⟨fun idle i mem d found => ?_, fun ⟨j, memj, busy⟩ i mem => ?_⟩
  · rw [← acts.now, ← acts.tt]
    exact closed.sent (fun j memj => states j (pair ▸ memj) ▸ idle j (pair ▸ memj)) i (pair ▸ mem) d
      ((stands i mem).trans found)
  · rw [← stands i mem]
    exact closed.waits ⟨j, pair ▸ memj, (states j memj).trans busy⟩ i (pair ▸ mem)

/-- The dwell expiry acts on the pairs that are not held, one after the other (06 R100). -/
theorem dwellExpires_eq (s : State) : dwellExpires s =
    closeUnheld (s.unheld .b) .b (closeUnheld (s.unheld .a) .a (setDwell .expired s)) := rfl

/-- The state in which the dwell expiry acts on the pairs, beside its dwell. -/
theorem expired_clear {c : Car} (clear : s.carClear c) : (setDwell .expired s).carClear c := fun r released => by
  rw [setDwell_dc] at released
  exact (pairClear_congr (setDwell_lgp s _) (by rw [setDwell_dc])).2 (clear r released)

/-- The dwell is EXPIRED after its expiry (06 R100). -/
theorem dwellExpires_dwell (clear : ∀ c, s.carClear c) : (dwellExpires s).dc.dwell = .expired := by
  have first := closeUnheld_acts (s.unheld .a) (expired_clear (clear .a))
  have second := closeUnheld_acts (s.unheld .b) (first.clear (by decide) (expired_clear (clear .b)))
  rw [dwellExpires_eq, second.dwell, first.dwell, setDwell_dc]

/-- What the dwell expiry makes of a clear pair that is not held (06 R100, R103). -/
theorem dwellExpires_closes (clear : ∀ c, s.carClear c) (unheld : s.unheld c = true)
    (released : (s.dc.pairs.car c).released = some r) :
    ((dwellExpires s).dc.pairs.car c).released = some { r with closeDemand := true } ∧
    (s.apart c r → ClosedAtDwell c r (setDwell .expired s) (dwellExpires s)) := by
  have clear' := fun c => expired_clear (clear c)
  have released' : ((setDwell .expired s).dc.pairs.car c).released = some r := by rw [setDwell_dc]; exact released
  have apart' : s.apart c r → (setDwell .expired s).apart c r := fun apart c' r' other h => by
    rw [setDwell_dc] at h
    simpa only [stationOf_congr (setDwell_lgp s _)] using apart c' r' other h
  have first := closeUnheld_acts (s.unheld .a) (clear' .a)
  have clearB := first.clear (c' := .b) (by decide) (clear' .b)
  have second := closeUnheld_acts (s.unheld .b) clearB
  rw [dwellExpires_eq]
  cases c with
  | a =>
    obtain ⟨record, closed⟩ := closeAtDwell_closes released' (clear' .a r released')
    rw [unheld] at first second ⊢
    exact ⟨(congrArg _ (second.other .a (by decide))).trans record,
      fun apart => closed.after first second (by decide) (apart' apart)⟩
  | b =>
    have releasedB := (congrArg PairRec.released (first.other .b (by decide))).trans released'
    obtain ⟨record, closed⟩ := closeAtDwell_closes releasedB (clearB r releasedB)
    rw [unheld]
    exact ⟨record, fun apart => closed.before first (by decide) (apart' apart)⟩

/-- The dwell expiry changes the dwell alone while every released pair is held (06 R100). -/
theorem dwellExpires_held (a : s.unheld .a = false) (b : s.unheld .b = false) :
    dwellExpires s = setDwell .expired s := by
  simp only [dwellExpires, a, b, Bool.false_eq_true, if_false]

/-- Which pairs are held is read of the door control and the line. -/
theorem unheld_congr (dc : t.dc = s.dc) (lgp : t.lgp = s.lgp) (c : Car) : t.unheld c = s.unheld c := by
  simp only [State.unheld, dc, pairSets_congr lgp]

/-- Settles O54: each proof by its expiry, the judgement of the dwell by its state, and the dwell expiry pair by
pair. -/
theorem doorProofsAndTheDwellExpire : Obligations.DoorProofsAndTheDwellExpire := by
  intro s
  refine ⟨?_, releasedOpen_iff, judgeDwell_idle, judgeDwell_started, ?_⟩
  · rintro n d p q terminal found proof rfl terminal_iff
    have dc := passUntil_dc s p.due
    have lgp := passUntil_lgp s p.due
    refine ⟨fun opening idle => ⟨_, happens_openProof found proof opening, ?_⟩,
      fun opening c r released mem demand alone clear rest => ⟨_, happens_openProof found proof opening, ?_⟩,
      fun closing => ⟨_, happens_closeProof found proof closing, ?_⟩⟩
    · rw [terminal_iff]
      exact openProofExpires_opens dc lgp found idle
    · rw [terminal_iff]
      exact openProofExpires_closes dc lgp found released mem demand alone clear rest
    · rw [terminal_iff]
      exact closeProofExpires_opens dc lgp found
  · rintro start u q running rfl
    have dc := passUntil_dc s u
    have lgp := passUntil_lgp s u
    have happens : Happens .dwellExpiry s (dwellExpires (passUntil u s)) :=
      happens_expire (due := s.dwellDue) rfl (by simp [State.dwellDue, running])
    generalize passUntil u s = q at *
    have held := unheld_congr dc lgp
    refine ⟨fun a b => ?_, fun clear => ⟨_, happens, ?_⟩⟩
    · rw [dwellExpires_held ((held .a).trans a) ((held .b).trans b), setDwell, if_neg (by simp [dc, running])] at happens
      exact happens
    · have clear' : ∀ c, q.carClear c := fun c r released =>
        (pairClear_congr lgp (congrArg Dc.inputs dc)).2 (clear c r (dc ▸ released))
      refine ⟨dwellExpires_dwell clear', fun c r unheld released => ?_⟩
      obtain ⟨record, closes⟩ := dwellExpires_closes clear' ((held c).trans unheld) (dc ▸ released)
      refine ⟨record, fun apart => ?_⟩
      have closed := closes fun c' r' other h => by
        simpa only [stationOf_congr lgp] using apart c' r' other (dc ▸ h)
      have sets : (setDwell .expired q).dc.sets = s.dc.sets := by rw [setDwell_dc, dc]
      have pair : (setDwell .expired q).pairSets c r.stop = s.pairSets c r.stop :=
        pairSets_congr ((setDwell_lgp q _).trans lgp) c r.stop
      obtain ⟨sent, waits⟩ := closed
      simp only [pair, State.doorState?, sets, outer_now (setDwell_outer q _), setDwell_tt] at sent waits
      exact ⟨sent, waits⟩

end Sys2Proof.Machine
end

section

namespace Sys2Proof.Machine

/-! ### What reports alone change (06 R94; 03 R62) -/

/-- The inputs of the door sets and the car lines, which reports alone change. -/
def State.reported (s : State) : List DoorInputs × Two CarLine := (s.dc.inputs, s.hc.carLine)

section

variable (s : State)

@[simp] theorem raise_reported (k : FaultKey) : (raise k s).reported = s.reported := by simp [State.reported]
@[simp] theorem endCondition_reported (k : FaultKey) : (endCondition k s).reported = s.reported := rfl
@[simp] theorem modDoor_reported (i : Nat) (f : DoorSet → DoorSet) : (modDoor i f s).reported = s.reported := rfl
@[simp] theorem modPair_reported (c : Car) (f : PairRec → PairRec) : (modPair c f s).reported = s.reported := rfl
@[simp] theorem modReleased_reported (c : Car) (f : Released → Released) :
    (modReleased c f s).reported = s.reported := by
  simp [State.reported]
@[simp] theorem commandDoor_reported (i : Nat) (x : DoorCommand) : (commandDoor i x s).reported = s.reported := by
  simp [State.reported]
@[simp] theorem boardingReopened_reported (i : Nat) : (boardingReopened i s).reported = s.reported := by
  simp [State.reported]
@[simp] theorem boardingShut_reported (i : Nat) : (boardingShut i s).reported = s.reported := by
  simp [State.reported]
@[simp] theorem judgeDwell_reported : (judgeDwell s).reported = s.reported := by simp [State.reported]
@[simp] theorem enterOpen_reported (i : Nat) (proven : Bool) : (enterOpen i proven s).reported = s.reported := by
  simp [State.reported, (enterOpen_stands s i proven).inputs]
@[simp] theorem enterOpening_reported (i : Nat) : (enterOpening i s).reported = s.reported := by
  simp [State.reported, (enterOpening_stands s i).inputs]
@[simp] theorem startClosing_reported (i : Nat) : (startClosing i s).reported = s.reported := by
  simp [State.reported, (startClosing_stands s i).inputs]
@[simp] theorem countObstruction_reported (i : Nat) : (countObstruction i s).reported = s.reported := rfl
@[simp] theorem raiseObstructed_reported (i : Nat) : (raiseObstructed i s).reported = s.reported := by
  simp only [raiseObstructed]; (repeat' split) <;> simp
/-- Operations that leave the reports leave them one after the other. -/
theorem forEach_reported {f : Nat → State → State} (hf : ∀ i t, (f i t).reported = t.reported) :
    ∀ l s, (forEach f l s).reported = s.reported
  | [], _ => rfl
  | i :: is, s => by rw [forEach, forEach_reported hf is, hf]
@[simp] theorem setHold_reported (c : Car) (k : Nat) (v : Bool) : (setHold c k v s).reported = s.reported :=
  forEach_reported (fun i t => modDoor_reported t i _) _ _
@[simp] theorem emptyPair_reported (c : Car) : (emptyPair c s).reported = s.reported := by
  simp only [emptyPair]; (repeat' split) <;> simp
@[simp] theorem emptyPairs_reported : (emptyPairs s).reported = s.reported := by simp [emptyPairs]
@[simp] theorem enterLocked_reported (i : Nat) : (enterLocked i s).reported = s.reported := by
  simp only [enterLocked]; split <;> simp
@[simp] theorem enterUnproven_reported (i : Nat) : (enterUnproven i s).reported = s.reported := by
  simp [enterUnproven]
@[simp] theorem obstruct_reported (c : Car) (is : List Nat) : (obstruct c is s).reported = s.reported := by
  simp only [obstruct]; (repeat' split) <;> simp [forEach_reported, forEach_reported fun i t => countObstruction_reported t i]
@[simp] theorem obstructAlone_reported (i : Nat) : (obstructAlone i s).reported = s.reported := by
  simp [obstructAlone]
@[simp] theorem sendClosing_reported (c : Car) (is : List Nat) : (sendClosing c is s).reported = s.reported := by
  simp only [sendClosing]; split <;> simp [forEach_reported]
@[simp] theorem closeWhileDue_reported (c : Car) : ∀ n s, (closeWhileDue c n s).reported = s.reported
  | 0, _ => rfl
  | n + 1, s => by
    simp only [closeWhileDue]; (repeat' split) <;> simp [closeWhileDue_reported c n]
@[simp] theorem closeIfDue_reported (c : Car) : (closeIfDue c s).reported = s.reported := closeWhileDue_reported c 8 s
@[simp] theorem closeBoth_reported : (closeBoth s).reported = s.reported := by simp [closeBoth]

end

/-! ### An input that takes a value (06 R94) -/

/-- The inputs of a set with one of them at v. -/
def DoorInputs.put (x : DoorInput) (v : Bool) (y : DoorInputs) : DoorInputs :=
  match x with
  | .closedAndLocked => { y with closed := v }
  | .fullyOpen => { y with opened := v }
  | .obstruction => { y with obstructed := v }

/-- The value of an input. -/
def DoorInputs.value (x : DoorInput) (y : DoorInputs) : Bool :=
  match x with
  | .closedAndLocked => y.closed
  | .fullyOpen => y.opened
  | .obstruction => y.obstructed

/-- What a change of an input does (06 R94). -/
def inputChanged (i : Nat) (x : DoorInput) (v : Bool) (s : State) : State :=
  match x with
  | .closedAndLocked => closedChanged i v s
  | .fullyOpen => openedChanged i v s
  | .obstruction => obstructionChanged i v s

variable {s : State} {c : Car} {i : Nat} {x : DoorInput} {v : Bool}

/-- An input is a change when it differs from the value held (06 R94). -/
theorem doorInput_eq (i : Nat) (x : DoorInput) (v : Bool) (s : State) :
    doorInput i x v s = if (s.doorIn i).value x = v then s else inputChanged i x v s := by
  cases x <;> rfl

/-- A change is recorded. -/
theorem inputChanged_reported (i : Nat) (x : DoorInput) (v : Bool) (s : State) :
    (inputChanged i x v s).reported = (modDoorIn i (DoorInputs.put x v) s).reported := by
  cases x
  · simp only [inputChanged, closedChanged]
    split
    · exact enterUnproven_reported _ i
    · exact enterLocked_reported _ i
    · exact enterLocked_reported _ i
    · rfl
  · simp only [inputChanged, openedChanged]
    split
    · exact (closeBoth_reported _).trans (enterOpen_reported _ i true)
    · rfl
  · simp only [inputChanged, obstructionChanged]
    split
    · exact (closeIfDue_reported _ _).trans (obstruct_reported _ _ _)
    · exact obstructAlone_reported _ i
    · rfl

/-- An input put at the value it has. -/
theorem put_value {y : DoorInputs} (h : y.value x = v) : y.put x v = y := by
  subst h
  cases x <;> rfl

/-- Nothing changes when an input reports the value held (06 R94). -/
theorem modDoorIn_put_same (same : (s.doorIn i).value x = v) : modDoorIn i (DoorInputs.put x v) s = s := by
  have inputs : updateAt i (DoorInputs.put x v) s.dc.inputs = s.dc.inputs := updateAt_id fun y found => put_value (by
    rw [← same, State.doorIn, List.getD_eq_getElem?_getD, found]
    rfl)
  rw [modDoorIn, State.modDc, inputs]

/-- An input is recorded, whatever its set does (06 R94). -/
theorem doorInput_reported (i : Nat) (x : DoorInput) (v : Bool) (s : State) :
    (doorInput i x v s).reported = (modDoorIn i (DoorInputs.put x v) s).reported := by
  rw [doorInput_eq]
  split
  · next same => rw [modDoorIn_put_same same]
  · exact inputChanged_reported i x v s

/-- An input to which its set does not answer is recorded, and that is all (06 R94). -/
theorem doorInput_recorded (still : inputChanged i x v s = modDoorIn i (DoorInputs.put x v) s) :
    doorInput i x v s = modDoorIn i (DoorInputs.put x v) s := by
  rw [doorInput_eq]
  split
  · next same => rw [modDoorIn_put_same same]
  · exact still

/-- A closed-and-locked input that its set does not answer to (06 R103, R106). -/
theorem closed_recorded (gained : s.doorState? i = some .closing ∨ s.doorState? i = some .unproven → v = false)
    (lost : s.doorState? i = some .locked → v = true) :
    doorInput i .closedAndLocked v s = modDoorIn i (DoorInputs.put .closedAndLocked v) s := by
  refine doorInput_recorded ?_
  simp only [inputChanged, closedChanged]
  split <;> simp_all
  rfl

/-- A fully-open input that its set does not answer to (06 R99). -/
theorem opened_recorded (h : s.doorState? i = some .opening → v = false) :
    doorInput i .fullyOpen v s = modDoorIn i (DoorInputs.put .fullyOpen v) s := by
  refine doorInput_recorded ?_
  simp only [inputChanged, openedChanged]
  split <;> simp_all
  rfl

/-- An obstruction input that its set does not answer to (06 R105). -/
theorem obstruction_recorded (h : s.doorState? i = some .closing → v = false) :
    doorInput i .obstruction v s = modDoorIn i (DoorInputs.put .obstruction v) s := by
  refine doorInput_recorded ?_
  simp only [inputChanged, obstructionChanged]
  split <;> simp_all
  rfl

/-- The inputs of a set after one of them took a value. -/
theorem doorIn_put (length : i < s.dc.inputs.length) :
    (modDoorIn i (DoorInputs.put x v) s).doorIn i = (s.doorIn i).put x v := by
  rw [State.doorIn, List.getD_eq_getElem?_getD, modDoorIn_inputs, getElem?_updateAt, if_pos rfl, State.doorIn,
    List.getD_eq_getElem?_getD, List.getElem?_eq_getElem length]
  rfl

/-- The inputs of the other sets after one of a set took a value. -/
theorem doorIn_put_other {j : Nat} (other : j ≠ i) :
    (modDoorIn i (DoorInputs.put x v) s).doorIn j = s.doorIn j := by
  simp [State.doorIn, List.getD_eq_getElem?_getD, getElem?_updateAt, other]

/-- The other inputs of every set after one of a set took a value. -/
theorem doorIn_put_value {y : DoorInput} (other : y ≠ x) (j : Nat) :
    ((modDoorIn i (DoorInputs.put x v) s).doorIn j).value y = (s.doorIn j).value y := by
  simp only [State.doorIn, List.getD_eq_getElem?_getD, modDoorIn_inputs, getElem?_updateAt]
  split
  · cases s.dc.inputs[j]? with
    | none => rfl
    | some z => cases x <;> cases y <;> simp_all [DoorInputs.value, DoorInputs.put]
  · rfl

end Sys2Proof.Machine
end

section

namespace Sys2Proof.Machine

/-! ### Boarding batches (08 R141, R142) -/

variable {s t : State} {c : Car} {r : Released} {d : DoorSet} {i k : Nat}

/-- A batch is fixed by the gate and queue unit, the line and the heading alone (08 R141). -/
theorem boardingClosed_gqu_congr (gqu : t.gqu = s.gqu) (lgp : t.lgp = s.lgp) (heading : t.hc.heading = s.hc.heading)
    (c : Car) (k : Nat) : (boardingClosed c k t).gqu = (boardingClosed c k s).gqu := by
  have dissolved := dissolveBatch_gqu_congr c gqu
  have place : queueIndex t.stations (t.stationOf c k) (t.headingOf c) =
      queueIndex s.stations (s.stationOf c k) (s.headingOf c) := by
    rw [stations_congr (congrArg Lgp.line lgp), stationOf_congr lgp]
    cases c <;> simp [State.headingOf, heading]
  have free : t.freeCapacity c = s.freeCapacity c := by simp only [State.freeCapacity, gqu]
  simp only [boardingClosed, place, free]
  split
  · exact dissolved
  · simp [modQueue, dissolved]

/-- The first n ADMITTED entries without a mark take one, place by place (08 R141). -/
theorem getElem?_markEntries (c : Car) : ∀ (n : Nat) (l : List Entry) (j : Nat) (e : Entry), l[j]? = some e →
    (markEntries c n l)[j]? = some (if e.admitted.isSome = true ∧ e.batch = none ∧
      ((l.take j).filter (fun y => y.admitted.isSome && y.batch.isNone)).length < n
      then { e with batch := some c } else e)
  | _, [], _, _, h => by simp at h
  | 0, _ :: _, _, _, h => by simp [markEntries, h]
  | n + 1, e :: es, 0, e', h => by
    obtain rfl : e = e' := by simpa using h
    simp only [markEntries]
    split <;> simp_all
  | n + 1, e :: es, j + 1, e', h => by
    have found : es[j]? = some e' := by simpa using h
    simp only [markEntries]
    split
    · next free =>
      simp [getElem?_markEntries c n es j e' found, free]
    · next other =>
      have skipped : (e.admitted.isSome && e.batch.isNone) = false := by
        rw [Bool.eq_false_iff]
        simpa using other
      simp [getElem?_markEntries c (n + 1) es j e' found, skipped]

/-- Marking entries leaves their number. -/
theorem length_markEntries (c : Car) : ∀ (n : Nat) (l : List Entry), (markEntries c n l).length = l.length
  | _, [] => by simp [markEntries]
  | 0, _ :: _ => by simp [markEntries]
  | n + 1, e :: es => by
    simp only [markEntries]
    split <;> simp [length_markEntries]

/-- A batch fixed where none was (08 R141). -/
theorem boardingClosed_fixes {q : Nat} {x : Queue}
    (place : queueIndex s.stations (s.stationOf c k) (s.headingOf c) = some q) (absent : s.gqu.batches.car c = none)
    (found : s.gqu.queues[q]? = some x) :
    (boardingClosed c k s).gqu.queues[q]? = some { x with entries := markEntries c (s.freeCapacity c) x.entries } ∧
    (boardingClosed c k s).gqu.batches.car c = some { stop := k, queue := q } ∧
    (boardingClosed c k s).gqu.loads = s.gqu.loads := by
  have still : dissolveBatch c s = s := by simp only [dissolveBatch, absent]
  simp [boardingClosed, place, still, modQueue, getElem?_updateAt, found]

/-- What a dissolved batch leaves (08 R142). -/
theorem dissolveBatch_fixed {b : Batch} (fixed : s.gqu.batches.car c = some b) :
    (dissolveBatch c s).gqu = { s.gqu with
      queues := updateAt b.queue (fun x => { x with entries := x.entries.map (fun e =>
        if e.batch = some c then { e with batch := none } else e) }) s.gqu.queues,
      batches := s.gqu.batches.setCar c none } ∧
    NoticeKey.car c ∈ (dissolveBatch c s).ll.notices ∧ NoticeKey.queue b.queue ∈ (dissolveBatch c s).ll.notices := by
  have kept : ∀ k k' l, k ∈ l → k ∈ markIn k' l := fun k k' l mem => by
    rw [markIn]
    split
    · exact mem
    · exact List.mem_append_left _ mem
  have marked : ∀ k l, k ∈ markIn k l := fun k l => by
    rw [markIn]
    split
    · assumption
    · simp
  simp only [dissolveBatch, fixed]
  exact ⟨rfl, kept _ _ _ (marked _ _), marked _ _⟩

/-- When the boarding reopens: the window test gives a stop and no committed trip is ACTIVE (06 R107). -/
theorem boardingReopened_iff (c : Car) (s : State) : boardingReopened c.index s =
    if s.windowStop.isSome ∧ ¬(s.hc.trip.state = .active ∧ s.hc.trip.committed = true) then dissolveBatch c s
    else s := by
  simp only [boardingReopened, carOf?_index]

/-- A set that enters OPENING keeps a batch absent that its leaving LOCKED dissolved (08 R142). -/
theorem enterOpening_batches (i : Nat) (s : State) : (enterOpening i s).gqu.batches =
    (if s.doorState? i = some .locked then boardingReopened i s else s).gqu.batches := by
  have emptied : ∀ t, (terminalOpening i t).gqu.batches = t.gqu.batches := fun t => by
    simp only [terminalOpening]
    (repeat' split) <;> rfl
  simp only [enterOpening]
  split <;> simp [enterOpen, emptied]

/-- What the platform door sets and the dissolving of a batch come to (06 R107). -/
theorem boardingReopened_platform (high : 2 ≤ i) (s : State) : boardingReopened i s = s := by
  simp only [boardingReopened, carOf?_none high]

theorem terminalOpening_platform (high : 2 ≤ i) (s : State) : terminalOpening i s = s := by
  simp only [terminalOpening, carOf?_none high]

end Sys2Proof.Machine
end

section

namespace Sys2Proof.Machine

/-! ### What a door input does to its set (06 R99, R103, R105, R106) -/

variable {s t : State} {c : Car} {r : Released} {d : DoorSet} {i j k : Nat}

/-- A set that is not held stands when a pair record is emptied. -/
theorem emptyPair_unheld (c : Car) (found : s.dc.sets[i]? = some d) (free : d.hold = false) :
    (emptyPair c s).dc.sets[i]? = some d := by
  have held : ({ d with hold := false } : DoorSet) = d := by rw [← free]
  simp only [emptyPair]
  split
  · exact found
  · next r released =>
    split
    · rw [(setHold_moves (modPair c (fun p => { p with released := none }) s) c r.stop false).sets]
      change (if _ then (s.dc.sets[i]?).map _ else s.dc.sets[i]?) = _
      rw [found, Option.map_some, held, ite_self]
    · exact found

/-- The record of a set that entered LOCKED (06 R103). -/
def DoorSet.lockedAt (clock : Nat) : DoorSet :=
  { state := .locked, command := .none, proof := none, reopen := 0, hold := false, lastProof := some clock }

/-- A set that enters LOCKED (06 R103, R106). -/
theorem enterLocked_set (found : s.dc.sets[i]? = some d) :
    (enterLocked i s).dc.sets[i]? = some (DoorSet.lockedAt s.tt.clock) := by
  have emptied : ∀ u : State, u.dc.sets = updateAt i (fun _ => DoorSet.lockedAt s.tt.clock) s.dc.sets →
      (emptyPairs u).dc.sets[i]? = some (DoorSet.lockedAt s.tt.clock) := fun u sets =>
    emptyPair_unheld .b (emptyPair_unheld .a (by rw [sets, getElem?_updateAt, if_pos rfl, found]; rfl) rfl) rfl
  refine emptied _ ?_
  split <;> simp [endCondition, updateAt_updateAt, DoorSet.lockedAt]

/-- The two conditions of a set that enters LOCKED end (06 R105, R106). -/
theorem enterLocked_ft (i : Nat) (s : State) :
    (enterLocked i s).ft = (s.ft.ended ⟨.doorUnproven, i⟩).ended ⟨.doorObstructed, i⟩ := by
  simp only [enterLocked]
  split <;> simp [endCondition]

/-- A set that enters LOCKED from another state than CLOSING leaves the gate and queue unit (06 R107). -/
theorem enterLocked_gqu (other : s.doorState? i ≠ some .closing) : (enterLocked i s).gqu = s.gqu := by
  simp only [enterLocked, if_neg other]
  simp

/-- A car door set that enters LOCKED from CLOSING fixes the batch of its car (06 R107). -/
theorem enterLocked_fixes (closing : s.doorState? c.index = some .closing)
    (released : (s.dc.pairs.car c).released = some r) :
    (enterLocked c.index s).gqu = (boardingClosed c r.stop s).gqu := by
  simp only [enterLocked, if_pos closing, emptyPairs_gqu, boardingShut, carOf?_index]
  have pairs : ∀ f, ((endCondition ⟨.doorObstructed, c.index⟩ (endCondition ⟨.doorUnproven, c.index⟩
      (commandDoor c.index .none (modDoor c.index f s)))).dc.pairs.car c).released = some r := fun f => by
    simp [endCondition, released]
  rw [pairs]
  exact boardingClosed_gqu_congr (by simp) (by simp [endCondition]) (by simp [endCondition]) c r.stop

/-- A set that loses its closed-and-locked input (06 R106). -/
theorem enterUnproven_set (found : s.dc.sets[i]? = some d) : (enterUnproven i s).dc.sets[i]? = some
    { d with state := .unproven, proof := none, command := .none } := by
  simp [enterUnproven, updateAt_updateAt, getElem?_updateAt, found]

theorem enterUnproven_ft (i : Nat) (s : State) :
    (enterUnproven i s).ft = s.ft.raised ⟨.doorUnproven, i⟩ s.tt.clock := by
  simp [enterUnproven, raise_ft]

/-- A set that loses its closed-and-locked input keeps a batch absent that it dissolved (08 R142). -/
theorem enterUnproven_absent (absent : (boardingReopened i s).gqu.batches.car c = none) :
    (enterUnproven i s).gqu.batches.car c = none :=
  raise_keeps_absent _ (by simpa using absent)

/-- The state in which a set whose obstruction was counted, and the pair it belongs to, reopen (06 R105). -/
def obstructionCounted (c : Car) (i : Nat) (limit : Bool) (s : State) : State :=
  if limit then modReleased c (fun x => { x with closeDemand := false, closureStopped := true })
    (raise ⟨.doorObstructed, i⟩ (countObstruction i s))
  else countObstruction i s

/-- An obstruction of one set of a released pair (06 R105). -/
theorem obstruct_one (released : (s.dc.pairs.car c).released = some r) (found : s.dc.sets[i]? = some d) :
    obstruct c [i] s = forEach enterOpening ((obstructionCounted c i (decide (3 ≤ d.reopen + 1)) s).setsIn
      (fun x => decide (x = .closing)) (s.pairSets c r.stop))
      (obstructionCounted c i (decide (3 ≤ d.reopen + 1)) s) := by
  have counted : (countObstruction i s).dc.sets[i]? = some d.obstructed := by
    rw [countObstruction, modDoor_sets, getElem?_updateAt, if_pos rfl, found]
    rfl
  have limit : (3 ≤ d.obstructed.reopen) ↔ 3 ≤ d.reopen + 1 := by
    simp only [DoorSet.obstructed]
    omega
  simp only [obstruct, released, forEach, List.any_cons, List.any_nil, Bool.or_false, counted, raiseObstructed, limit,
    obstructionCounted]
  by_cases high : 3 ≤ d.reopen + 1 <;> simp [high]

end Sys2Proof.Machine
end

section

namespace Sys2Proof.Machine

/-! ### Obstructions (06 R105) -/

variable {s t : State} {c : Car} {r : Released} {d : DoorSet} {i j k : Nat}

/-- From s to u an obstruction of set i, of car c's released pair, was counted: the third one stops the closure
(06 R105). -/
structure Counted (c : Car) (r : Released) (d : DoorSet) (i : Nat) (s u : State) : Prop where
  sets : u.dc.sets = updateAt i DoorSet.obstructed s.dc.sets
  now : u.now = s.now
  tt : u.tt = s.tt
  lgp : u.lgp = s.lgp
  inputs : u.dc.inputs = s.dc.inputs
  below : d.reopen + 1 < 3 → u.ft = s.ft ∧ u.dc.pairs = s.dc.pairs
  limit : 3 ≤ d.reopen + 1 → u.ft = s.ft.raised ⟨.doorObstructed, i⟩ s.tt.clock ∧
    (u.dc.pairs.car c).released = some { r with closeDemand := false, closureStopped := true }

/-- An obstruction of one set is counted as R105 says. -/
theorem obstructionCounted_counts (d : DoorSet) (i : Nat) (released : (s.dc.pairs.car c).released = some r) :
    Counted c r d i s (obstructionCounted c i (decide (3 ≤ d.reopen + 1)) s) := by
  by_cases high : 3 ≤ d.reopen + 1
  · rw [decide_eq_true high, obstructionCounted, if_pos rfl]
    exact ⟨by simp [countObstruction]; rfl, outer_now (s := s) (by simp), by simp, by simp, by simp [countObstruction],
      fun low => absurd high (by omega), fun _ => by simp [raise_ft, countObstruction, released]⟩
  · rw [decide_eq_false high]
    exact ⟨rfl, rfl, rfl, rfl, rfl, fun _ => ⟨rfl, rfl⟩, fun h => absurd h high⟩

/-- The stop of the pair stands. -/
theorem Counted.stop {u : State} (h : Counted c r d i s u) (released : (s.dc.pairs.car c).released = some r)
    {r' : Released} (released' : (u.dc.pairs.car c).released = some r') : r'.stop = r.stop := by
  by_cases high : 3 ≤ d.reopen + 1
  · rw [(h.limit high).2] at released'
    rw [← Option.some.inj released']
  · rw [(h.below (by omega)).2, released] at released'
    rw [← Option.some.inj released']

/-- A counted obstruction leaves the states of the sets. -/
theorem Counted.state {u : State} (h : Counted c r d i s u) (j : Nat) : u.doorState? j = s.doorState? j := by
  rw [State.doorState?, h.sets, getElem?_updateAt, State.doorState?]
  split
  · simp [Function.comp_def, DoorSet.obstructed]
  · rfl

/-- An obstructed set that is not fully open is sent to OPENING (06 R105). -/
def DoorSet.reopened (now clock : Nat) (d : DoorSet) : DoorSet := { d with
  state := .opening, command := .open, proof := some { start := clock, due := now + 4000000 },
  reopen := min 3 (d.reopen + 1) }

/-- What an obstruction of a CLOSING set of a released pair comes to (06 R105). -/
structure Reopens (c : Car) (r : Released) (d : DoorSet) (i : Nat) (s t : State) : Prop where
  set : t.dc.sets[i]? = some (d.reopened s.now s.tt.clock)
  closing : ∀ j ∈ s.pairSets c r.stop, s.doorState? j = some .closing → t.doorState? j = some .opening
  below : d.reopen + 1 < 3 → t.ft = s.ft ∧ t.dc.pairs = s.dc.pairs
  limit : 3 ≤ d.reopen + 1 → t.ft = s.ft.raised ⟨.doorObstructed, i⟩ s.tt.clock ∧
    (t.dc.pairs.car c).released = some { r with closeDemand := false, closureStopped := true }

/-- The CLOSING sets of a pair reopen after an obstruction was counted, and no close demand acts then (06 R105). -/
theorem Counted.reopens {u : State} (h : Counted c r d i s u) (released : (s.dc.pairs.car c).released = some r)
    (mem : i ∈ s.pairSets c r.stop) (found : s.dc.sets[i]? = some d) (closing : d.state = .closing)
    (shut : ∀ j ∈ s.pairSets c r.stop, (s.doorIn j).opened = false) : Reopens c r d i s
      (closeIfDue c (forEach enterOpening (u.setsIn (fun x => decide (x = .closing)) (s.pairSets c r.stop)) u)) := by
  have moved := enterOpening_all u (l := u.setsIn (fun x => decide (x = .closing)) (s.pairSets c r.stop))
    (List.Nodup.filter _ (pairSets_nodup s c r.stop))
  have ft := forEach_ft enterOpening (fun i t => enterOpening_ft t i)
  have sent : ∀ j ∈ s.pairSets c r.stop, s.doorState? j = some .closing → ∀ x, u.dc.sets[j]? = some x →
      (forEach enterOpening (u.setsIn (fun x => decide (x = .closing)) (s.pairSets c r.stop)) u).dc.sets[j]?
        = some (x.sentOpening false s.now s.tt.clock) := fun j memj state x isx => by
    have after := moved.inside (mem_setsIn.2 ⟨memj, _, (h.state j).trans state, by simp⟩) isx
    rwa [h.now, h.tt, doorIn_congr h.inputs, shut j memj] at after
  have self := sent i mem (by rw [doorState_of found, closing]) d.obstructed (by
    rw [h.sets, getElem?_updateAt, if_pos rfl, found]
    rfl)
  have rests := closeIfDue_rests (c := c) fun r' released' due => by
    refine (due.2.2 i ?_).1 (doorState_of self)
    rw [moved.pairs] at released'
    rw [h.stop released released', pairSets_congr (moved.lgp.trans h.lgp)]
    exact mem
  rw [rests]
  refine ⟨self, fun j memj state => ?_, fun low => ?_, fun high => ?_⟩
  · obtain ⟨x, isx, _⟩ := set_of_doorState ((h.state j).trans state)
    exact doorState_of (sent j memj state x isx)
  · rw [ft, moved.pairs]
    exact h.below low
  · rw [ft, moved.pairs]
    exact h.limit high

/-- An obstruction of a CLOSING set reopens its pair (06 R105). -/
theorem obstruct_reopens (released : (s.dc.pairs.car c).released = some r) (mem : i ∈ s.pairSets c r.stop)
    (found : s.dc.sets[i]? = some d) (closing : d.state = .closing)
    (shut : ∀ j ∈ s.pairSets c r.stop, (s.doorIn j).opened = false) :
    Reopens c r d i s (closeIfDue c (obstruct c [i] s)) := by
  rw [obstruct_one released found]
  exact (obstructionCounted_counts d i released).reopens released mem found closing shut

/-- An obstruction of a CLOSING set that belongs to no released pair (06 R105). -/
theorem obstructAlone_reopens (found : s.dc.sets[i]? = some d) (shut : (s.doorIn i).opened = false) :
    (obstructAlone i s).dc.sets[i]? = some (d.reopened s.now s.tt.clock) ∧
    (obstructAlone i s).dc.pairs = s.dc.pairs ∧
    (obstructAlone i s).ft = if 3 ≤ d.reopen + 1 then s.ft.raised ⟨.doorObstructed, i⟩ s.tt.clock else s.ft := by
  have counted : (countObstruction i s).dc.sets[i]? = some d.obstructed := by
    rw [countObstruction, modDoor_sets, getElem?_updateAt, if_pos rfl, found]
    rfl
  have limit : (3 ≤ d.obstructed.reopen) ↔ 3 ≤ d.reopen + 1 := by
    simp only [DoorSet.obstructed]
    omega
  have raised : raiseObstructed i (countObstruction i s) =
      if 3 ≤ d.reopen + 1 then raise ⟨.doorObstructed, i⟩ (countObstruction i s) else countObstruction i s := by
    simp only [raiseObstructed, counted, limit]
  have stand : ∀ u, raiseObstructed i (countObstruction i s) = u → u.now = s.now ∧ u.tt = s.tt ∧
      u.dc = (countObstruction i s).dc := by
    rintro u rfl
    exact ⟨outer_now (by simp), by simp, by simp⟩
  rw [obstructAlone]
  generalize hu : raiseObstructed i (countObstruction i s) = u at *
  obtain ⟨now, tt, dc⟩ := stand u rfl
  have moved := enterOpening_moves u i
  refine ⟨?_, by rw [moved.pairs, dc]; rfl, ?_⟩
  · rw [moved.inside (List.mem_singleton_self i) (dc ▸ counted), now, tt, doorIn_congr (s := s) (by rw [dc]; rfl), shut]
    rfl
  · rw [enterOpening_ft, raised]
    split
    · simp [raise_ft, countObstruction]
    · rfl

end Sys2Proof.Machine
end

section

namespace Sys2Proof.Machine

/-! ### Door inputs, case by case (06 R99, R103, R105, R106) -/

variable {s t : State} {c : Car} {r : Released} {d : DoorSet} {i j k : Nat} {x : DoorInput} {v : Bool}

/-- An input that differs from the value held is a change (06 R94). -/
theorem doorInput_changes (differs : (s.doorIn i).value x ≠ v) : doorInput i x v s = inputChanged i x v s := by
  rw [doorInput_eq, if_neg differs]

/-- A LOCKED set that loses its closed-and-locked input is UNPROVEN (06 R106). -/
theorem closedChanged_lost (locked : s.doorState? i = some .locked) : inputChanged i .closedAndLocked false s =
    enterUnproven i (modDoorIn i (DoorInputs.put .closedAndLocked false) s) := by
  simp only [inputChanged, closedChanged, locked]
  rfl

/-- A CLOSING or UNPROVEN set that gains its closed-and-locked input is LOCKED (06 R103, R106). -/
theorem closedChanged_gained (shutting : s.doorState? i = some .closing ∨ s.doorState? i = some .unproven) :
    inputChanged i .closedAndLocked true s =
      enterLocked i (modDoorIn i (DoorInputs.put .closedAndLocked true) s) := by
  rcases shutting with h | h <;> simp only [inputChanged, closedChanged, h] <;> rfl

/-- An OPENING set that is fully open is OPEN, and close demands act (06 R99). -/
theorem openedChanged_opens (opening : s.doorState? i = some .opening) : inputChanged i .fullyOpen true s =
    closeBoth (enterOpen i true (modDoorIn i (DoorInputs.put .fullyOpen true) s)) := by
  simp only [inputChanged, openedChanged, opening]
  rfl

/-- An obstruction of a CLOSING set of a released pair (06 R105). -/
theorem obstructionChanged_pair (closing : s.doorState? i = some .closing) (pair : s.pairOf i = some c) :
    inputChanged i .obstruction true s =
      closeIfDue c (obstruct c [i] (modDoorIn i (DoorInputs.put .obstruction true) s)) := by
  simp only [inputChanged, obstructionChanged, closing, pair]
  rfl

/-- An obstruction of a CLOSING set of no released pair (06 R105). -/
theorem obstructionChanged_alone (closing : s.doorState? i = some .closing) (pair : s.pairOf i = none) :
    inputChanged i .obstruction true s = obstructAlone i (modDoorIn i (DoorInputs.put .obstruction true) s) := by
  simp only [inputChanged, obstructionChanged, closing, pair]
  rfl

/-- The set of a pair that has it. -/
theorem mem_of_pairOf (pair : s.pairOf i = some c) (released : (s.dc.pairs.car c).released = some r) :
    i ∈ s.pairSets c r.stop := by
  simpa [released] using List.find?_some pair

/-- A car door set belongs to the pair of its car alone. -/
theorem pairOf_index (released : (s.dc.pairs.car c).released = some r) : s.pairOf c.index = some c := by
  cases pair : s.pairOf c.index with
  | none =>
    have := List.find?_eq_none.1 pair c (by cases c <;> simp)
    simp [released, index_mem_pairSets] at this
  | some c' =>
    have here := List.find?_some pair
    split at here
    · exact congrArg some (eq_of_index_mem (of_decide_eq_true here)).symm
    · cases here

/-- A pair stays clear when a set is fully open. -/
theorem pairClear_opened (clear : s.pairClear c k) :
    (modDoorIn i (DoorInputs.put .fullyOpen v) s).pairClear c k := fun j mem => by
  have closed := doorIn_put_value (s := s) (i := i) (x := .fullyOpen) (v := v) (y := .closedAndLocked) (by simp) j
  have obstructed := doorIn_put_value (s := s) (i := i) (x := .fullyOpen) (v := v) (y := .obstruction) (by simp) j
  exact ⟨closed.trans (clear j mem).1, obstructed.trans (clear j mem).2⟩

/-- A set that is not fully open is not when an obstruction is reported. -/
theorem shut_obstructed (h : (s.doorIn j).opened = false) :
    ((modDoorIn i (DoorInputs.put .obstruction v) s).doorIn j).opened = false :=
  (doorIn_put_value (x := .obstruction) (y := .fullyOpen) (by simp) j).trans h

/-- What a terminal opening does to the gate and queue unit is read of that unit, the line and the pairs alone. -/
theorem terminalOpening_gqu_congr (gqu : t.gqu = s.gqu) (lgp : t.lgp = s.lgp) (pairs : t.dc.pairs = s.dc.pairs) :
    (terminalOpening i t).gqu = (terminalOpening i s).gqu := by
  by_cases terminal : ∃ c, s.atTerminal i c
  · obtain ⟨c, terminal⟩ := terminal
    rw [terminalOpening_empties terminal, terminalOpening_empties ((atTerminal_congr lgp pairs).2 terminal), gqu]
  · have away := not_exists.1 terminal
    rw [terminalOpening_elsewhere away,
      terminalOpening_elsewhere fun c => mt (atTerminal_congr lgp pairs).1 (away c), gqu]

/-- An OPENING set that is fully open with no close demand set (06 R99). -/
theorem opened_opens (found : s.dc.sets[i]? = some d) (opening : d.state = .opening)
    (idle : ∀ c r, (s.dc.pairs.car c).released = some r → r.closeDemand = false) :
    (inputChanged i .fullyOpen true s).dc.sets[i]? = some { d with
      state := .open, proof := none, lastProof := some s.tt.clock } ∧
    (inputChanged i .fullyOpen true s).ft = s.ft ∧
    (inputChanged i .fullyOpen true s).gqu = (terminalOpening i s).gqu := by
  have stand := enterOpen_stands (modDoorIn i (DoorInputs.put .fullyOpen true) s) i true
  rw [openedChanged_opens (by rw [doorState_of found, opening]), closeBoth_rests (by rw [stand.pairs]; exact idle)]
  refine ⟨enterOpen_set (s := modDoorIn i (DoorInputs.put .fullyOpen true) s) true found, enterOpen_ft _ _ _, ?_⟩
  exact terminalOpening_gqu_congr rfl rfl rfl

/-- An OPENING set that is fully open under the close demand of the only released pair (06 R99, R103). -/
theorem opened_closes (found : s.dc.sets[i]? = some d) (opening : d.state = .opening)
    (released : (s.dc.pairs.car c).released = some r) (mem : i ∈ s.pairSets c r.stop) (demand : r.closeDemand = true)
    (alone : ∀ c', c' ≠ c → (s.dc.pairs.car c').released = none) (clear : s.pairClear c r.stop)
    (rest : ∀ j ∈ s.pairSets c r.stop, j ≠ i → s.doorState? j = some .open ∨ s.doorState? j = some .locked ∨
      s.doorState? j = some .unproven) :
    (inputChanged i .fullyOpen true s).dc.sets[i]? = some { d with
      state := .closing, command := .close, proof := some { start := s.tt.clock, due := s.now + 6000000 },
      lastProof := some s.tt.clock } ∧
    (∀ j ∈ s.pairSets c r.stop, s.doorState? j = some .open ∨ s.doorState? j = some .unproven →
      (inputChanged i .fullyOpen true s).doorState? j = some .closing) ∧
    (inputChanged i .fullyOpen true s).gqu = (terminalOpening i s).gqu := by
  obtain ⟨set, states, gqu, -, -⟩ := enterOpen_closes (s := modDoorIn i (DoorInputs.put .fullyOpen true) s) (i := i) true
    found released mem demand alone (pairClear_opened clear) rest
  rw [openedChanged_opens (by rw [doorState_of found, opening])]
  exact ⟨set, fun j memj state => states j memj (.inr state), gqu.trans (terminalOpening_gqu_congr rfl rfl rfl)⟩

/-- An obstruction of a CLOSING set of a released pair reopens the pair (06 R105). -/
theorem obstruction_reopens (found : s.dc.sets[i]? = some d) (closing : d.state = .closing)
    (pair : s.pairOf i = some c) (released : (s.dc.pairs.car c).released = some r)
    (shut : ∀ j ∈ s.pairSets c r.stop, (s.doorIn j).opened = false) :
    Reopens c r d i s (inputChanged i .obstruction true s) := by
  rw [obstructionChanged_pair (by rw [doorState_of found, closing]) pair]
  obtain ⟨set, states, below, limit⟩ := obstruct_reopens
    (s := modDoorIn i (DoorInputs.put .obstruction true) s) released (mem_of_pairOf pair released) found closing
    fun j mem => shut_obstructed (shut j mem)
  exact ⟨set, states, below, limit⟩

/-- The inputs after one of a set changed (06 R94). -/
theorem inputChanged_inputs (i : Nat) (x : DoorInput) (v : Bool) (s : State) :
    (inputChanged i x v s).dc.inputs = updateAt i (DoorInputs.put x v) s.dc.inputs :=
  congrArg Prod.fst (inputChanged_reported i x v s)

/-- A change of a platform input is an event (06 R94). -/
theorem happens_platform {n : Fin 6} (differs : (s.doorIn (n.val + 2)).value x ≠ v) :
    Happens (.platformDoorInputChange n x v) s (inputChanged (n.val + 2) x v s) := by
  have eq : exec (.platformDoorInputChange n x v) s = if (s.doorIn (n.val + 2)).value x = v then .next s
      else .next (event (doorInput (n.val + 2) x v) s) := by cases x <;> rfl
  rw [Happens, eq, if_neg differs, event, doorInput_changes differs]

/-- A platform input that repeats its value is no event (log 17). -/
theorem platform_repeats {n : Fin 6} (same : (s.doorIn (n.val + 2)).value x = v) :
    exec (.platformDoorInputChange n x v) s = .next s := by
  have eq : exec (.platformDoorInputChange n x v) s = if (s.doorIn (n.val + 2)).value x = v then .next s
      else .next (event (doorInput (n.val + 2) x v) s) := by cases x <;> rfl
  rw [eq, if_pos same]

/-- A LOCKED set that loses its closed-and-locked input is UNPROVEN, and DOOR_UNPROVEN is raised (06 R106). -/
theorem lost_unproven (locked : s.doorState? i = some .locked) :
    (inputChanged i .closedAndLocked false s).doorState? i = some .unproven ∧
    (inputChanged i .closedAndLocked false s).ft = s.ft.raised ⟨.doorUnproven, i⟩ s.tt.clock := by
  obtain ⟨d, found, _⟩ := set_of_doorState locked
  rw [closedChanged_lost locked]
  exact ⟨doorState_of (enterUnproven_set (s := modDoorIn _ _ s) found), enterUnproven_ft _ _⟩

/-- A CLOSING or UNPROVEN set that gains its closed-and-locked input is LOCKED, and its conditions end (06 R103,
R105, R106). -/
theorem gained_locked (found : s.dc.sets[i]? = some d) (state : d.state = .closing ∨ d.state = .unproven) :
    (inputChanged i .closedAndLocked true s).dc.sets[i]? = some (DoorSet.lockedAt s.tt.clock) ∧
    (inputChanged i .closedAndLocked true s).ft = (s.ft.ended ⟨.doorUnproven, i⟩).ended ⟨.doorObstructed, i⟩ := by
  rw [closedChanged_gained (by simpa only [doorState_of found, Option.some.injEq] using state)]
  exact ⟨enterLocked_set (s := modDoorIn _ _ s) found, enterLocked_ft _ _⟩

/-- What a gained closed-and-locked input does to the boarding batch of a car (06 R107; 08 R141). -/
theorem gained_gqu (found : s.dc.sets[c.index]? = some d) :
    (d.state = .unproven → (inputChanged c.index .closedAndLocked true s).gqu = s.gqu) ∧
    (d.state = .closing → ∀ r, (s.dc.pairs.car c).released = some r →
      (inputChanged c.index .closedAndLocked true s).gqu = (boardingClosed c r.stop s).gqu) := by
  have before := doorState_of found
  refine ⟨fun unproven => ?_, fun closing r released => ?_⟩
  · rw [unproven] at before
    rw [closedChanged_gained (.inr before)]
    exact enterLocked_gqu (s := modDoorIn _ _ s) (by simp [State.doorState?, found, unproven])
  · rw [closing] at before
    rw [closedChanged_gained (.inl before)]
    refine (enterLocked_fixes (s := modDoorIn _ _ s) before released).trans ?_
    exact boardingClosed_gqu_congr (s := s) (t := modDoorIn c.index (DoorInputs.put .closedAndLocked true) s) rfl rfl rfl c r.stop

end Sys2Proof.Machine
end

section

namespace Sys2Proof.Machine

/-! ### A door report of a car (06 R94) -/

variable {s t : State} {c : Car} {r : Released} {d : DoorSet} {i j k : Nat} {closed opened obstructed : Bool}

/-- A door report puts the three inputs, the closed-and-locked one first (06 R94). -/
theorem doorReport_reported (c : Car) (closed opened obstructed : Bool) (s : State) :
    (doorReport c closed opened obstructed s).reported =
      (updateAt c.index (fun _ => { closed := closed, opened := opened, obstructed := obstructed }) s.dc.inputs,
        s.hc.carLine) := by
  have put : ∀ x v t, (doorInput c.index x v t).reported =
      (updateAt c.index (DoorInputs.put x v) t.reported.1, t.reported.2) := fun x v t => doorInput_reported _ x v t
  rw [doorReport, put, put, put, updateAt_updateAt, updateAt_updateAt]
  rfl

/-- The inputs of the car's set after a door report (06 R94). -/
theorem doorReport_doorIn (length : s.dc.inputs.length = 8) : (doorReport c closed opened obstructed s).doorIn c.index
    = { closed := closed, opened := opened, obstructed := obstructed } := by
  have inputs := congrArg Prod.fst (doorReport_reported c closed opened obstructed s)
  have low := index_lt c
  change (doorReport c closed opened obstructed s).dc.inputs = _ at inputs
  rw [State.doorIn, List.getD_eq_getElem?_getD, inputs, getElem?_updateAt, if_pos rfl,
    List.getElem?_eq_getElem (by omega)]
  rfl

/-- The later two inputs of a door report are recorded where the set answers to neither. -/
theorem later_recorded {u : State} (opening : u.doorState? i = some .opening → opened = false)
    (closing : u.doorState? i = some .closing → obstructed = false) :
    doorInput i .obstruction obstructed (doorInput i .fullyOpen opened u) =
      modDoorIn i (DoorInputs.put .obstruction obstructed) (modDoorIn i (DoorInputs.put .fullyOpen opened) u) := by
  rw [opened_recorded opening]
  exact obstruction_recorded (s := modDoorIn i (DoorInputs.put .fullyOpen opened) u) closing

/-- A door report of a LOCKED car door set that loses its closed-and-locked input (06 R106). -/
theorem doorReport_lost (locked : s.doorState? c.index = some .locked) (held : (s.doorIn c.index).closed = true) :
    (doorReport c false opened obstructed s).doorState? c.index = some .unproven ∧
    (doorReport c false opened obstructed s).ft = s.ft.raised ⟨.doorUnproven, c.index⟩ s.tt.clock := by
  obtain ⟨state, ft⟩ := lost_unproven locked
  rw [doorReport, doorInput_changes (x := .closedAndLocked) (by simp [DoorInputs.value, held])]
  generalize inputChanged c.index .closedAndLocked false s = u at *
  rw [later_recorded (by simp [state]) (by simp [state])]
  exact ⟨state, ft⟩

end Sys2Proof.Machine
end

section

namespace Sys2Proof.Machine

/-! ### The cases of a door report of a car (06 R99, R103, R105, R106) -/

variable {s t : State} {c : Car} {r : Released} {d : DoorSet} {i j k : Nat} {closed opened obstructed : Bool}

/-- A door report that proves a CLOSING or UNPROVEN car door set locked (06 R103, R106, R107). -/
theorem doorReport_gained (found : s.dc.sets[c.index]? = some d) (state : d.state = .closing ∨ d.state = .unproven)
    (held : (s.doorIn c.index).closed = false) :
    (doorReport c true opened obstructed s).dc.sets[c.index]? = some (DoorSet.lockedAt s.tt.clock) ∧
    (doorReport c true opened obstructed s).ft
      = (s.ft.ended ⟨.doorUnproven, c.index⟩).ended ⟨.doorObstructed, c.index⟩ ∧
    (d.state = .unproven → (doorReport c true opened obstructed s).gqu = s.gqu) ∧
    (d.state = .closing → ∀ r, (s.dc.pairs.car c).released = some r →
      (doorReport c true opened obstructed s).gqu = (boardingClosed c r.stop s).gqu) := by
  obtain ⟨set, ft⟩ := gained_locked found state
  obtain ⟨unproven, closing⟩ := gained_gqu found
  rw [doorReport, doorInput_changes (x := .closedAndLocked) (by simp [DoorInputs.value, held])]
  generalize inputChanged c.index .closedAndLocked true s = u at *
  have locked : u.doorState? c.index = some .locked := doorState_of set
  rw [later_recorded (by simp [locked]) (by simp [locked])]
  exact ⟨set, ft, unproven, closing⟩

/-- The state in which an OPENING car door set answers a door report (06 R94). -/
theorem doorReport_opening (found : s.dc.sets[c.index]? = some d) (opening : d.state = .opening)
    (held : (s.doorIn c.index).opened = false) :
    doorReport c closed true obstructed s = doorInput c.index .obstruction obstructed
      (inputChanged c.index .fullyOpen true (modDoorIn c.index (DoorInputs.put .closedAndLocked closed) s)) := by
  have before := doorState_of found
  have value := doorIn_put_value (s := s) (i := c.index) (x := .closedAndLocked) (v := closed) (y := .fullyOpen)
    (by simp) c.index
  rw [doorReport, closed_recorded (by simp [before, opening]) (by simp [before, opening]),
    doorInput_changes (x := .fullyOpen) (by rw [value]; simp [DoorInputs.value, held])]

/-- A door report of an OPENING car door set that is fully open, with no close demand set (06 R99; 08 R144). -/
theorem doorReport_opens (found : s.dc.sets[c.index]? = some d) (opening : d.state = .opening)
    (held : (s.doorIn c.index).opened = false)
    (idle : ∀ c r, (s.dc.pairs.car c).released = some r → r.closeDemand = false) :
    (doorReport c closed true obstructed s).dc.sets[c.index]? = some { d with
      state := .open, proof := none, lastProof := some s.tt.clock } ∧
    (doorReport c closed true obstructed s).ft = s.ft ∧
    (doorReport c closed true obstructed s).gqu = (terminalOpening c.index s).gqu := by
  obtain ⟨set, ft, gqu⟩ := opened_opens (s := modDoorIn c.index (DoorInputs.put .closedAndLocked closed) s) found
    opening idle
  rw [doorReport_opening found opening held]
  generalize inputChanged c.index .fullyOpen true _ = u at *
  rw [obstruction_recorded (by simp [doorState_of set])]
  exact ⟨set, ft, gqu.trans (terminalOpening_gqu_congr rfl rfl rfl)⟩

/-- A door report of a car door set puts its closed-and-locked input, and leaves the other sets. -/
theorem pairClear_put (length : s.dc.inputs.length = 8) (obstructed : (s.doorIn c.index).obstructed = false)
    (others : ∀ j ∈ s.pairSets c k, j ≠ c.index → (s.doorIn j).closed = false ∧ (s.doorIn j).obstructed = false) :
    (modDoorIn c.index (DoorInputs.put .closedAndLocked false) s).pairClear c k := fun j mem => by
  have low := index_lt c
  by_cases same : j = c.index
  · rw [same, doorIn_put (by omega)]
    exact ⟨rfl, obstructed⟩
  · rw [doorIn_put_other same]
    exact others j mem same

/-- A door report of an OPENING car door set that is fully open, under the close demand of the only released pair
(06 R99, R103; 08 R144). -/
theorem doorReport_closes (length : s.dc.inputs.length = 8) (found : s.dc.sets[c.index]? = some d)
    (opening : d.state = .opening) (held : (s.doorIn c.index).opened = false)
    (released : (s.dc.pairs.car c).released = some r) (demand : r.closeDemand = true)
    (alone : ∀ c', c' ≠ c → (s.dc.pairs.car c').released = none) (unobstructed : (s.doorIn c.index).obstructed = false)
    (others : ∀ j ∈ s.pairSets c r.stop, j ≠ c.index →
      (s.doorIn j).closed = false ∧ (s.doorIn j).obstructed = false)
    (rest : ∀ j ∈ s.pairSets c r.stop, j ≠ c.index → s.doorState? j = some .open ∨ s.doorState? j = some .locked ∨
      s.doorState? j = some .unproven) :
    (doorReport c false true false s).dc.sets[c.index]? = some { d with
      state := .closing, command := .close, proof := some { start := s.tt.clock, due := s.now + 6000000 },
      lastProof := some s.tt.clock } ∧
    (r.stop = 0 ∨ r.stop + 1 = s.stations → (doorReport c false true false s).gqu.loads.car c = some 0) ∧
    ∀ j ∈ s.pairSets c r.stop, s.doorState? j = some .open ∨ s.doorState? j = some .unproven →
      (doorReport c false true false s).doorState? j = some .closing := by
  obtain ⟨set, states, gqu⟩ := opened_closes (s := modDoorIn c.index (DoorInputs.put .closedAndLocked false) s) found
    opening released index_mem_pairSets demand alone (pairClear_put length unobstructed others) rest
  rw [doorReport_opening found opening held]
  generalize inputChanged c.index .fullyOpen true _ = u at *
  rw [obstruction_recorded fun _ => rfl]
  refine ⟨set, fun terminal => ?_, states⟩
  have emptied : u.gqu = (terminalOpening c.index s).gqu := gqu.trans (terminalOpening_gqu_congr rfl rfl rfl)
  change u.gqu.loads.car c = some 0
  rw [emptied, terminalOpening_empties ⟨rfl, r, released, terminal⟩]
  exact setCar_car _ _ _

/-- A door report of an obstruction of a CLOSING car door set (06 R105). -/
theorem doorReport_reopens (length : s.dc.inputs.length = 8) (found : s.dc.sets[c.index]? = some d)
    (closing : d.state = .closing) (released : (s.dc.pairs.car c).released = some r)
    (held : (s.doorIn c.index).obstructed = false)
    (others : ∀ j ∈ s.pairSets c r.stop, j ≠ c.index → (s.doorIn j).opened = false) :
    Reopens c r d c.index s (doorReport c false false true s) := by
  have low := index_lt c
  have before := doorState_of found
  generalize hp : modDoorIn c.index (DoorInputs.put .closedAndLocked false) s = p
  generalize hu : modDoorIn c.index (DoorInputs.put .fullyOpen false) p = u
  have recorded : doorReport c false false true s = doorInput c.index .obstruction true u := by
    rw [doorReport, closed_recorded (fun _ => rfl) (by simp [before, closing]), hp, opened_recorded fun _ => rfl, hu]
  have value : (u.doorIn c.index).value .obstruction = false := by
    rw [← hu, doorIn_put_value (by simp), ← hp, doorIn_put_value (by simp)]
    exact held
  have shut : ∀ j ∈ s.pairSets c r.stop, (u.doorIn j).opened = false := fun j mem => by
    by_cases same : j = c.index
    · rw [same, ← hu, doorIn_put (by simp [← hp, length]; omega)]
      rfl
    · rw [← hu, doorIn_put_other same, ← hp, doorIn_put_other same]
      exact others j mem same
  rw [recorded, doorInput_changes (by simp [value])]
  subst hu hp
  obtain ⟨set, states, below, limit⟩ := obstruction_reopens (s := modDoorIn c.index (DoorInputs.put .fullyOpen false)
    (modDoorIn c.index (DoorInputs.put .closedAndLocked false) s)) found closing (pairOf_index released) released shut
  exact ⟨set, states, below, limit⟩

/-! ### The message that bears a door report (03 R62) -/

/-- A car message leaves the door sets, the pair records and the door inputs. -/
theorem carMessage_stands (c : Car) (s : State) : DoorsStand s (carMessage c s) ∧
    (carMessage c s).dc.sets = s.dc.sets := by
  simp only [carMessage]
  (repeat' split) <;> exact ⟨⟨rfl, rfl, rfl, rfl, rfl, rfl⟩, rfl⟩

end Sys2Proof.Machine
end

section

namespace Sys2Proof.Machine

/-! ### Door inputs of the platforms and the cars, and the boarding batches (06 R94, R107; 08 R141, R142) -/

variable {s t : State} {c : Car} {r : Released} {d : DoorSet} {i j k : Nat} {closed opened obstructed : Bool}

/-- The car line after a door report: the silence interval restarts (03 R62). -/
theorem doorReport_carLine : ((doorReport c closed opened obstructed (carMessage c s)).hc.carLine.car c) =
    { s.hc.carLine.car c with alive := true, silenceDue := some (s.now + 2000000) } := by
  have line : (doorReport c closed opened obstructed (carMessage c s)).hc.carLine = (carMessage c s).hc.carLine :=
    congrArg Prod.snd (doorReport_reported c closed opened obstructed (carMessage c s))
  rw [line, carMessage_hc, setCar_car]

/-- A car door set that leaves LOCKED while the boarding reopens has no batch left (06 R107; 08 R142). -/
theorem leaving_dissolves (locked : s.doorState? c.index = some .locked)
    (reopens : boardingReopened c.index s = dissolveBatch c s) :
    (enterOpening c.index s).gqu.batches.car c = none ∧ (enterUnproven c.index s).gqu.batches.car c = none := by
  have absent : (boardingReopened c.index s).gqu.batches.car c = none := reopens ▸ dissolveBatch_absent c s
  exact ⟨by rw [enterOpening_batches, if_pos locked, absent], enterUnproven_absent absent⟩

/-- Settles O53: the inputs of a platform set, a door report after the message that bears it, the batch that a closed
car door fixes, and the batch that a reopened one dissolves. -/
theorem doorInputsMoveTheDoorSets : Obligations.DoorInputsMoveTheDoorSets := by
  refine ⟨?platform, ?report, ?fixed, ?dissolved⟩
  case platform =>
    rintro s n i rfl
    have high : 2 ≤ n.val + 2 := by omega
    refine ⟨fun x v same => platform_repeats (same ▸ by cases x <;> rfl), fun locked held => ?_,
      fun d found state held => ?_, fun d found opening held => ⟨fun idle => ?_,
        fun c r released mem demand alone clear rest => ?_⟩,
      fun d c r found closing held pair released shut => ?_, fun d found closing held pair shut => ?_⟩
    · obtain ⟨state, ft⟩ := lost_unproven locked
      exact ⟨_, happens_platform (by simp [DoorInputs.value, held]), state, ft, inputChanged_inputs ..⟩
    · obtain ⟨set, ft⟩ := gained_locked found state
      exact ⟨_, happens_platform (by simp [DoorInputs.value, held]), set, ft, inputChanged_inputs ..⟩
    · obtain ⟨set, -, gqu⟩ := opened_opens found opening idle
      rw [terminalOpening_platform high] at gqu
      exact ⟨_, happens_platform (by simp [DoorInputs.value, held]), gqu, set⟩
    · obtain ⟨set, states, -⟩ := opened_closes found opening released mem demand alone clear rest
      exact ⟨_, happens_platform (by simp [DoorInputs.value, held]), set, states⟩
    · obtain ⟨set, states, below, limit⟩ := obstruction_reopens found closing pair released shut
      exact ⟨_, happens_platform (by simp [DoorInputs.value, held]), set, states, below, limit⟩
    · refine ⟨_, happens_platform (by simp [DoorInputs.value, held]), ?_⟩
      rw [obstructionChanged_alone (by rw [doorState_of found, closing]) pair]
      exact obstructAlone_reopens (s := modDoorIn _ _ s) found (shut_obstructed shut)
  case report =>
    rintro s c closed opened obstructed ft length rfl
    have line := doorReport_carLine (s := s) (c := c) (closed := closed) (opened := opened) (obstructed := obstructed)
    refine ⟨_, show Happens _ s (doorReport c closed opened obstructed (carMessage c s)) from rfl, by rw [line],
      by rw [line], ?_⟩
    obtain ⟨stand, sets⟩ := carMessage_stands c s
    have states : ∀ j, (carMessage c s).doorState? j = s.doorState? j := fun j => by simp only [State.doorState?, sets]
    have fixes := boardingClosed_gqu_congr (carMessage_gqu s c) stand.lgp (by rw [carMessage_hc]) c
    have stations : (carMessage c s).stations = s.stations := stations_congr (congrArg Lgp.line stand.lgp)
    simp only [← carMessage_ft, ← carMessage_gqu s c, ← stand.now, ← stand.tt, ← stand.pairs, ← sets, ← states,
      ← stand.doorIn, ← stand.pairSets, ← fixes, ← stations]
    rw [← stand.inputs] at length
    generalize carMessage c s = u at *
    refine ⟨doorReport_doorIn length, ?_, ?_, ?_, ?_⟩
    · rintro locked held rfl
      exact doorReport_lost locked held
    · rintro d found state held rfl
      exact doorReport_gained found state held
    · rintro d found opening held rfl
      refine ⟨fun idle => ?_, fun r released demand alone => ?_⟩
      · obtain ⟨set, ft, gqu⟩ := doorReport_opens (closed := closed) (obstructed := obstructed) found opening held idle
        refine ⟨set, ft, fun r released terminal => ?_, fun away => ?_⟩
        · rw [gqu, terminalOpening_empties ⟨rfl, r, released, terminal⟩]
        · rw [gqu, terminalOpening_elsewhere]
          rintro c' ⟨same, r, released, terminal⟩
          obtain rfl := index_inj.1 same
          exact not_or.2 (away r released) terminal
      · rintro rfl rfl unobstructed others rest
        exact doorReport_closes length found opening held released demand alone unobstructed others rest
    · rintro d r found closing released held rfl rfl rfl others
      obtain ⟨set, states, below, limit⟩ := doorReport_reopens length found closing released held others
      exact ⟨set, states, below, limit⟩
  case fixed =>
    rintro s c k q cap x place absent found rfl
    obtain ⟨queue, batch, loads⟩ := boardingClosed_fixes place absent found
    exact ⟨_, queue, batch, loads, length_markEntries .., getElem?_markEntries c _ _⟩
  case dissolved =>
    rintro s c reopens reopens_iff
    have eq := boardingReopened_iff c s
    rw [← Option.isSome_iff_ne_none] at reopens_iff
    have dissolves : reopens → boardingReopened c.index s = dissolveBatch c s := fun h => by
      rw [eq, if_pos (reopens_iff.1 h)]
    refine ⟨dissolves, fun h => by rw [eq, if_neg (mt reopens_iff.2 h)], fun i high => boardingReopened_platform high s,
      fun locked h => leaving_dissolves locked (dissolves h), fun absent => by simp only [dissolveBatch, absent], ?_⟩
    rintro b fixed t rfl
    obtain ⟨gqu, car, queue⟩ := dissolveBatch_fixed fixed
    exact ⟨gqu, car, queue, dissolveBatch_hc s c, dissolveBatch_dc s c, dissolveBatch_ft s c, dissolveBatch_tt s c⟩

end Sys2Proof.Machine
end

section

namespace Sys2Proof.Machine

/-! ### The lengths of the admission queues (08 R137) -/

/-- How many entries each queue of a list holds. -/
def queueLengths (l : List Queue) : List Nat := l.map (fun q => q.entries.length)

/-- A queue changed keeps all lengths when the change keeps its own. -/
theorem queueLengths_updateAt {f : Queue → Queue} (hf : ∀ q, (f q).entries.length = q.entries.length) :
    ∀ i l, queueLengths (updateAt i f l) = queueLengths l
  | 0, [] | _ + 1, [] => rfl
  | 0, q :: l => by simp [queueLengths, updateAt, hf]
  | i + 1, q :: l => by
    have rest := queueLengths_updateAt hf i l
    simp only [queueLengths, updateAt, List.map_cons] at rest ⊢
    rw [rest]

@[simp] theorem markEntries_length (c : Car) : ∀ n l, (markEntries c n l).length = l.length
  | 0, [] | _ + 1, [] | 0, _ :: _ => rfl
  | n + 1, e :: l => by
    simp only [markEntries]
    split <;> simp [markEntries_length c _ l]

variable (s : State)

@[simp] theorem modLane_lengths (id : Nat) (f : Lane → Lane) :
    queueLengths (modLane id f s).gqu.queues = queueLengths s.gqu.queues := rfl
@[simp] theorem unjamLane_lengths (id : Nat) :
    queueLengths (unjamLane id s).gqu.queues = queueLengths s.gqu.queues := rfl
@[simp] theorem modLoad_lengths (c : Car) (f : Option Nat → Option Nat) :
    queueLengths (modLoad c f s).gqu.queues = queueLengths s.gqu.queues := rfl
@[simp] theorem judgeLoads_lengths : queueLengths (judgeLoads s).gqu.queues = queueLengths s.gqu.queues := rfl
@[simp] theorem takeAll_lengths (p : ParamBody) :
    queueLengths (takeAll p s).gqu.queues = queueLengths s.gqu.queues := rfl
theorem modQueue_lengths {f : Queue → Queue} (hf : ∀ q, (f q).entries.length = q.entries.length) (q : Nat) :
    queueLengths (modQueue q f s).gqu.queues = queueLengths s.gqu.queues := queueLengths_updateAt hf q _
@[simp] theorem dissolveBatch_lengths (c : Car) :
    queueLengths (dissolveBatch c s).gqu.queues = queueLengths s.gqu.queues := by
  simp only [dissolveBatch]
  split
  · rfl
  · simp [queueLengths_updateAt, Queue.unmarked]
@[simp] theorem boardingClosed_lengths (c : Car) (k : Nat) :
    queueLengths (boardingClosed c k s).gqu.queues = queueLengths s.gqu.queues := by
  simp only [boardingClosed]
  split <;> simp [modQueue_lengths]
@[simp] theorem dissolveBoth_lengths :
    queueLengths (dissolveBoth s).gqu.queues = queueLengths s.gqu.queues := by
  simp [dissolveBoth]
@[simp] theorem abandonTrip_lengths (cause : EndCause) :
    queueLengths (abandonTrip cause s).gqu.queues = queueLengths s.gqu.queues := by
  simp only [abandonTrip]; split <;> simp
@[simp] theorem abandonDeparture_lengths (cause : EndCause) :
    queueLengths (abandonDeparture cause s).gqu.queues = queueLengths s.gqu.queues := by
  simp only [abandonDeparture]; (repeat' split) <;> simp
@[simp] theorem emergencyDemand_lengths (code : Option FaultCode) :
    queueLengths (emergencyDemand code s).gqu.queues = queueLengths s.gqu.queues := by
  simp only [emergencyDemand]; (repeat' split) <;> simp
@[simp] theorem handOn_lengths (c : FaultCode) :
    queueLengths (handOn c s).gqu.queues = queueLengths s.gqu.queues := by
  simp only [handOn]; (repeat' split) <;> simp
@[simp] theorem raise_lengths (k : FaultKey) :
    queueLengths (raise k s).gqu.queues = queueLengths s.gqu.queues := by
  simp [raise]
@[simp] theorem moveStage2_lengths : queueLengths (moveStage2 s).gqu.queues = queueLengths s.gqu.queues := by
  simp [moveStage2]
@[simp] theorem moveStage3_lengths : queueLengths (moveStage3 s).gqu.queues = queueLengths s.gqu.queues := by
  simp [moveStage3]
@[simp] theorem judgeEnvelope_lengths :
    queueLengths (judgeEnvelope s).gqu.queues = queueLengths s.gqu.queues := by
  simp only [judgeEnvelope]; (repeat' split) <;> simp
@[simp] theorem noteEnvelope_lengths :
    queueLengths (noteEnvelope s).gqu.queues = queueLengths s.gqu.queues := by
  simp only [noteEnvelope]; split <;> simp
@[simp] theorem judgeMoment_lengths : queueLengths (judgeMoment s).gqu.queues = queueLengths s.gqu.queues := by
  simp [judgeMoment]
@[simp] theorem passTime_lengths (dt : Nat) :
    queueLengths (passTime dt s).gqu.queues = queueLengths s.gqu.queues :=
  followMoments_keeps (fun s => queueLengths s.gqu.queues) (fun _ _ => rfl) judgeMoment_lengths _ _ s
@[simp] theorem passUntil_lengths (t : Nat) :
    queueLengths (passUntil t s).gqu.queues = queueLengths s.gqu.queues := passTime_lengths s _
@[simp] theorem raiseJams_lengths : ∀ l s, queueLengths (raiseJams l s).gqu.queues = queueLengths s.gqu.queues
  | [], _ => rfl
  | k :: ks, s => by rw [raiseJams, raiseJams_lengths ks]; split <;> simp
@[simp] theorem jamLane_lengths (id : Nat) :
    queueLengths (jamLane id s).gqu.queues = queueLengths s.gqu.queues := by
  simp only [jamLane]; split <;> simp
@[simp] theorem settleExpires_lengths : queueLengths (settleExpires s).gqu.queues = queueLengths s.gqu.queues := by
  simp only [settleExpires]; split <;> simp
@[simp] theorem leaveWindow_lengths (c : Car) :
    queueLengths (leaveWindow c s).gqu.queues = queueLengths s.gqu.queues := by
  simp only [leaveWindow]; (repeat' split) <;> simp
@[simp] theorem followWatch_lengths (c : Car) (xOld : Int) :
    queueLengths (followWatch c xOld s).gqu.queues = queueLengths s.gqu.queues := by
  simp [followWatch]
@[simp] theorem judgeOvertravel_lengths (c : Car) :
    queueLengths (judgeOvertravel c s).gqu.queues = queueLengths s.gqu.queues := by
  simp only [judgeOvertravel]; (repeat' split) <;> simp
@[simp] theorem judgeOvertravels_lengths :
    queueLengths (judgeOvertravels s).gqu.queues = queueLengths s.gqu.queues := by
  simp [judgeOvertravels]
@[simp] theorem restartPosition_lengths :
    queueLengths (restartPosition s).gqu.queues = queueLengths s.gqu.queues := by simp [restartPosition]
@[simp] theorem raiseAll_lengths (cs : List Car) : ∀ s,
    queueLengths (cs.foldl (fun t c => raise ⟨.positionDisagree, c.index⟩ t) s).gqu.queues
      = queueLengths s.gqu.queues := by
  induction cs with
  | nil => intro s; rfl
  | cons c cs ih => intro s; simp only [List.foldl_cons]; rw [ih, raise_lengths]
@[simp] theorem doubt_lengths (cars : List Car) :
    queueLengths (doubt cars s).gqu.queues = queueLengths s.gqu.queues := by
  simp [doubt]
@[simp] theorem referenceAt_lengths (k : Nat) :
    queueLengths (referenceAt k s).gqu.queues = queueLengths s.gqu.queues := by
  simp only [referenceAt]; split <;> simp
@[simp] theorem evaluateReferencing_lengths :
    queueLengths (evaluateReferencing s).gqu.queues = queueLengths s.gqu.queues := by
  simp only [evaluateReferencing]; (repeat' split) <;> simp
@[simp] theorem capture_lengths (j : Nat) (m : MarkerRec) (c : Car) :
    queueLengths (capture j m c s).gqu.queues = queueLengths s.gqu.queues := by
  simp only [capture]; split <;> simp
@[simp] theorem pulse_lengths (j : Nat) : queueLengths (pulse j s).gqu.queues = queueLengths s.gqu.queues := by
  simp only [pulse]; (repeat' split) <;> simp
@[simp] theorem followCars_lengths (xA xB : Int) :
    queueLengths (followCars xA xB s).gqu.queues = queueLengths s.gqu.queues := by
  simp [followCars]
@[simp] theorem judgeEncoders_lengths :
    queueLengths (judgeEncoders s).gqu.queues = queueLengths s.gqu.queues := by
  simp only [judgeEncoders]; split <;> simp
@[simp] theorem disagreementExpires_lengths :
    queueLengths (disagreementExpires s).gqu.queues = queueLengths s.gqu.queues := by
  simp only [disagreementExpires]; split <;> simp
@[simp] theorem restartSpeed_lengths :
    queueLengths (restartSpeed s).gqu.queues = queueLengths s.gqu.queues := by
  simp [restartSpeed]
@[simp] theorem judgeLimits_lengths (c : Chan) (avg : Int) :
    queueLengths (judgeLimits c avg s).gqu.queues = queueLengths s.gqu.queues := by
  simp only [judgeLimits]; (repeat' split) <;> simp
@[simp] theorem convert_lengths (c : Chan) (raw : Nat) :
    queueLengths (convert c raw s).gqu.queues = queueLengths s.gqu.queues := by
  simp only [convert]; (repeat' split) <;> simp
@[simp] theorem conversionMissing_lengths (c : Chan) :
    queueLengths (conversionMissing c s).gqu.queues = queueLengths s.gqu.queues := by
  simp [conversionMissing]
@[simp] theorem restartTensionFaults_lengths :
    queueLengths (restartTensionFaults s).gqu.queues = queueLengths s.gqu.queues := by
  simp only [restartTensionFaults]; (repeat' split) <;> simp
/-- Operations that keep the lengths of the queues keep them one after the other. -/
theorem forEach_lengths (f : Nat → State → State)
    (hf : ∀ i t, queueLengths (f i t).gqu.queues = queueLengths t.gqu.queues) :
    ∀ l s, queueLengths (forEach f l s).gqu.queues = queueLengths s.gqu.queues
  | [], _ => rfl
  | i :: is, s => by rw [forEach, forEach_lengths f hf is, hf]
@[simp] theorem boardingReopened_lengths (i : Nat) :
    queueLengths (boardingReopened i s).gqu.queues = queueLengths s.gqu.queues := by
  simp only [boardingReopened]; (repeat' split) <;> simp
@[simp] theorem terminalOpening_lengths (i : Nat) :
    queueLengths (terminalOpening i s).gqu.queues = queueLengths s.gqu.queues := by
  simp only [terminalOpening]; (repeat' split) <;> simp
@[simp] theorem enterOpen_lengths (i : Nat) (proven : Bool) :
    queueLengths (enterOpen i proven s).gqu.queues = queueLengths s.gqu.queues := by
  simp [enterOpen]
@[simp] theorem enterOpening_lengths (i : Nat) :
    queueLengths (enterOpening i s).gqu.queues = queueLengths s.gqu.queues := by
  simp only [enterOpening]; (repeat' split) <;> simp
@[simp] theorem openSets_lengths (l : List Nat) :
    queueLengths (openSets l s).gqu.queues = queueLengths s.gqu.queues := by
  simp [openSets, forEach_lengths]
@[simp] theorem releasePair_lengths (c : Car) (k : Nat) :
    queueLengths (releasePair c k s).gqu.queues = queueLengths s.gqu.queues := by
  simp [releasePair]
@[simp] theorem askRelease_lengths (c : Car) (k : Nat) :
    queueLengths (askRelease c k s).gqu.queues = queueLengths s.gqu.queues := by
  simp only [askRelease]; split <;> simp
@[simp] theorem askReleases_lengths : queueLengths (askReleases s).gqu.queues = queueLengths s.gqu.queues := by
  simp only [askReleases]; split <;> simp
@[simp] theorem judgePending_lengths (c : Car) :
    queueLengths (judgePending c s).gqu.queues = queueLengths s.gqu.queues := by
  simp only [judgePending]; (repeat' split) <;> simp
@[simp] theorem boardingShut_lengths (i : Nat) :
    queueLengths (boardingShut i s).gqu.queues = queueLengths s.gqu.queues := by
  simp only [boardingShut]; (repeat' split) <;> simp
@[simp] theorem enterLocked_lengths (i : Nat) :
    queueLengths (enterLocked i s).gqu.queues = queueLengths s.gqu.queues := by
  simp only [enterLocked]; split <;> simp
@[simp] theorem raiseObstructed_lengths (i : Nat) :
    queueLengths (raiseObstructed i s).gqu.queues = queueLengths s.gqu.queues := by
  simp only [raiseObstructed]; (repeat' split) <;> simp
@[simp] theorem obstructAlone_lengths (i : Nat) :
    queueLengths (obstructAlone i s).gqu.queues = queueLengths s.gqu.queues := by
  simp [obstructAlone]
@[simp] theorem obstruct_lengths (c : Car) (is : List Nat) :
    queueLengths (obstruct c is s).gqu.queues = queueLengths s.gqu.queues := by
  simp only [obstruct]; (repeat' split) <;> simp [forEach_lengths]
@[simp] theorem sendClosing_lengths (c : Car) (is : List Nat) :
    queueLengths (sendClosing c is s).gqu.queues = queueLengths s.gqu.queues := by
  simp only [sendClosing]; (repeat' split) <;> simp [forEach_lengths]
@[simp] theorem closeWhileDue_lengths (c : Car) :
    ∀ n s, queueLengths (closeWhileDue c n s).gqu.queues = queueLengths s.gqu.queues
  | 0, _ => rfl
  | n + 1, s => by
    simp only [closeWhileDue]
    (repeat' split) <;> simp [closeWhileDue_lengths c n]
@[simp] theorem closeIfDue_lengths (c : Car) :
    queueLengths (closeIfDue c s).gqu.queues = queueLengths s.gqu.queues := by
  simp [closeIfDue]
@[simp] theorem closeOnDemand_lengths (c : Car) :
    queueLengths (closeOnDemand c s).gqu.queues = queueLengths s.gqu.queues := by
  simp only [closeOnDemand]; (repeat' split) <;> simp
@[simp] theorem closeBoth_lengths : queueLengths (closeBoth s).gqu.queues = queueLengths s.gqu.queues := by
  simp [closeBoth]
@[simp] theorem closeAtDwell_lengths (c : Car) :
    queueLengths (closeAtDwell c s).gqu.queues = queueLengths s.gqu.queues := by
  simp only [closeAtDwell]; (repeat' split) <;> simp
@[simp] theorem enterUnproven_lengths (i : Nat) :
    queueLengths (enterUnproven i s).gqu.queues = queueLengths s.gqu.queues := by
  simp [enterUnproven]
@[simp] theorem closedChanged_lengths (i : Nat) (v : Bool) :
    queueLengths (closedChanged i v s).gqu.queues = queueLengths s.gqu.queues := by
  simp only [closedChanged]; split <;> simp
@[simp] theorem openedChanged_lengths (i : Nat) (v : Bool) :
    queueLengths (openedChanged i v s).gqu.queues = queueLengths s.gqu.queues := by
  simp only [openedChanged]; split <;> simp
@[simp] theorem obstructionChanged_lengths (i : Nat) (v : Bool) :
    queueLengths (obstructionChanged i v s).gqu.queues = queueLengths s.gqu.queues := by
  simp only [obstructionChanged]; split <;> simp
@[simp] theorem doorInput_lengths (i : Nat) (x : DoorInput) (v : Bool) :
    queueLengths (doorInput i x v s).gqu.queues = queueLengths s.gqu.queues := by
  simp only [doorInput]; (repeat' split) <;> simp
@[simp] theorem doorReport_lengths (c : Car) (closed opened obstructed : Bool) :
    queueLengths (doorReport c closed opened obstructed s).gqu.queues = queueLengths s.gqu.queues := by
  simp [doorReport]
@[simp] theorem openProofExpires_lengths (i : Nat) :
    queueLengths (openProofExpires i s).gqu.queues = queueLengths s.gqu.queues := by
  simp [openProofExpires]
@[simp] theorem closeProofExpires_lengths (i : Nat) :
    queueLengths (closeProofExpires i s).gqu.queues = queueLengths s.gqu.queues := by
  simp only [closeProofExpires]; split <;> simp
@[simp] theorem dwellExpires_lengths :
    queueLengths (dwellExpires s).gqu.queues = queueLengths s.gqu.queues := by
  simp only [dwellExpires]; (repeat' split) <;> simp
@[simp] theorem raiseUnproven_lengths (i : Nat) :
    queueLengths (raiseUnproven i s).gqu.queues = queueLengths s.gqu.queues := by
  simp only [raiseUnproven]; split <;> simp
@[simp] theorem openTrip_lengths (target : Option Nat) (d : Dir) :
    queueLengths (openTrip target d s).gqu.queues = queueLengths s.gqu.queues := by
  simp only [openTrip]; split <;> simp
@[simp] theorem attempt_lengths : queueLengths (attempt s).gqu.queues = queueLengths s.gqu.queues := by
  simp only [attempt]; (repeat' split) <;> simp
@[simp] theorem overrun_lengths : queueLengths (overrun s).gqu.queues = queueLengths s.gqu.queues := by
  simp [overrun]
@[simp] theorem missStop_lengths (t : TripRec) (k : Nat) :
    queueLengths (missStop t k s).gqu.queues = queueLengths s.gqu.queues := by
  simp only [missStop]; split <;> simp
@[simp] theorem judgeArrival_lengths :
    queueLengths (judgeArrival s).gqu.queues = queueLengths s.gqu.queues := by
  simp only [judgeArrival]; (repeat' split) <;> simp
@[simp] theorem endStop_lengths : queueLengths (endStop s).gqu.queues = queueLengths s.gqu.queues := by
  simp only [endStop]; (repeat' split) <;> simp
@[simp] theorem haulAtStandstill_lengths :
    queueLengths (haulAtStandstill s).gqu.queues = queueLengths s.gqu.queues := by
  simp only [haulAtStandstill]; split <;> simp
@[simp] theorem beginCycle_lengths : queueLengths (beginCycle s).gqu.queues = queueLengths s.gqu.queues := by
  simp only [beginCycle]; (repeat' split) <;> simp
@[simp] theorem enterAutomatic_lengths :
    queueLengths (enterAutomatic s).gqu.queues = queueLengths s.gqu.queues := by
  simp only [enterAutomatic]; split <;> simp
@[simp] theorem trackBrakeReport_lengths (c : Car) (applied : Bool) :
    queueLengths (trackBrakeReport c applied s).gqu.queues = queueLengths s.gqu.queues := by
  simp only [trackBrakeReport]; split <;> simp
@[simp] theorem buttonReport_lengths (c : Car) (pressed : Bool) :
    queueLengths (buttonReport c pressed s).gqu.queues = queueLengths s.gqu.queues := by
  simp only [buttonReport]; (repeat' split) <;> simp
@[simp] theorem carSilent_lengths (c : Car) :
    queueLengths (carSilent c s).gqu.queues = queueLengths s.gqu.queues := by
  simp [carSilent]
@[simp] theorem restartHaul_lengths : queueLengths (restartHaul s).gqu.queues = queueLengths s.gqu.queues := by
  simp only [restartHaul]; (repeat' split) <;> simp
@[simp] theorem restartCarFaults_lengths :
    queueLengths (restartCarFaults s).gqu.queues = queueLengths s.gqu.queues := by
  simp only [restartCarFaults]; (repeat' split) <;> simp
@[simp] theorem newDoors_lengths (n : Nat) :
    queueLengths (newDoors n s).gqu.queues = queueLengths s.gqu.queues := by
  simp only [newDoors]
  rw [forEach_lengths raiseUnproven (fun i t => raiseUnproven_lengths t i)]
  simp only [modDc_gqu, emptySlots_gqu]
  rw [forEach_lengths _ (fun i t => by (repeat' split) <;> simp)]
@[simp] theorem restartDoors_lengths : queueLengths (restartDoors s).gqu.queues = queueLengths s.gqu.queues := by
  simp only [restartDoors]
  rw [forEach_lengths _ (fun i t => by (repeat' split) <;> simp),
    forEach_lengths raiseUnproven (fun i t => raiseUnproven_lengths t i)]
  simp
@[simp] theorem endPulse_lengths (t : Test) (pass : Bool) :
    queueLengths (endPulse t pass s).gqu.queues = queueLengths s.gqu.queues := by
  simp only [endPulse]; split <;> simp
@[simp] theorem judgeSlip_lengths : queueLengths (judgeSlip s).gqu.queues = queueLengths s.gqu.queues := by
  simp only [judgeSlip]; (repeat' split) <;> simp
@[simp] theorem pulseExpires_lengths :
    queueLengths (pulseExpires s).gqu.queues = queueLengths s.gqu.queues := by
  simp only [pulseExpires]; (repeat' split) <;> simp
@[simp] theorem feedback_lengths (b : Brake) (x : FeedbackInput) (v : Bool) :
    queueLengths (feedback b x v s).gqu.queues = queueLengths s.gqu.queues := by
  simp only [feedback]; (repeat' split) <;> simp
@[simp] theorem releaseProofExpires_lengths (b : Brake) :
    queueLengths (releaseProofExpires b s).gqu.queues = queueLengths s.gqu.queues := by
  simp [releaseProofExpires]
@[simp] theorem applyProofExpires_lengths (b : Brake) :
    queueLengths (applyProofExpires b s).gqu.queues = queueLengths s.gqu.queues := by
  simp [applyProofExpires]
@[simp] theorem driveFault_lengths : queueLengths (driveFault s).gqu.queues = queueLengths s.gqu.queues := by
  simp only [driveFault]; (repeat' split) <;> simp
@[simp] theorem driveReport_lengths (ready : Bool) :
    queueLengths (driveReport ready s).gqu.queues = queueLengths s.gqu.queues := by
  simp only [driveReport]; (repeat' split) <;> simp
@[simp] theorem escalationCheck_lengths (v : Nat) :
    queueLengths (escalationCheck v s).gqu.queues = queueLengths s.gqu.queues := by
  simp only [escalationCheck]; (repeat' split) <;> simp
@[simp] theorem restartBrake_lengths (b : Brake) :
    queueLengths (restartBrake b s).gqu.queues = queueLengths s.gqu.queues := by
  simp only [restartBrake]; split <;> simp
@[simp] theorem restartBrakes_lengths :
    queueLengths (restartBrakes s).gqu.queues = queueLengths s.gqu.queues := by
  simp [restartBrakes]
@[simp] theorem enterOff_lengths : queueLengths (enterOff s).gqu.queues = queueLengths s.gqu.queues := by
  simp [enterOff]
@[simp] theorem changeMode_lengths (m' : LineMode) :
    queueLengths (changeMode m' s).gqu.queues = queueLengths s.gqu.queues := by
  simp only [changeMode]; (repeat' split) <;> simp
@[simp] theorem supervisionLoss_lengths :
    queueLengths (supervisionLoss s).gqu.queues = queueLengths s.gqu.queues := by
  simp [supervisionLoss]
@[simp] theorem loadLine_lengths (r : LineRec) :
    queueLengths (loadLine r s).gqu.queues = queueLengths s.gqu.queues := by
  simp [loadLine]
@[simp] theorem resetBrake_lengths (b : Brake) :
    queueLengths (resetBrake b s).gqu.queues = queueLengths s.gqu.queues := by
  simp only [resetBrake]; split <;> simp
@[simp] theorem settlePlant_lengths : queueLengths (settlePlant s).gqu.queues = queueLengths s.gqu.queues := by
  simp [settlePlant]
@[simp] theorem settleDoors_lengths : queueLengths (settleDoors s).gqu.queues = queueLengths s.gqu.queues := by
  simp [settleDoors]
@[simp] theorem runAttempts_lengths (before : State) :
    queueLengths (runAttempts before s).gqu.queues = queueLengths s.gqu.queues := by
  simp only [runAttempts]; (repeat' split) <;> simp
@[simp] theorem settleHaul_lengths (before : State) :
    queueLengths (settleHaul before s).gqu.queues = queueLengths s.gqu.queues := by
  simp [settleHaul]
@[simp] theorem settle_lengths (before : State) :
    queueLengths (settle before s).gqu.queues = queueLengths s.gqu.queues := by
  simp [settle]
@[simp] theorem finish_lengths (before : State) :
    queueLengths (finish before s).gqu.queues = queueLengths s.gqu.queues := by
  simp [finish]

end Sys2Proof.Machine
end

section

namespace Sys2Proof.Machine

/-! ### What a step can do, and how an invariant of every step is proved -/

/-- The rules that the events of the field and the expiries of the intervals fire. -/
inductive FieldRule : (State → State) → Prop
  | nothing : FieldRule id
  | restart : FieldRule lineRestart
  | edge (e : Encoder) (d : Dir) : FieldRule (takeEdge e d)
  | presence (i : Nat) (v : PresenceReport) : FieldRule (presence i v)
  | pulse (j : Nat) : FieldRule (takePulse j)
  | conversion (c : Chan) (raw : Nat) : FieldRule (convert c raw)
  | feedback (b : Brake) (x : FeedbackInput) (v : Bool) : FieldRule (feedback b x v)
  | drive (ready : Bool) : FieldRule (driveReport ready)
  | trackBrake (c : Car) (applied : Bool) : FieldRule (trackBrakeReport c applied)
  | button (c : Car) (pressed : Bool) : FieldRule (buttonReport c pressed)
  | stopRequest (c : Car) (station : Nat) : FieldRule (stopRequest c station)
  | carDoors (c : Car) (closed opened obstructed : Bool) :
      FieldRule (fun t => doorReport c closed opened obstructed (carMessage c t))
  | platformDoor (i : Nat) (x : DoorInput) (v : Bool) : FieldRule (doorInput i x v)
  | presentation (id serial : Nat) : FieldRule (present id serial)
  | passage (id : Nat) : FieldRule (passLane id)
  | jam (id : Nat) : FieldRule (jamLane id)
  | jamGone (id : Nat) : FieldRule (unjamLane id)
  | quiet (e : Encoder) : FieldRule (quiet e)
  | disagreement : FieldRule disagreementExpires
  | conversionMissing (c : Chan) : FieldRule (conversionMissing c)
  | releaseProof (b : Brake) : FieldRule (releaseProofExpires b)
  | applyProof (b : Brake) : FieldRule (applyProofExpires b)
  | sample : FieldRule escalationSample
  | check (v : Nat) : FieldRule (escalationCheck v)
  | warning : FieldRule warningExpires
  | testPulse : FieldRule pulseExpires
  | silence (c : Car) : FieldRule (carSilent c)
  | openProof (i : Nat) : FieldRule (openProofExpires i)
  | closeProof (i : Nat) : FieldRule (closeProofExpires i)
  | dwell : FieldRule dwellExpires
  | timeout (id : Nat) : FieldRule (timeoutLane id)
  | settling : FieldRule settleExpires
  | supervision : FieldRule supervisionLoss
  | gap : FieldRule gapExpires

/-- What a command can make of a state. -/
inductive Moves (s : State) : State → Prop
  | stays : Moves s s
  | reset : Moves s (fullReset s)
  | frame (f : HeldFrame) : Moves s (frameArrives f s)
  | byte (b : Byte) : Moves s (linkByte b s)
  | sent (u : Nat) : Moves s (serve (event (fun x => idle (passUntil u x)) s))
  | now {f : State → State} (rule : FieldRule f) : Moves s (event f s)
  | later {f : State → State} (dt : Nat) (rule : FieldRule f) :
      Moves s (event (fun x => f (passTime dt x)) s)

/-- Every command moves the part in one of these ways. -/
theorem exec_moves {i : Instr} {s t : State} (hx : exec i s = .next t) : Moves s t := by
  have request : ∀ x r, .next (requestArrives x r s) = (.next t : Result) → Moves s t := by
    rintro x r ⟨⟩
    exact .frame _
  have happens : ∀ f, FieldRule f → .next (event f s) = (.next t : Result) → Moves s t := by
    rintro f rule ⟨⟩
    exact .now rule
  have changes : ∀ (same : Prop) [Decidable same] f, FieldRule f →
      (if same then .next s else .next (event f s)) = (.next t : Result) → Moves s t := by
    intro same _ f rule hx
    split at hx
    · cases hx
      exact .stays
    · exact happens f rule hx
  have expires : ∀ due f, FieldRule f → .next (expire due f s) = (.next t : Result) → Moves s t := by
    rintro due f rule ⟨⟩
    cases due with
    | none => exact .stays
    | some u => exact .later (u - s.now) rule
  have passes : ∀ f dt, FieldRule f → .next (event (fun x => f (passTime dt x)) s) = (.next t : Result) →
      Moves s t := by
    rintro f dt rule ⟨⟩
    exact .later dt rule
  cases i with
  | fullReset => cases hx; exact .reset
  | unknownKindFrame x kind => cases hx; exact .frame _
  | linkByte b => cases hx; exact .byte b
  | frameSendEnd =>
    simp only [exec, execFrameSendEnd] at hx
    split at hx
    · cases hx
      exact .stays
    · cases hx
      exact .sent _
  | encoderEdge e d n => exact passes _ n (.edge e d) hx
  | estimateDecay n | effectiveCeilingFall n => exact passes _ n .nothing hx
  | restartLine => exact happens _ .restart hx
  | markerPulse j => exact happens _ (.pulse _) hx
  | tensionConversion c raw => exact happens _ (.conversion ..) hx
  | carTrackBrakeReport c v => exact happens _ (.trackBrake ..) hx
  | carEmergencyButtonReport c v => exact happens _ (.button ..) hx
  | carStopRequest c n => exact happens _ (.stopRequest ..) hx
  | carDoorReport c x y z => exact happens _ (.carDoors ..) hx
  | lanePresentation lane serial => exact happens _ (.presentation ..) hx
  | lanePassage lane => exact happens _ (.passage _) hx
  | leafJam lane => exact happens _ (.jam _) hx
  | leafJamWithdrawn lane => exact happens _ (.jamGone _) hx
  | presenceChange i v => exact changes _ _ (.presence ..) hx
  | brakeFeedbackChange b x v => exact changes _ _ (.feedback ..) hx
  | driveReportChange ready => exact changes _ _ (.drive _) hx
  | platformDoorInputChange i x v => exact changes _ _ (.platformDoor ..) hx
  | quietExpiry e => exact expires _ _ (.quiet e) hx
  | disagreementIntervalExpiry => exact expires _ _ .disagreement hx
  | missingConversionExpiry c => exact expires _ _ (.conversionMissing c) hx
  | releaseProofExpiry b => exact expires _ _ (.releaseProof b) hx
  | applyProofExpiry b => exact expires _ _ (.applyProof b) hx
  | escalationSample => exact expires _ _ .sample hx
  | escalationCheck => exact expires _ _ (.check _) hx
  | warningExpiry => exact expires _ _ .warning hx
  | pulseExpiry => exact expires _ _ .testPulse hx
  | carLineSilenceExpiry c => exact expires _ _ (.silence c) hx
  | openProofExpiry i => exact expires _ _ (.openProof _) hx
  | closeProofExpiry i => exact expires _ _ (.closeProof _) hx
  | dwellExpiry => exact expires _ _ .dwell hx
  | passageTimeout lane => exact expires _ _ (.timeout _) hx
  | settleIntervalExpiry => exact expires _ _ .settling hx
  | supervisionExpiry => exact expires _ _ .supervision hx
  | gapIntervalExpiry => exact expires _ _ .gap hx
  | lineClockStop => exact expires _ _ .nothing hx
  | _ => exact request _ _ hx

/-- A step takes a command from the queue and carries it out, or lets an interval expire or time pass. -/
theorem step_moves {s t : State} (hx : step s = .next t) : Moves s t ∨ ∃ q, Moves (s.setPending q) t := by
  simp only [step] at hx
  split at hx
  · next c rest _ => exact .inr ⟨rest, exec_moves hx⟩
  · left
    simp only [idleStep] at hx
    have waits : ∀ dt, .next (event (passTime dt) s) = (.next t : Result) → Moves s t := by
      rintro dt ⟨⟩
      exact Moves.later (f := id) dt .nothing
    (repeat' split at hx)
    · exact waits _ hx
    · exact exec_moves hx
    · exact waits _ hx

/-- A property of the state that each part of an event keeps. -/
structure KeptByParts (P : State → Prop) : Prop where
  pending : ∀ q s, P s → P (s.setPending q)
  link : ∀ f s, P s → P (s.modLl f)
  valid : ∀ s, P s → P (validFrame s)
  time : ∀ dt s, P s → P (passTime dt s)
  finish : ∀ before s, P s → P (finish before s)
  transmit : ∀ s, P s → P (transmit s)
  own : ∀ level r s, P s → Answer.All P (own level r s)
  rule : ∀ f, FieldRule f → ∀ s, P s → P (f s)
  reset : ∀ s, P s → P (fullReset s)

namespace KeptByParts

variable {P : State → Prop} (K : KeptByParts P) {s : State}
include K

theorem event {f : State → State} (h : P (f s)) : P (event f s) := K.transmit _ (K.finish _ _ h)

theorem receive (f : HeldFrame) (h : P s) : P (receive f s) := by
  simp only [Machine.receive]
  split
  · exact K.valid _ (K.link _ _ h)
  · exact h

theorem judgeFrame (f : HeldFrame) (h : P s) : P (judgeFrame f s).1 := by
  simp only [Machine.judgeFrame]
  (repeat' split)
  · exact h
  · exact h
  · exact h
  · exact K.own _ _ _ h _ _ ‹_›
  · exact h

theorem take (f : HeldFrame) (h : P s) : P (take f s) :=
  K.transmit _ (K.link _ _ (K.finish _ _ (K.judgeFrame f (K.link _ _ h))))

theorem serveWhile : ∀ n s, P s → P (serveWhile n s)
  | 0, _, h => h
  | n + 1, s, h => by
    simp only [Machine.serveWhile]
    split
    · exact serveWhile n _ (K.take _ h)
    · exact h

theorem serve (h : P s) : P (serve s) := K.serveWhile 2 s h

theorem byteIn (b : Byte) (h : P s) : P (byteIn b s) := by
  have hunted : P (hunt s) := K.link _ _ h
  have framed : ∀ l, P (inFrame l s) := fun l => K.link _ _ h
  simp only [Machine.byteIn, checkFrame]
  (repeat' split)
  · exact framed _
  · exact h
  · exact framed _
  · exact hunted
  · exact framed _
  · exact K.receive _ hunted
  · exact hunted

theorem moves {t : State} (m : Moves s t) (h : P s) : P t := by
  cases m with
  | stays => exact h
  | reset => exact K.reset s h
  | frame f => exact K.serve (K.event (K.receive f h))
  | byte b => exact K.serve (K.event (K.byteIn b h))
  | sent u => exact K.serve (K.event (K.link _ _ (K.time _ _ h)))
  | now rule => exact K.event (K.rule _ rule _ h)
  | later dt rule => exact K.event (K.rule _ rule _ (K.time _ _ h))

/-- What the parts keep every step keeps. -/
theorem step {t : State} (h : P s) (hx : step s = .next t) : P t := by
  rcases step_moves hx with m | ⟨q, m⟩
  · exact K.moves m h
  · exact K.moves m (K.pending q s h)

end KeptByParts

end Sys2Proof.Machine
end

section

namespace Sys2Proof.Machine

/-! ### Presentations (08 R132) -/

/-- The entries of queue q, none when there is no such queue. -/
def State.entriesAt (s : State) (q : Nat) : List Entry := (s.gqu.queues[q]?.map Queue.entries).getD []

theorem entriesAt_of {s : State} {q : Nat} {x : Queue} (h : s.gqu.queues[q]? = some x) :
    s.entriesAt q = x.entries := by
  simp [State.entriesAt, h]

/-- What the ticket table gives a presentation at lane l, whose queue is number q (07 R115). -/
def State.verdict (s : State) (l : Lane) (d : Dir) (q serial : Nat) : Verdict :=
  validate serial l.station d ((s.entriesAt q).any (fun e => decide (e.serial = serial))) s.tt

/-- A ticket admitted: its PENDING entry at the tail of the queue, and the passage window (08 R132). -/
def admitPresentation (l : Lane) (q serial : Nat) (v : Verdict) (s : State) : State :=
  modLane l.id (Lane.letIn s.tt.day serial
      { serial := serial, undo := v.undo, start := s.tt.clock, due := s.now + s.gqu.passageMs * 1000 })
    (modQueue q (Queue.append { serial := serial, cls := v.cls, lane := l.id, admitted := none, batch := none })
      (s.modTt fun _ => v.tt))

/-- The steps of a presentation in their order (07 R115). -/
theorem presentAt_eq (l : Lane) (d : Dir) (q serial : Nat) (s : State) : presentAt l d q serial s =
    if s.laneState l ≠ .open then modLane l.id (Lane.refuse s.tt.day serial .laneClosed) s
    else if 160 ≤ (s.entriesAt q).length then modLane l.id (Lane.refuse s.tt.day serial .queueFull) s
    else if (s.verdict l d q serial).outcome = .admits then
      admitPresentation l q serial (s.verdict l d q serial) s
    else modLane l.id (Lane.refuse s.tt.day serial (s.verdict l d q serial).outcome)
      (s.modTt fun _ => (s.verdict l d q serial).tt) := by
  cases found : s.gqu.queues[q]? with
  | none => simp only [presentAt, State.verdict, State.entriesAt, found]; rfl
  | some x => simp only [presentAt, State.verdict, State.entriesAt, found]; rfl

/-! ### Queues of 160 entries at most (08 R137) -/

/-- No queue of a list holds more than 160 entries. -/
def QueuesHeld (l : List Queue) : Prop := ∀ n ∈ queueLengths l, n ≤ 160

theorem queuesHeld_iff (l : List Queue) : QueuesHeld l ↔ ∀ q ∈ l, q.entries.length ≤ 160 := by
  simp [QueuesHeld, queueLengths]

/-- A queue changed stays within its bound when its new length is within it. -/
theorem queuesHeld_updateAt {f : Queue → Queue} {l : List Queue} {i : Nat} (h : QueuesHeld l)
    (hf : ∀ q, l[i]? = some q → q.entries.length ≤ 160 → (f q).entries.length ≤ 160) :
    QueuesHeld (updateAt i f l) := by
  rw [queuesHeld_iff] at h ⊢
  intro q hq
  obtain ⟨j, hj⟩ := List.mem_iff_getElem?.1 hq
  rw [getElem?_updateAt] at hj
  split at hj
  · next same =>
    subst same
    obtain ⟨x, hx, rfl⟩ := Option.map_eq_some_iff.1 hj
    exact hf x hx (h x (List.mem_of_getElem? hx))
  · exact h q (List.mem_of_getElem? hj)

/-- A queue that a change does not lengthen stays within its bound. -/
theorem queuesHeld_shorter {f : Queue → Queue} {l : List Queue} (i : Nat) (h : QueuesHeld l)
    (hf : ∀ q, (f q).entries.length ≤ q.entries.length) : QueuesHeld (updateAt i f l) :=
  queuesHeld_updateAt h fun q _ => (hf q).trans

/-- Admitting an entry moves it and drops none but entries of its serial (08 R133). -/
theorem admitEntry_length (serial clock : Nat) (q : Queue) :
    (q.admitEntry serial clock).entries.length ≤ q.entries.length := by
  simp only [Queue.admitEntry]
  split
  · exact le_rfl
  · next e found =>
    have mem : e ∈ q.entries := List.mem_of_find?_eq_some found
    obtain ⟨same, none⟩ : e.serial = serial ∧ e.admitted = none := by simpa using List.find?_some found
    have parts := List.length_eq_length_filter_add (l := q.entries) (fun x => x.admitted.isSome)
    have rest : q.entries.filter (fun x => x.admitted.isNone && decide (x.serial ≠ serial))
        = (q.entries.filter (fun x => !x.admitted.isSome)).filter (fun x => decide (x.serial ≠ serial)) := by
      simp [List.filter_filter, Bool.and_comm]
    have fewer : ((q.entries.filter (fun x => !x.admitted.isSome)).filter (fun x => decide (x.serial ≠ serial))).length
        < (q.entries.filter (fun x => !x.admitted.isSome)).length :=
      List.length_filter_lt_length_iff_exists.2 ⟨e, by simpa [mem] using none, by simp [same]⟩
    rw [← rest] at fewer
    simp only [List.length_append, List.length_singleton]
    omega

theorem newQueues_held (n : Nat) : QueuesHeld (newQueues n) := by
  rw [queuesHeld_iff]
  intro q hq
  rw [List.eq_of_mem_replicate hq]
  exact Nat.zero_le _

section

variable {s : State}

theorem modQueue_held {f : Queue → Queue} (q : Nat) (hf : ∀ q, (f q).entries.length ≤ q.entries.length)
    (h : QueuesHeld s.gqu.queues) : QueuesHeld (modQueue q f s).gqu.queues := queuesHeld_shorter q h hf

theorem modLaneQueue_held {f : Queue → Queue} (l : Lane) (hf : ∀ q, (f q).entries.length ≤ q.entries.length)
    (h : QueuesHeld s.gqu.queues) : QueuesHeld (modLaneQueue l f s).gqu.queues := by
  simp only [modLaneQueue]
  split
  · exact modQueue_held _ hf h
  · exact h

theorem passLane_held (id : Nat) (h : QueuesHeld s.gqu.queues) : QueuesHeld (passLane id s).gqu.queues := by
  simp only [passLane]
  (repeat' split)
  · exact h
  · exact h
  · exact h
  · exact modLaneQueue_held _ (admitEntry_length _ _) h
  · exact h

theorem timeoutLane_held (id : Nat) (h : QueuesHeld s.gqu.queues) : QueuesHeld (timeoutLane id s).gqu.queues := by
  simp only [timeoutLane]
  (repeat' split)
  · exact h
  · exact h
  · exact modLaneQueue_held _ (fun q => List.length_filter_le _ _) h

/-- A ticket is admitted to a queue of fewer than 160 entries alone (08 R132). -/
theorem presentAt_held (l : Lane) (d : Dir) (q serial : Nat) (h : QueuesHeld s.gqu.queues) :
    QueuesHeld (presentAt l d q serial s).gqu.queues := by
  rw [presentAt_eq]
  split
  · exact h
  · split
    · exact h
    · next room =>
      split
      · refine queuesHeld_updateAt h fun x hx _ => ?_
        rw [entriesAt_of (s := s) hx] at room
        simp only [Queue.append, List.length_append, List.length_singleton]
        omega
      · exact h

theorem present_held (id serial : Nat) (h : QueuesHeld s.gqu.queues) :
    QueuesHeld (present id serial s).gqu.queues := by
  simp only [present]
  (repeat' split)
  · exact h
  · exact h
  · exact h
  · exact presentAt_held _ _ _ _ h

theorem commitBatch_held (c : Car) (h : QueuesHeld s.gqu.queues) :
    QueuesHeld (commitBatch c s).gqu.queues := by
  cases batch : s.gqu.batches.car c with
  | none => simpa only [commitBatch, batch, mark_gqu] using h
  | some b =>
    rw [commitBatch_queues batch]
    exact queuesHeld_shorter _ h fun q => List.length_filter_le _ _

theorem judgeCommit_held (h : QueuesHeld s.gqu.queues) : QueuesHeld (judgeCommit s).gqu.queues := by
  simp only [judgeCommit]
  (repeat' split)
  · exact h
  · exact commitBatch_held .b (commitBatch_held .a h)
  · exact h

theorem judgeMovement_held (before : State) (h : QueuesHeld s.gqu.queues) :
    QueuesHeld (judgeMovement before s).gqu.queues := by
  have judged : QueuesHeld (judgeApproach (judgeCrossing (before.carPos .a) s)).gqu.queues := by simpa using h
  simpa only [QueuesHeld, judgeMovement, judgeSlip_lengths] using judgeCommit_held judged

theorem takeEdge_held (e : Encoder) (d : Dir) (h : QueuesHeld s.gqu.queues) :
    QueuesHeld (takeEdge e d s).gqu.queues := by
  cases e with
  | drive =>
    simp only [takeEdge, driveEdge]
    exact judgeMovement_held _ (by simpa [QueuesHeld] using h)
  | sheave => simpa [takeEdge] using h

theorem presence_held (i : Nat) (v : PresenceReport) (h : QueuesHeld s.gqu.queues) :
    QueuesHeld (presence i v s).gqu.queues := by
  simp only [presence]
  split
  · exact judgeMovement_held _ (by simpa [QueuesHeld] using h)
  · exact h

theorem takePulse_held (j : Nat) (h : QueuesHeld s.gqu.queues) : QueuesHeld (takePulse j s).gqu.queues := by
  simp only [takePulse]
  split
  · exact judgeMovement_held _ (by simpa [QueuesHeld] using h)
  · exact h

theorem quiet_held (e : Encoder) (h : QueuesHeld s.gqu.queues) : QueuesHeld (quiet e s).gqu.queues := by
  simp only [quiet, beginStandstill]
  split
  · exact judgeMovement_held _ (by simpa [QueuesHeld] using h)
  · simpa using h

theorem restartGates_held : QueuesHeld (restartGates s).gqu.queues := by
  simp only [QueuesHeld, restartGates, raiseJams_lengths]
  simp [queueLengths]

theorem lineRestart_held : QueuesHeld (lineRestart s).gqu.queues := by
  simpa [QueuesHeld, lineRestart] using
    restartGates_held (s := restartHaul (restartTest (emptyFaults (restartNotices (restartMode s)))))

theorem acceptLine_held (r : LineRec) : QueuesHeld (acceptLine r s).gqu.queues := by
  simpa [QueuesHeld, acceptLine] using newQueues_held r.stations

end

/-! ### A passback list of 64 entries at most (07 R120) -/

/-- A write leaves a list that was within 64 entries within it: a full list gives up its oldest (07 R120). -/
theorem writePassback_length {l : List PassbackEntry} (e : PassbackEntry) (h : l.length ≤ 64) :
    (writePassback e l).length ≤ 64 := by
  have rest : (withoutSerial e.serial l).length ≤ l.length := List.length_filter_le _ _
  simp only [writePassback]
  split <;> simp <;> omega

@[simp] theorem pass_passback (dt : Nat) (t : Tt) : (t.pass dt).passback = t.passback := by
  simp only [Tt.pass]
  split_ifs <;> rfl

theorem swept_length (t : Tt) : t.swept.passback.length ≤ t.passback.length := List.length_filter_le _ _

theorem undoValidation_passback (serial : Nat) (u : Undo) (t : Tt) :
    (undoValidation serial u t).passback.length ≤ t.passback.length := by
  cases u with
  | mark bit | nothing => exact le_rfl
  | passback station time => exact List.length_filter_le _ _

theorem setDay_passback (day time : Nat) (t : Tt) : (t.setDay day time).passback.length ≤ t.passback.length := by
  simp only [Tt.setDay]
  split
  · exact List.length_filter_le _ _
  · exact Nat.zero_le _

/-- A validation writes at most one entry (07 R117, R120). -/
theorem validate_passback (serial station : Nat) (d : Dir) (queued : Bool) {t : Tt} (h : t.passback.length ≤ 64) :
    (validate serial station d queued t).tt.passback.length ≤ 64 := by
  have swept : t.swept.passback.length ≤ 64 := (swept_length t).trans h
  have written := fun e => writePassback_length e swept
  simp only [validate, classCheck]
  (repeat' split)
  all_goals first | exact h | exact swept | exact written _

end Sys2Proof.Machine
end

section

namespace Sys2Proof.Machine

/-! ### Every step keeps the queues and the passback list within their bounds -/

/-- What O10 says of a state, one field per block. -/
structure State.ListsHeld (s : State) : Prop where
  queues : QueuesHeld s.gqu.queues
  passback : s.tt.passback.length ≤ 64

theorem listsHeld_iff (s : State) : s.ListsHeld ↔ s.listsBounded := by
  rw [State.listsBounded, ← queuesHeld_iff]
  exact ⟨fun h => ⟨h.queues, h.passback⟩, fun ⟨queues, passback⟩ => ⟨queues, passback⟩⟩

/-- The bounds hold after an operation when they hold in each block; a block whose lists keep their lengths needs
no more than its frame lemma. -/
theorem State.ListsHeld.step {s t : State} (h : s.ListsHeld)
    (queues : QueuesHeld s.gqu.queues → QueuesHeld t.gqu.queues := by simp [QueuesHeld])
    (passback : s.tt.passback.length ≤ 64 → t.tt.passback.length ≤ 64 := by simp) : t.ListsHeld :=
  ⟨queues h.queues, passback h.passback⟩

section

variable {s : State} (h : s.ListsHeld)
include h

theorem listsHeld_present (id serial : Nat) : (present id serial s).ListsHeld :=
  h.step (queues := present_held id serial) (passback := fun hp => by
    simp only [present]
    (repeat' split)
    · exact hp
    · exact hp
    · exact hp
    · rw [presentAt_eq]
      (repeat' split)
      · exact hp
      · exact hp
      · exact validate_passback _ _ _ _ hp
      · exact validate_passback _ _ _ _ hp)

theorem listsHeld_closeDoors {pair : Nat} : Answer.All State.ListsHeld (closeDoors pair s) := by
  have cleared : ∀ l, (forEach (fun i => modDoor i (fun d => { d with reopen := 0, hold := false })) l s).ListsHeld := by
    intro l
    have queues := forEach_lengths (fun i => modDoor i (fun d => { d with reopen := 0, hold := false }))
      (fun i t => by simp) l s
    have tickets := forEach_tt (fun i => modDoor i (fun d => { d with reopen := 0, hold := false }))
      (fun i t => by simp) l s
    exact h.step (queues := by simp [QueuesHeld, queues]) (passback := by simp [tickets])
  simp only [closeDoors]
  (repeat' split) <;> simp only [all_error, all_done]
  · exact h
  · next c _ _ r _ => exact (cleared (s.pairSets c r.stop)).step

theorem listsHeld_own {level : Nat} {r : Request} : Answer.All State.ListsHeld (own level r s) := by
  cases r with
  | lineSet x =>
    simp only [own, setLine]
    split_ifs <;> simp only [all_error, all_done]
    exact h.step (queues := fun _ => acceptLine_held _)
  | markersSet limit l =>
    simp only [own, setMarkers]
    (repeat' split) <;> simp only [all_error, all_done]
    all_goals exact h.step
  | profileSet p =>
    simp only [own, setProfile]
    (repeat' split) <;> simp only [all_error, all_done]
    all_goals exact h.step
  | tensionSet one two =>
    simp only [own, setTension]
    split <;> simp only [all_error, all_done]
    exact h.step
  | lanesSet l =>
    simp only [own, setLanes]
    (repeat' split) <;> simp only [all_error, all_done]
    exact h.step
  | postsSet l =>
    simp only [own, setPosts]
    split <;> simp only [all_error, all_done]
    exact h.step
  | paramSet scope p =>
    simp only [own, setParams, takeTiming]
    (repeat' split) <;> simp only [all_error, all_done]
    all_goals exact h.step
  | ticketsLoad t =>
    simp only [own, loadTickets]
    (repeat' split) <;> simp only [all_error, all_done]
    all_goals exact h.step
  | ticketsDrop b =>
    simp only [own, dropTickets]
    (repeat' split) <;> simp only [all_error, all_done]
    all_goals exact h.step
  | ticketQuery n =>
    simp only [own, queryTicket]
    split <;> simp only [all_error, all_ok]
    exact h.step (passback := (swept_length _).trans)
  | daySet day time =>
    simp only [own, setDay]
    (repeat' split) <;> simp only [all_error, all_done]
    all_goals exact h.step (passback := (setDay_passback day time _).trans)
  | modeSet m =>
    simp only [own, setMode]
    (repeat' split) <;> simp only [all_error, all_done]
    · exact h
    · exact h.step
  | dispatch t d =>
    simp only [own, dispatchTrip]
    split <;> simp only [all_error, all_ok]
    exact h.step
  | hold =>
    simp only [own, holdTrip]
    split <;> simp only [all_error, all_done]
    all_goals exact h.step
  | resume =>
    simp only [own, resumeTrip]
    (repeat' split) <;> simp only [all_error, all_ok]
    all_goals exact h.step
  | stopNow => exact (all_done _ _).2 h.step
  | tripReset =>
    simp only [own, resetTrip]
    (repeat' split) <;> simp only [all_error, all_done]
    all_goals exact h.step
  | doors o p a =>
    simp only [own, ownDoors, openDoors, holdDoors, unholdDoors]
    (repeat' split) <;> simp only [all_error, all_done, listsHeld_closeDoors h]
    all_goals exact h.step
  | lane l o =>
    simp only [own, ownLane, setLaneClosed, clearLane]
    (repeat' split) <;> simp only [all_error, all_done]
    all_goals exact h.step
  | queue q o =>
    simp only [own, ownQueue, setQueueClosed]
    (repeat' split) <;> simp only [all_error, all_done]
    all_goals exact h.step (queues := modQueue_held q fun _ => le_rfl)
  | forceStop k o =>
    simp only [own, ownForceStop, forceStop]
    (repeat' split) <;> simp only [all_error, all_done]
    all_goals exact h.step
  | weatherSet w =>
    simp only [own, setWeather]
    split <;> simp only [all_error, all_done]
    exact h.step
  | amend c g v a d =>
    simp only [own, amendClass]
    (repeat' split) <;> simp only [all_error, all_ok]
    all_goals exact h.step
  | brakeTest b d t u =>
    simp only [own, testBrake]
    (repeat' split) <;> simp only [all_error, all_done]
    exact h.step
  | faultsAck => exact (all_ok _ _ _).2 h.step
  | restart =>
    simp only [own, restartLineRequest]
    split <;> simp only [all_error, all_done]
    exact h.step (queues := fun _ => lineRestart_held)
  | carRead c =>
    simp only [own, readCar]
    split <;> simp [h]
  | queueRead q p =>
    simp only [own, readQueue]
    split <;> simp [h]
  | laneRead l =>
    simp only [own, readLane]
    split <;> simp [h]
  | statusRead | faultsRead | tripRead | brakesRead | tensionRead => exact (all_ok _ _ _).2 h

theorem listsHeld_rule {f : State → State} (rule : FieldRule f) : (f s).ListsHeld := by
  cases rule with
  | nothing => exact h
  | restart => exact h.step (queues := fun _ => lineRestart_held)
  | edge e d => exact h.step (queues := takeEdge_held e d)
  | presence i v => exact h.step (queues := presence_held i v)
  | pulse j => exact h.step (queues := takePulse_held j)
  | quiet e => exact h.step (queues := quiet_held e)
  | presentation id serial => exact listsHeld_present h id serial
  | passage id => exact h.step (queues := passLane_held id)
  | timeout id =>
    exact h.step (queues := timeoutLane_held id) (passback := fun hp => by
      simp only [timeoutLane]
      (repeat' split)
      · exact hp
      · exact hp
      · exact (undoValidation_passback _ _ _).trans (by simpa using hp))
  | gap => exact (h.step : (s.modLl fun l => { l with rx := none, gapDue := none }).ListsHeld)
  | _ => exact h.step

end

theorem listsHeld_reset (s : State) : (fullReset s).ListsHeld := by
  have fresh : (resetState s).ListsHeld := ⟨by simp [QueuesHeld, queueLengths, resetState, Gqu.reset], Nat.zero_le _⟩
  rw [fullReset]
  exact fresh.step

theorem listsHeld_kept : KeptByParts State.ListsHeld where
  pending _ _ h := h.step
  link _ _ h := h.step
  valid _ h := h.step
  time dt s h := h.step (passback := by simp [passTime_tt])
  finish _ _ h := h.step
  transmit _ h := h.step
  own _ _ _ h := listsHeld_own h
  rule _ rule _ h := listsHeld_rule h rule
  reset s _ := listsHeld_reset s

/-- Settles O10: no operation but a presentation lengthens a queue or the passback list, and a presentation does
so below the bound alone. -/
theorem queuesAndPassbackListStayBounded : Obligations.QueuesAndPassbackListStayBounded := by
  intro s t h hx
  rw [← listsHeld_iff] at h ⊢
  exact listsHeld_kept.step h hx

end Sys2Proof.Machine
end

section

namespace Sys2Proof.Machine

/-! ### DAY_SET (07 R123) -/

/-- The ticket table after a DAY_SET, its passback list written by whether the day is new (07 R123). -/
theorem setDay_eq (day time : Nat) (t : Tt) : t.setDay day time = { t with
    day := day, clock := time, clockUs := 0,
    passback := if day = t.day then t.passback.filter (fun e => decide (e.time ≤ time)) else [] } := rfl

/-- DAY_SET of a time of day keeps the service day or begins a new one, which BRAKES reports (07 R123). -/
theorem setDay_accepted {s : State} {day time : Nat} (inside : time ≤ 86399999) : setDay day time s = done
    (if day = s.tt.day then s.modTt (Tt.setDay day time) else mark .brakes (s.modTt (Tt.setDay day time))) := by
  rw [setDay, if_neg (Nat.not_lt.2 inside)]

/-- Settles O29: the bound of the time, and the table that the same day and a new one leave. -/
theorem daySetSetsDayClockAndPassbackList : Obligations.DaySetSetsDayClockAndPassbackList := by
  rintro s q h day time rfl hp
  refine ⟨fun late => refusedWith_of_own rfl rfl hp ?_, fun inside =>
    ⟨_, doneWith_of_own rfl rfl hp (setDay_accepted inside), ?_⟩⟩
  · simp only [own, setDay, if_pos late]
  · generalize s.asTaken h (.daySet day time) = q
    have table : (if day = q.tt.day then q.modTt (Tt.setDay day time)
        else mark .brakes (q.modTt (Tt.setDay day time))).tt = q.tt.setDay day time := by
      split <;> simp
    refine ⟨table.trans (setDay_eq ..), fun same => ?_, fun new => ?_⟩
    · rw [table, if_pos same]
      rfl
    · rw [table, if_neg new]
      rfl

/-! ### TICKETS_LOAD (07 R110, R111) -/

/-- A block of an id and a range of serials stands in the way of another: the same id, or a serial in common
(07 R110). -/
def TicketBlock.clashes (x : TicketBlock) (b : TicketBody) : Prop :=
  x.id = b.block ∨ x.first < b.first + b.count ∧ b.first < x.first + x.count

theorem clashes_iff (s : State) (b : TicketBody) : s.tt.blocks.any (fun x =>
    decide (x.id = b.block) || rangesMeet x.first x.count b.first b.count) = true ↔
      ∃ x ∈ s.tt.blocks, x.clashes b := by
  simp [rangesMeet, TicketBlock.clashes]

theorem unclashed {s : State} {b : TicketBody} (clear : ∀ x ∈ s.tt.blocks, ¬x.clashes b) :
    ¬s.tt.blocks.any (fun x => decide (x.id = b.block) || rangesMeet x.first x.count b.first b.count) = true :=
  fun clash => by
    obtain ⟨x, hx, meets⟩ := (clashes_iff s b).1 clash
    exact clear x hx meets

/-- The block that a TICKETS_LOAD of class c adds (07 R110, R111). -/
def loadedBlock (b : TicketBody) (c : TicketClass) : TicketBlock :=
  { id := b.block, first := b.first, count := b.count, cls := c, firstDay := b.firstDay,
    lastDay := b.lastDay, marks := bitmapValue b.bitmap % 2 ^ markCount c b.count }

/-- The counts, the days and the serials of a TICKETS_LOAD leave their ranges (07 R110). -/
def ticketsOutside (b : TicketBody) : Prop :=
  b.count < 1 ∨ 4096 < b.count ∨ b.lastDay < b.firstDay ∨ 4294967296 < b.first + b.count

section

variable {s : State} {b : TicketBody} {c : TicketClass} (cls : ticketClass? b.cls = some c)
include cls

theorem loadTickets_bounds (out : ticketsOutside b) : loadTickets b s = .error .bounds := by
  simp only [loadTickets, cls]
  exact if_pos out

theorem loadTickets_overlap (inside : ¬ ticketsOutside b) (clash : ∃ x ∈ s.tt.blocks, x.clashes b) :
    loadTickets b s = .error .overlap := by
  simp only [loadTickets, cls]
  exact (if_neg inside).trans (if_pos ((clashes_iff s b).2 clash))

theorem loadTickets_full (inside : ¬ ticketsOutside b) (clear : ∀ x ∈ s.tt.blocks, ¬x.clashes b)
    (full : 32 ≤ s.tt.blocks.length) : loadTickets b s = .error .full := by
  simp only [loadTickets, cls]
  exact (if_neg inside).trans ((if_neg (unclashed clear)).trans (if_pos full))

theorem loadTickets_adds (inside : ¬ ticketsOutside b) (clear : ∀ x ∈ s.tt.blocks, ¬x.clashes b)
    (room : s.tt.blocks.length < 32) : loadTickets b s =
      done { s with tt := { s.tt with blocks := s.tt.blocks ++ [loadedBlock b c] } } := by
  simp only [loadTickets, cls]
  exact (if_neg inside).trans ((if_neg (unclashed clear)).trans (if_neg (Nat.not_le.2 room)))

end

/-! ### TICKETS_DROP and TICKET_QUERY (07 R112, R114) -/

section

variable {s : State} {n : Nat} {x : TicketBlock}

theorem dropTickets_absent (absent : s.tt.blocks.find? (fun y => decide (y.id = n)) = none) :
    dropTickets n s = .error .notFound := by
  simp only [dropTickets, absent]

theorem dropTickets_inUse (found : s.tt.blocks.find? (fun y => decide (y.id = n)) = some x)
    (used : s.blockInUse x = true) : dropTickets n s = .error .inUse := by
  simp only [dropTickets, found, if_pos used]

theorem dropTickets_drops (found : s.tt.blocks.find? (fun y => decide (y.id = n)) = some x)
    (idle : s.blockInUse x = false) : dropTickets n s = done { s with
      tt := { s.tt with blocks := s.tt.blocks.filter (fun y => decide (y.id ≠ n)) } } := by
  simp only [dropTickets, found, idle]
  rfl

/-- What TICKET_QUERY reports of serial n in block x (07 R114). -/
def Tt.ticketReport (t : Tt) (n : Nat) (x : TicketBlock) : TicketReport :=
  { block := x.id, cls := x.cls, firstDay := x.firstDay, lastDay := x.lastDay, inDays := x.validOn t.day,
    marks := match x.cls with
      | .single => [x.marked (n - x.first)]
      | .return => [x.marked (2 * (n - x.first)), x.marked (2 * (n - x.first) + 1)]
      | .day => []
      | .staff => [],
    passback := t.swept.passbackOf n }

theorem queryTicket_absent (absent : s.tt.find n = none) : queryTicket n s = .error .notFound := by
  simp only [queryTicket, absent]

/-- TICKET_QUERY sweeps the passback list and reports the block (07 R114, R121). -/
theorem queryTicket_reports (found : s.tt.find n = some x) :
    queryTicket n s = .ok (s.modTt Tt.swept, .ticket (s.tt.ticketReport n x)) := by
  simp only [queryTicket, found]
  rfl

end

theorem validOn_iff (x : TicketBlock) (day : Nat) :
    x.validOn day = true ↔ x.firstDay ≤ day ∧ day ≤ x.lastDay := by
  simp [TicketBlock.validOn]

/-- Settles O31: the checks of TICKETS_LOAD in their order and the block it adds, the block that TICKETS_DROP
takes away, and the report of TICKET_QUERY. -/
theorem ticketsAreLoadedDroppedAndQueried : Obligations.TicketsAreLoadedDroppedAndQueried := by
  intro s h
  refine ⟨?load, ?drop, ?query⟩
  case load =>
    rintro b c q rfl cls hp
    refine ⟨fun out => refusedWith_of_own rfl rfl hp (loadTickets_bounds cls out), fun low high days serials => ?_⟩
    have inside : ¬ ticketsOutside b := by
      simp only [ticketsOutside]
      omega
    refine ⟨fun clash => refusedWith_of_own rfl rfl hp (loadTickets_overlap cls inside clash), fun apart => ?_⟩
    have clear : ∀ x ∈ (s.asTaken h (.ticketsLoad b)).tt.blocks, ¬x.clashes b :=
      fun x hx => not_or.2 (apart x hx)
    exact ⟨fun full => refusedWith_of_own rfl rfl hp (loadTickets_full cls inside clear full),
      fun room => doneWith_of_own rfl rfl hp (loadTickets_adds cls inside clear room)⟩
  case drop =>
    rintro n q rfl hp
    exact ⟨fun absent => refusedWith_of_own rfl rfl hp (dropTickets_absent absent), fun x found =>
      ⟨fun used => refusedWith_of_own rfl rfl hp (dropTickets_inUse found used),
        fun idle => doneWith_of_own rfl rfl hp (dropTickets_drops found idle)⟩⟩
  case query =>
    rintro n q rfl hp
    refine ⟨fun absent => refusedWith_of_own rfl rfl hp (queryTicket_absent absent), fun x found =>
      ⟨_, _, doneWith_of_own rfl rfl hp (queryTicket_reports found), rfl, rfl, rfl, rfl, rfl, ?_, rfl, ?_⟩⟩
    · exact validOn_iff x _
    · cases cls : x.cls <;> simp [Tt.ticketReport, TicketBlock.marked, cls]

end Sys2Proof.Machine
end

section

namespace Sys2Proof.Machine

/-! ### Validation, class by class (07 R113, R115 to R117, R120, R121) -/

section

variable {t : Tt} {b : TicketBlock} {serial station : Nat} {d : Dir} {queued : Bool}

/-- A serial of no block is UNKNOWN (07 R113). -/
theorem validate_unknown (absent : t.find serial = none) :
    (validate serial station d queued t).outcome = .unknown ∧ (validate serial station d queued t).tt = t := by
  simp only [validate, absent, and_self]

/-- Out of the days of its block a ticket is NOT_VALID (07 R115). -/
theorem validate_notValid (found : t.find serial = some b) (out : b.validOn t.day = false) :
    (validate serial station d queued t).outcome = .notValid ∧ (validate serial station d queued t).tt = t := by
  simp only [validate, found, out]
  exact ⟨rfl, rfl⟩

/-- Within the days of its block the class of a ticket decides (07 R115). -/
theorem validate_valid (found : t.find serial = some b) (valid : b.validOn t.day = true) :
    validate serial station d queued t = classCheck b serial station d queued t := by
  simp only [validate, found, if_pos valid]

/-- The mark that a SINGLE or a RETURN spends has the bit position of 07 section 7.1. -/
theorem bitOf_eq {bit : Nat} (h : (b.cls = .single ∧ bit = serial - b.first) ∨
    (b.cls = .return ∧ bit = 2 * (serial - b.first) + (if d = .up then 0 else 1))) : b.bitOf serial d = bit := by
  rcases h with ⟨cls, rfl⟩ | ⟨cls, rfl⟩
  · simp only [TicketBlock.bitOf, cls]
  · cases d <;> simp [TicketBlock.bitOf, cls]

/-- A mark that is set makes its ticket USED (07 R116). -/
theorem classCheck_used (marks : b.cls = .single ∨ b.cls = .return)
    (set : b.marked (b.bitOf serial d) = true) :
    (classCheck b serial station d queued t).outcome = .used ∧ (classCheck b serial station d queued t).tt = t := by
  rcases marks with cls | cls <;> simp [classCheck, cls, set]

/-- A mark that is clear is set, and its ticket admitted (07 R116). -/
theorem classCheck_marks (marks : b.cls = .single ∨ b.cls = .return)
    (clear : b.marked (b.bitOf serial d) = false) : classCheck b serial station d queued t =
      { tt := t.modBlock serial (TicketBlock.setMark (b.bitOf serial d)), outcome := .admits, cls := b.cls,
        undo := .mark (b.bitOf serial d) } := by
  rcases marks with cls | cls <;> simp [classCheck, cls, clear]

/-- A STAFF or DAY ticket that is queued already is PASSBACK (07 R117). -/
theorem classCheck_queued (cls : b.cls = .staff ∨ b.cls = .day) :
    (classCheck b serial station d true t).outcome = .passback ∧ (classCheck b serial station d true t).tt = t := by
  rcases cls with cls | cls <;> simp [classCheck, cls]

/-- A STAFF ticket, and a DAY ticket while the passback interval is 0, is admitted with no change (07 R117). -/
theorem classCheck_plain (cls : b.cls = .staff ∨ (b.cls = .day ∧ t.passbackS = 0)) :
    classCheck b serial station d false t = { tt := t, outcome := .admits, cls := b.cls, undo := .nothing } := by
  rcases cls with cls | ⟨cls, zero⟩
  · simp [classCheck, cls]
  · simp [classCheck, cls, zero]

/-- A DAY ticket with an entry of this station in the swept list is PASSBACK (07 R117, R121). -/
theorem classCheck_passback {e : PassbackEntry} (cls : b.cls = .day) (interval : t.passbackS ≠ 0)
    (entry : t.swept.passbackOf serial = some e) (here : e.station = station) :
    (classCheck b serial station d false t).outcome = .passback ∧
      (classCheck b serial station d false t).tt = t.swept := by
  simp [classCheck, cls, interval, entry, here]

/-- A DAY ticket without such an entry is admitted, and its entry written (07 R117, R120, R121). -/
theorem classCheck_writes (cls : b.cls = .day) (interval : t.passbackS ≠ 0)
    (elsewhere : ∀ e, t.swept.passbackOf serial = some e → e.station ≠ station) :
    classCheck b serial station d false t =
      { tt := { t.swept with
          passback := writePassback { serial := serial, station := station, time := t.clock } t.swept.passback },
        outcome := .admits, cls := b.cls, undo := .passback station t.clock } := by
  have clock : t.swept.clock = t.clock := rfl
  cases entry : t.swept.passbackOf serial with
  | none => simp [classCheck, cls, interval, entry, clock]
  | some e => simp [classCheck, cls, interval, entry, elsewhere e entry, clock]

end

/-! ### Presentations (08 R131, R132) -/

section

variable {s : State} {l : Lane} {d : Dir} {q serial : Nat} {x : Queue}

theorem happens_presentation {s t : State} {n : Fin 16} {serial : Fin 4294967296}
    (h : present n.val serial.val s = t) : Happens (.lanePresentation n serial) s t := by
  subst h
  rfl

theorem present_nowhere {id : Nat} (absent : s.lane? id = none) : present id serial s = s := by
  simp only [present, absent]

theorem present_exit {id : Nat} (found : s.lane? id = some l) (exit : l.role = .exit) : present id serial s = s := by
  simp only [present, found, exit, LaneRole.dir]

theorem present_entry {id : Nat} (found : s.lane? id = some l) (dir : l.role.dir = some d)
    (queue : queueIndex s.stations l.station d = some q) : present id serial s = presentAt l d q serial s := by
  simp only [present, found, dir, queue]

theorem presentAt_closed (state : s.laneState l ≠ .open) :
    presentAt l d q serial s = modLane l.id (Lane.refuse s.tt.day serial .laneClosed) s := by
  rw [presentAt_eq, if_pos state]

variable (state : s.laneState l = .open) (place : s.gqu.queues[q]? = some x)
include state place

theorem presentAt_full (full : 160 ≤ x.entries.length) :
    presentAt l d q serial s = modLane l.id (Lane.refuse s.tt.day serial .queueFull) s := by
  rw [← entriesAt_of place] at full
  rw [presentAt_eq, if_neg (not_not.2 state), if_pos full]

theorem presentAt_refused (room : x.entries.length < 160) (refused : (s.verdict l d q serial).outcome ≠ .admits) :
    presentAt l d q serial s = modLane l.id (Lane.refuse s.tt.day serial (s.verdict l d q serial).outcome)
      (s.modTt fun _ => (s.verdict l d q serial).tt) := by
  rw [← entriesAt_of place] at room
  rw [presentAt_eq, if_neg (not_not.2 state), if_neg (Nat.not_le.2 room), if_neg refused]

theorem presentAt_admits (room : x.entries.length < 160) (admits : (s.verdict l d q serial).outcome = .admits) :
    presentAt l d q serial s = admitPresentation l q serial (s.verdict l d q serial) s := by
  rw [← entriesAt_of place] at room
  rw [presentAt_eq, if_neg (not_not.2 state), if_neg (Nat.not_le.2 room), if_pos admits]

end

/-- Settles O55: the lanes that ignore a presentation, the refusals in their order, the validation class by class,
and what an ADMIT leaves. -/
theorem presentationsAreAdmittedOrRefused : Obligations.PresentationsAreAdmittedOrRefused := by
  intro s n serial
  refine ⟨fun absent => happens_presentation (present_nowhere absent), fun l found =>
    ⟨fun exit => happens_presentation (present_exit found exit), fun d q x dir queue place => ?_⟩⟩
  have at_queue : ∀ t, presentAt l d q serial.val s = t → Happens (.lanePresentation n serial) s t :=
    fun t h => happens_presentation ((present_entry found dir queue).trans h)
  refine ⟨fun state => at_queue _ (presentAt_closed state), fun state full => at_queue _ (presentAt_full state place full),
    fun v queued state room hq hv => ?_⟩
  have verdict : s.verdict l d q serial.val = v := by
    rw [hv, hq, State.verdict, entriesAt_of place]
  refine ⟨fun refused => ?refused, fun admits => ?admits, fun absent => ?unknown, fun b block =>
    ⟨fun out => ?notValid, fun bit valid marks => ?marked, fun valid staff => ?staff, fun valid day => ?day⟩⟩
  case refused =>
    subst verdict
    exact at_queue _ (presentAt_refused state place room refused)
  case admits =>
    subst verdict
    exact at_queue _ (presentAt_admits state place room admits)
  case unknown => exact hv ▸ validate_unknown absent
  case notValid => exact hv ▸ validate_notValid block out
  case marked =>
    rw [validate_valid block valid] at hv
    have single : b.cls = .single ∨ b.cls = .return := marks.imp And.left And.left
    obtain rfl := bitOf_eq marks
    refine ⟨fun set => hv ▸ classCheck_used single set, fun clear => ?_⟩
    rw [hv, classCheck_marks single clear]
    exact ⟨rfl, rfl, rfl, rfl⟩
  case staff =>
    rw [validate_valid block valid] at hv
    refine ⟨fun again => ?_, fun fresh => ?_⟩
    · rw [hv, again]
      exact classCheck_queued (.inl staff)
    · rw [hv, fresh, classCheck_plain (.inl staff)]
      exact ⟨rfl, rfl, rfl⟩
  case day =>
    rw [validate_valid block valid] at hv
    refine ⟨fun again => ?_, fun fresh zero => ?_, fun kept others fresh interval hk ho => ⟨fun e entry here => ?_,
      fun elsewhere => ?_⟩⟩
    · rw [hv, again]
      exact classCheck_queued (.inr day)
    · rw [hv, fresh, classCheck_plain (.inr ⟨day, zero⟩)]
      exact ⟨rfl, rfl, rfl⟩
    · subst hk
      rw [hv, fresh]
      exact classCheck_passback day interval entry here
    · subst hk ho
      rw [hv, fresh, classCheck_writes day interval elsewhere]
      exact ⟨rfl, rfl, rfl⟩

end Sys2Proof.Machine
end

section

namespace Sys2Proof.Machine

/-! ### The lane table while time passes -/

section

variable (s : State)

@[simp] theorem dissolveBatch_lanes (c : Car) : (dissolveBatch c s).gqu.lanes = s.gqu.lanes := by
  simp only [dissolveBatch]
  split <;> simp

@[simp] theorem raise_lanes (k : FaultKey) : (raise k s).gqu.lanes = s.gqu.lanes := by
  rcases raise_gqu k s with same | dissolved
  · rw [same]
  · rw [dissolved, dissolveBoth, dissolveBatch_lanes, dissolveBatch_lanes]

@[simp] theorem judgeEnvelope_lanes : (judgeEnvelope s).gqu.lanes = s.gqu.lanes := by
  simp only [judgeEnvelope]
  (repeat' split) <;> simp

@[simp] theorem judgeMoment_lanes : (judgeMoment s).gqu.lanes = s.gqu.lanes := by
  simp only [judgeMoment, noteEnvelope]
  split <;> simp

@[simp] theorem passUntil_lanes (t : Nat) : (passUntil t s).gqu.lanes = s.gqu.lanes :=
  followMoments_keeps (fun s => s.gqu.lanes) (fun _ _ => rfl) judgeMoment_lanes _ _ s

theorem passUntil_lane (t id : Nat) : (passUntil t s).lane? id = s.lane? id := by
  simp only [State.lane?, passUntil_lanes]

theorem passUntil_laneQueue (t : Nat) (l : Lane) : (passUntil t s).laneQueue l = s.laneQueue l := by
  simp only [State.laneQueue, stations_congr (congrArg Lgp.line (passUntil_lgp s t))]

end

/-! ### Passages, timeouts and jams (08 R130, R133 to R136) -/

section

variable {s : State} {id q : Nat} {l : Lane} {d : Dir} {p : Passage}

theorem modLaneQueue_of (queue : s.laneQueue l = some q) (f : Queue → Queue) :
    modLaneQueue l f s = modQueue q f s := by
  simp only [modLaneQueue, queue]

theorem passLane_nowhere (absent : s.lane? id = none) : passLane id s = s := by
  simp only [passLane, absent]

/-- A passage that a lane waits for is counted, and its entry ADMITTED (08 R133). -/
theorem passLane_paid (found : s.lane? id = some l) (dir : l.role.dir = some d) (waits : l.passage = some p)
    (queue : s.laneQueue l = some q) : passLane id s = modLane id (Lane.passed s.tt.day)
      (modQueue q (Queue.admitEntry p.serial s.tt.clock) s) := by
  simp only [passLane, found, dir, waits, modLaneQueue_of queue]

/-- Another passage of an entry lane is unpaid (08 R135). -/
theorem passLane_unpaid (found : s.lane? id = some l) (dir : l.role.dir = some d) (idle : l.passage = none) :
    passLane id s = modLane id (Lane.unpaidPassage s.tt.day) s := by
  simp only [passLane, found, dir, idle]

/-- A passage of an exit lane is counted (08 R136). -/
theorem passLane_exit (found : s.lane? id = some l) (exit : l.role = .exit) (nobody : s.alighting l.station = none) :
    passLane id s = modLane id (Lane.passed s.tt.day) s := by
  simp only [passLane, found, exit, LaneRole.dir, nobody]

/-- While a car is alighting at its station, such a passage is taken off the load of that car (08 R136). -/
theorem passLane_alighting {c : Car} (found : s.lane? id = some l) (exit : l.role = .exit)
    (alights : s.alighting l.station = some c) : passLane id s =
      modLoad c (fun n => n.map (fun x => x - 1)) (modLane id (Lane.passed s.tt.day) s) := by
  simp only [passLane, found, exit, LaneRole.dir, alights]

/-- The end of a passage interval withdraws the entry and undoes the validation (08 R134, 07 R119). -/
theorem timeoutLane_waiting (found : s.lane? id = some l) (waits : l.passage = some p)
    (queue : s.laneQueue l = some q) : timeoutLane id s =
      modLane id (fun x => { x with lastOutcome := some .timeout, passage := none })
        ((modQueue q (Queue.withdraw p.serial) s).modTt (undoValidation p.serial p.undo)) := by
  simp only [timeoutLane, found, waits, modLaneQueue_of queue]

theorem passageDue_of (found : s.lane? id = some l) (waits : l.passage = some p) : s.passageDue id = some p.due := by
  simp only [State.passageDue, found, waits, Option.bind_some, Option.map_some]

theorem jamLane_nowhere (absent : s.lane? id = none) : jamLane id s =
    s.modGqu fun g => { g with jamIn := updateAt id (fun _ => true) g.jamIn } := by
  simp only [jamLane, absent]

/-- A jam of a lane of the table is a fault of class REPORT: nothing stops for it (08 R130, 10 R171). -/
theorem jamLane_described (found : s.lane? id = some l) : jamLane id s =
    (modLane id (fun l => { l with jammed := true })
      (s.modGqu fun g => { g with jamIn := updateAt id (fun _ => true) g.jamIn })).modFt
        (FaultTable.raised ⟨.gateLaneFault, id⟩ s.tt.clock) := by
  simp only [jamLane, found]
  exact raise_report rfl

theorem happens_passage {s t : State} {n : Fin 16} (h : passLane n.val s = t) : Happens (.lanePassage n) s t := by
  subst h
  rfl

theorem happens_jam {s t : State} {n : Fin 16} (h : jamLane n.val s = t) : Happens (.leafJam n) s t := by
  subst h
  rfl

/-- The timeout of a passage is an event at the end of its interval (08 R134). -/
theorem happens_timeout {n : Fin 16} (found : s.lane? n.val = some l) (waits : l.passage = some p)
    (queue : s.laneQueue l = some q) : Happens (.passageTimeout n) s
      (modLane n.val (fun x => { x with lastOutcome := some .timeout, passage := none })
        ((modQueue q (Queue.withdraw p.serial) (passUntil p.due s)).modTt (undoValidation p.serial p.undo))) := by
  rw [← timeoutLane_waiting ((passUntil_lane s _ _).trans found) waits ((passUntil_laneQueue s _ l).trans queue)]
  exact happens_expire rfl (passageDue_of found waits)

end

/-- Settles O56: the passages of entry and exit lanes, the timeout of a passage, and the jam input of a lane in and
out of the table. -/
theorem passagesTimeoutsAndJamsAreCounted : Obligations.PassagesTimeoutsAndJamsAreCounted := by
  intro s n
  refine ⟨fun absent => happens_passage (passLane_nowhere absent), fun l found => ⟨?paid, ?unpaid, ?exit, ?timeout, ?jam⟩,
    fun absent => happens_jam (jamLane_nowhere absent), rfl⟩
  case paid => exact fun d p q dir waits queue => happens_passage (passLane_paid found dir waits queue)
  case unpaid => exact fun d dir idle => happens_passage (passLane_unpaid found dir idle)
  case exit =>
    intro exit
    cases alights : s.alighting l.station with
    | none => exact ⟨_, happens_passage (passLane_exit found exit alights), rfl, rfl, rfl, nofun, fun _ => rfl⟩
    | some c => exact ⟨_, happens_passage (passLane_alighting found exit alights), rfl, rfl, rfl,
        fun _ same => Option.some.inj same ▸ rfl, nofun⟩
  case timeout =>
    rintro p q _ waits queue rfl
    exact happens_timeout found waits queue
  case jam => exact ⟨_, happens_jam (jamLane_described found), rfl, rfl, rfl, rfl⟩

end Sys2Proof.Machine
end

section

namespace Sys2Proof.Machine

/-! ### LANES_SET (08 R127) -/

/-- The fault table in which a GATE_LANE_FAULT was raised for each jammed lane of a list (08 R127, R149). -/
def FaultTable.withJams (clock : Nat) : List Lane → FaultTable → FaultTable
  | [], t => t
  | l :: ls, t => withJams clock ls (if l.jammed then t.raised ⟨.gateLaneFault, l.id⟩ clock else t)

/-- GATE_LANE_FAULT is of class REPORT: the raises for the jammed lanes write their slots and nothing else
(10 R171). -/
theorem raiseJams_eq : ∀ (ls : List Lane) (s : State),
    raiseJams ls s = s.modFt (FaultTable.withJams s.tt.clock ls)
  | [], _ => rfl
  | l :: ls, s => by
    cases jam : l.jammed with
    | false => simp [raiseJams, FaultTable.withJams, jam, raiseJams_eq ls, State.modFt]
    | true =>
      have raised : raise ⟨.gateLaneFault, l.id⟩ s = s.modFt (FaultTable.raised ⟨.gateLaneFault, l.id⟩ s.tt.clock) :=
        raise_report rfl
      simp [raiseJams, FaultTable.withJams, jam, raised, raiseJams_eq ls, State.modFt]

/-- What LANES_SET does with a lane table that passes its checks (08 R127). -/
def takeLanes (new : List Lane) (s : State) : State :=
  markAll (laneKeys s.gqu.lanes ++ laneKeys new)
    ((raiseJams new ((removeLaneFaults s).modGqu fun g => { g with lanes := new })).modMau
      fun m => { m with config := { m.config with lanes := true } })

/-- What makes LANES_SET out of range (08 R127). -/
def lanesOutside (r : LineRec) (lanes : List LaneDesc) : Prop :=
  16 < lanes.length ∨ lanes.all (laneOk r) = false ∨ distinct (lanes.map LaneDesc.lane) = false

section

variable {s : State} {lanes : List LaneDesc} {r : LineRec}

theorem setLanes_unloaded (unloaded : s.lgp.line = none) : setLanes lanes s = .error .notConfigured := by
  simp only [setLanes, unloaded]

theorem setLanes_bounds (line : s.lgp.line = some r) (out : lanesOutside r lanes) :
    setLanes lanes s = .error .bounds := by
  simp only [setLanes, line]
  exact if_pos out

theorem setLanes_accepted (line : s.lgp.line = some r) (inside : ¬ lanesOutside r lanes) :
    setLanes lanes s = done (takeLanes (lanes.map (newLane s.tt.day s.gqu.jamIn)) s) := by
  simp only [setLanes, line]
  exact if_neg inside

end

section

variable (new : List Lane) (s : State)

theorem takeLanes_gqu : (takeLanes new s).gqu = { s.gqu with lanes := new } := by
  simp [takeLanes, raiseJams_eq]

theorem takeLanes_mau : (takeLanes new s).mau =
    { s.mau with config := { s.mau.config with lanes := true } } := by
  simp [takeLanes]

/-- The line, the speed and tension, the haul, the brakes, the doors and the tickets are left alone (08 R127). -/
theorem takeLanes_frame : (takeLanes new s).lgp = s.lgp ∧ (takeLanes new s).stu = s.stu ∧
    (takeLanes new s).hc = s.hc ∧ (takeLanes new s).bl = s.bl ∧ (takeLanes new s).bpu = s.bpu ∧
    (takeLanes new s).dc = s.dc ∧ (takeLanes new s).tt = s.tt := by
  simp [takeLanes, raiseJams_eq]

end

/-- Settles O26: the checks of the owner in their order, and the new lane table with all that it leaves alone. -/
theorem lanesSetBuildsTheLaneTableAnew : Obligations.LanesSetBuildsTheLaneTableAnew := by
  rintro s q h lanes rfl hp
  refine ⟨fun unloaded => refusedWith_of_own rfl rfl hp (setLanes_unloaded unloaded), fun r line =>
    ⟨fun out => refusedWith_of_own rfl rfl hp (setLanes_bounds line out), fun count each once => ?_⟩⟩
  have inside : ¬ lanesOutside r lanes := by
    simp [lanesOutside, count, each, once]
  exact ⟨_, doneWith_of_own rfl rfl hp (setLanes_accepted line inside), takeLanes_gqu _ _, takeLanes_mau _ _,
    takeLanes_frame _ _⟩

end Sys2Proof.Machine
end

section

namespace Sys2Proof.Machine

/-! ### LANE (08 R129) -/

section

variable {s : State} {n : Nat}

theorem setLaneClosed_absent (close : Bool) (absent : s.lane? n = none) :
    setLaneClosed n close s = .error .notFound := by
  simp only [setLaneClosed, absent]

theorem setLaneClosed_sets (close : Bool) (present : (s.lane? n).isSome = true) : setLaneClosed n close s =
    done (modLane n (fun l => { l with hostClosed := close }) s) := by
  obtain ⟨l, found⟩ := Option.isSome_iff_exists.1 present
  simp only [setLaneClosed, found]

theorem clearLane_absent (absent : s.lane? n = none) : clearLane n s = .error .notFound := by
  simp only [clearLane, absent]

theorem clearLane_asserted (present : (s.lane? n).isSome = true) (jam : s.gqu.jamIn.getD n false = true) :
    clearLane n s = .error .state := by
  obtain ⟨l, found⟩ := Option.isSome_iff_exists.1 present
  simp only [clearLane, found, if_pos jam]

/-- LANE CLEAR once the jam input is withdrawn (08 R129, 10 R174). -/
theorem clearLane_clears (present : (s.lane? n).isSome = true) (withdrawn : s.gqu.jamIn.getD n false = false) :
    clearLane n s = done ((modLane n (fun l => { l with jammed := false }) s).modFt
      (FaultTable.removed (fun k _ => decide (k = ⟨.gateLaneFault, n⟩)))) := by
  obtain ⟨l, found⟩ := Option.isSome_iff_exists.1 present
  simp only [clearLane, found, withdrawn]
  rfl

end

/-! ### QUEUE (08 R139) -/

theorem setQueueClosed_absent {s : State} {n : Nat} (close : Bool) (absent : s.gqu.queues.length ≤ n) :
    setQueueClosed n close s = .error .notFound := if_pos absent

theorem setQueueClosed_sets {s : State} {n : Nat} (close : Bool) (present : n < s.gqu.queues.length) :
    setQueueClosed n close s = done (modQueue n (fun x => { x with hostClosed := close }) s) :=
  if_neg (Nat.not_le.2 present)

/-- Settles O41: the host-closed flag of a lane, the jammed flag and the fault slot of a lane, and the host-closed
flag of a queue. -/
theorem laneAndQueueOperationsActOnTheirFlags : Obligations.LaneAndQueueOperationsActOnTheirFlags := by
  intro s h
  refine ⟨?laneFlag, ?laneClear, ?queueFlag⟩
  case laneFlag =>
    rintro n close i r q rfl rfl rfl hp
    cases close <;> exact ⟨fun absent => refusedWith_of_own rfl rfl hp (setLaneClosed_absent _ absent),
      fun present => doneWith_of_own rfl rfl hp (setLaneClosed_sets _ present)⟩
  case laneClear =>
    rintro n q rfl hp
    exact ⟨fun absent => refusedWith_of_own rfl rfl hp (clearLane_absent absent),
      fun present jam => refusedWith_of_own rfl rfl hp (clearLane_asserted present jam),
      fun present withdrawn => doneWith_of_own rfl rfl hp (clearLane_clears present withdrawn)⟩
  case queueFlag =>
    rintro n close i r q rfl rfl rfl hp
    cases close <;> exact ⟨fun absent => refusedWith_of_own rfl rfl hp (setQueueClosed_absent _ absent),
      fun present => doneWith_of_own rfl rfl hp (setQueueClosed_sets _ present)⟩

end Sys2Proof.Machine
end

section

namespace Sys2Proof.Machine

/-! ### The three steps of MAU (09 R153 to R155) -/

/-- A request command is the arrival of its request. -/
theorem exec_request {i : Instr} {h : Header} {r : Request} {s : State} (hi : i.request? = some (h, r)) :
    exec i s = .next (requestArrives h r s) := by
  cases i <;> cases hi <;> rfl

section

variable {s : State} {h : Header} {r : Request}

/-- A request of its kind's length that MAU refuses on a free link is REFUSED (09 R153, 11 R179). -/
theorem refusedWith_of_judge {i : Instr} {c : RefusalCode} (hi : i.request? = some (h, r)) (free : s.linkFree)
    (fits : lengthMatches r = true) (judged : (s.asTaken h r).judge h r = some c) : RefusedWith i s c := by
  have content : requestContent r = .request r := if_pos fits
  have taken : dropHeld (event (receive { header := h, content := .request r }) s) = s.asTaken h r := by
    rw [State.asTaken, content]
  refine ⟨h, r, hi, ?_⟩
  rw [exec_request hi, requestArrives, frameArrives_free _ _ free, content]
  simp only [take, judgeFrame, taken, judged, concluded, State.beforeTaken, content]

/-- A header whose post or level is none is refused first (09 R153). -/
theorem judge_format (form : 7 < h.post ∨ 3 < h.level) : s.judge h r = some .format := if_pos form

/-- With the form right, a level that does not suffice is refused (09 R154). -/
theorem judge_authority (post : h.post ≤ 7) (level : h.level ≤ 3) (low : s.requiredLevel r < s.effectiveLevel h) :
    s.judge h r = some .authority := by
  rw [State.judge, if_neg (by omega), if_pos low]

/-- With form and authority right, the table of modes decides (09 R155). -/
theorem judge_mode (post : h.post ≤ 7) (level : h.level ≤ 3) (enough : s.effectiveLevel h ≤ s.requiredLevel r) :
    s.judge h r = if takenIn s.mau.mode r = false then some .mode else none := by
  rw [State.judge, if_neg (by omega), if_neg (Nat.not_lt.2 enough)]

end

/-- Settles O17: the outcome of `State.judge` step by step, and the refusal of the owner for a request that passes. -/
theorem formAuthorityAndModeAreJudgedInThatOrder : Obligations.FormAuthorityAndModeAreJudgedInThatOrder := by
  rintro s q h i r hi free fits rfl
  refine ⟨?form, ?authority, ?mode, ?passes, ?owner⟩
  case form =>
    intro form
    exact refusedWith_of_judge hi free fits (judge_format form)
  case authority =>
    intro post level low
    exact refusedWith_of_judge hi free fits (judge_authority post level low)
  case mode =>
    intro post level enough out
    exact refusedWith_of_judge hi free fits ((judge_mode post level enough).trans (if_pos out))
  case passes =>
    intro post level enough taken
    exact ⟨free, fits, (judge_mode post level enough).trans (if_neg (by simp [taken]))⟩
  case owner =>
    intro c passes refused
    exact refusedWith_of_own hi (exec_request hi) passes refused

end Sys2Proof.Machine
end

section

namespace Sys2Proof.Machine

/-! ### POSTS_SET (09 R156) -/

section

variable {pairs : List (Nat × Nat)} {s : State}

/-- A post that the list does not name has level 3. -/
theorem postLevel_unnamed {p : Nat} (h : p ∉ pairs.map Prod.fst) : postLevel pairs p = 3 := by
  have absent : pairs.find? (fun x => decide (x.1 = p)) = none := by
    rw [List.find?_eq_none]
    intro x mem same
    exact h (List.mem_map.2 ⟨x, mem, of_decide_eq_true same⟩)
  rw [postLevel, absent]

/-- A post that a list without repeats names has the level named. -/
theorem postLevel_named {x : Nat × Nat} (once : (pairs.map Prod.fst).Nodup) (mem : x ∈ pairs) :
    postLevel pairs x.1 = x.2 := by
  have present : (pairs.find? (fun y => decide (y.1 = x.1))).isSome = true :=
    List.find?_isSome.2 ⟨x, mem, decide_eq_true rfl⟩
  obtain ⟨y, found⟩ := Option.isSome_iff_exists.1 present
  have same : y = x := List.inj_on_of_nodup_map once (List.mem_of_find?_eq_some found) mem
    (of_decide_eq_true (List.find?_some found :))
  rw [postLevel, found, same]

/-- The table that POSTS_SET makes, post by post. -/
theorem postTable_getElem? {p : Nat} (h : p ≤ 7) :
    ((List.range 8).map (postLevel pairs))[p]? = some (postLevel pairs p) := by
  rw [List.getElem?_map, List.getElem?_range (by omega)]
  rfl

/-- The checks of POSTS_SET (09 R156). -/
def postsRefused (pairs : List (Nat × Nat)) : Prop :=
  (∃ x ∈ pairs, 7 < x.1 ∨ 3 < x.2) ∨ ¬(pairs.map Prod.fst).Nodup ∨ ∀ x ∈ pairs, x.2 ≠ 0

theorem setPosts_checks : (pairs.any (fun x => decide (7 < x.1) || decide (3 < x.2))
    || !(noneTwice (pairs.map Prod.fst)) || !(pairs.any (fun x => decide (x.2 = 0)))) = true ↔ postsRefused pairs := by
  simp [postsRefused, ← noneTwice_iff, or_assoc]

theorem setPosts_refused (refused : postsRefused pairs) : setPosts pairs s = .error .bounds :=
  if_pos (setPosts_checks.2 refused)

theorem setPosts_accepted (accepted : ¬ postsRefused pairs) : setPosts pairs s =
    done (mark .mode (s.modMau fun m => { m with posts := (List.range 8).map (postLevel pairs) })) :=
  if_neg (mt setPosts_checks.1 accepted)

end

/-- Settles O27: the checks of the owner, and the new table post by post. -/
theorem postsSetReplacesThePostTable : Obligations.PostsSetReplacesThePostTable := by
  rintro s q h pairs rfl hp
  refine ⟨fun refused => refusedWith_of_own rfl rfl hp (setPosts_refused refused), fun inside once top => ?_⟩
  have accepted : ¬ postsRefused pairs := by
    rintro (⟨x, mem, out⟩ | twice | none)
    · have := inside x mem
      omega
    · exact twice once
    · obtain ⟨x, mem, zero⟩ := top
      exact none x mem zero
  refine ⟨_, doneWith_of_own rfl rfl hp (setPosts_accepted accepted), rfl, ?_, ?named, ?unnamed⟩
  · simp
  case named =>
    intro x mem
    simp only [mark_mau, modMau_mau, postTable_getElem? (inside x mem).1, postLevel_named once mem]
  case unnamed =>
    intro p bound out
    simp only [mark_mau, modMau_mau, postTable_getElem? bound, postLevel_unnamed out]

end Sys2Proof.Machine
end

section

namespace Sys2Proof.Machine

/-! ### PARAM_SET (09 R157) -/

section

variable {body : ParamBody} {s : State}

/-- PARAM_SET of scope TIMING at its owner. -/
theorem setParams_timing : setParams 1 body s = if timingOk (paramDefaults body) = true
    then done (takeTiming (paramDefaults body) s) else .error .bounds := rfl

/-- PARAM_SET of scope ALL at its owner. -/
theorem setParams_all : setParams 0 body s =
    if (timingOk (paramDefaults body) && allOk (paramDefaults body)) = true
    then done (takeAll (paramDefaults body) (takeTiming (paramDefaults body) s)) else .error .bounds := rfl

/-- The five intervals handed to their owners; the supervision interval starts anew where it runs (09 R159). -/
theorem takeTiming_eq (p : ParamBody) (q : State) : takeTiming p q = { q with
    dc := { q.dc with dwellS := p.dwell }, hc := { q.hc with warningMs := p.warning },
    gqu := { q.gqu with passageMs := p.passageTimeout }, tt := { q.tt with passbackS := p.passback },
    mau := { q.mau with
      supMs := p.supervision,
      supDue := if q.mau.supervision = .running then some (q.now + p.supervision * 1000)
        else q.mau.supDue } } := by
  by_cases running : q.mau.supervision = .running
  · simp only [takeTiming, running, if_true, startSupervision, State.modMau, State.modTt, State.modGqu, State.modHc,
      State.modDc]
  · simp only [takeTiming, if_neg running, State.modMau, State.modTt, State.modGqu, State.modHc, State.modDc]

/-- A known load above the capacity becomes UNKNOWN (08 R144). -/
theorem boundLoad_eq_bind (capacity : Nat) (load : Option Nat) :
    boundLoad capacity load = load.bind (fun n => if capacity < n then none else some n) := by
  cases load <;> rfl

/-- The loads of both cars after a PARAM_SET of scope ALL. -/
theorem takeAll_load (p : ParamBody) (q : State) (c : Car) : (takeAll p q).gqu.loads.car c
    = (q.gqu.loads.car c).bind (fun n => if p.capacity < n then none else some n) := by
  cases c <;> exact boundLoad_eq_bind _ _

end

/-- Settles O28: the checks of both scopes, and what each hands to the owners of its fields. -/
theorem paramSetHandsItsFieldsToTheirOwners : Obligations.ParamSetHandsItsFieldsToTheirOwners := by
  rintro s h body p rfl
  refine ⟨?timing, ?all, takeTiming_eq _, fun q => ⟨rfl, takeAll_load _ q⟩⟩
  case timing =>
    intro hp
    exact ⟨fun bad => refusedWith_of_own rfl rfl hp (setParams_timing.trans (if_neg (by simp [bad]))),
      fun good => doneWith_of_own rfl rfl hp (setParams_timing.trans (if_pos good))⟩
  case all =>
    intro hp
    exact ⟨fun bad => refusedWith_of_own rfl rfl hp (setParams_all.trans (if_neg (by simp [bad]))),
      fun good => doneWith_of_own rfl rfl hp (setParams_all.trans (if_pos good))⟩

end Sys2Proof.Machine
end

section

namespace Sys2Proof.Machine

/-! ### MODE_SET at its owner (09 R150) -/

section

variable {n : Nat} {m : LineMode} {s : State}

theorem setMode_unnamed (unnamed : mode? n = none) : setMode n s = .error .state := by
  rw [setMode, unnamed]

theorem setMode_same (named : mode? n = some m) (same : m = s.mau.mode) : setMode n s = done s := by
  simp only [setMode, named, if_pos same]

theorem setMode_rowless (named : mode? n = some m) (other : m ≠ s.mau.mode) (rowless : modeRow s.mau.mode m = none) :
    setMode n s = .error .state := by
  simp only [setMode, named, if_neg other, rowless]

/-- A change that is a row of the table is refused by the first check of its row that fails. -/
theorem setMode_refused {row : ModeRow} {c : RefusalCode} (named : mode? n = some m) (other : m ≠ s.mau.mode)
    (found : modeRow s.mau.mode m = some row) (refused : firstRefusal (row.checks s) = some c) :
    setMode n s = .error c := by
  simp only [setMode, named, if_neg other, found, refused]

/-- A change that is a row of the table is carried out when the checks of its row pass. -/
theorem setMode_changes {row : ModeRow} (named : mode? n = some m) (other : m ≠ s.mau.mode)
    (found : modeRow s.mau.mode m = some row) (passed : firstRefusal (row.checks s) = none) :
    setMode n s = done (changeMode m s) := by
  simp only [setMode, named, if_neg other, found, passed]

end

/-! ### What a change of mode hands on (09 R151) -/

/-- The new mode with its mark, and the end of a SUSPENDED trip that the change does not keep. -/
def beginChange (m : LineMode) (s : State) : State :=
  let t := mark .mode (s.modMau fun x => { x with mode := m })
  if s.hc.trip.state = .suspended ∧ keepsSuspended s.mau.mode m = false then abandonTrip .hold t else t

/-- The entry to mode m, as far as OFF is entered by it. -/
def enterIfOff (m : LineMode) (s : State) : State := if m = .off then enterOff s else s

/-- The exit from mode m, as far as OFF is left by it. -/
def exitIfOff (m : LineMode) (s : State) : State := if m = .off then exitOff s else s

/-- The entry to mode m, as far as AUTOMATIC is entered by it. -/
def enterIfAutomatic (m : LineMode) (s : State) : State := if m = .automatic then enterAutomatic s else s

/-- The exit from mode m, as far as AUTOMATIC is left by it. -/
def exitIfAutomatic (m : LineMode) (s : State) : State :=
  if m = .automatic then leaveAutomaticDoors (leaveAutomaticCycle s) else s

/-- The parts of a change of mode in their order. -/
theorem changeMode_eq (m : LineMode) (s : State) : changeMode m s =
    exitIfAutomatic s.mau.mode (enterIfAutomatic m (exitIfOff s.mau.mode (enterIfOff m (beginChange m s)))) := rfl

section

variable (m : LineMode) (s : State)

@[simp] theorem beginChange_now : (beginChange m s).now = s.now := by
  refine outer_now ?_
  simp only [beginChange]
  split <;> simp
@[simp] theorem beginChange_stu : (beginChange m s).stu = s.stu := by
  simp only [beginChange]; split <;> simp
@[simp] theorem beginChange_bl : (beginChange m s).bl = s.bl := by
  simp only [beginChange]; split <;> simp
@[simp] theorem beginChange_mau : (beginChange m s).mau = { s.mau with mode := m } := by
  simp only [beginChange]; split <;> simp

@[simp] theorem enterIfOff_hc : (enterIfOff m s).hc = s.hc := by
  simp only [enterIfOff]; split <;> simp

@[simp] theorem exitIfOff_hc : (exitIfOff m s).hc = s.hc := by
  simp only [exitIfOff]; split <;> simp
@[simp] theorem exitIfOff_bl : (exitIfOff m s).bl = s.bl := by
  simp only [exitIfOff]; split <;> simp
@[simp] theorem exitIfOff_gqu : (exitIfOff m s).gqu = s.gqu := by
  simp only [exitIfOff]; split <;> simp

@[simp] theorem enterIfAutomatic_stu : (enterIfAutomatic m s).stu = s.stu := by
  simp only [enterIfAutomatic]; split <;> simp
@[simp] theorem enterIfAutomatic_bl : (enterIfAutomatic m s).bl = s.bl := by
  simp only [enterIfAutomatic]; split <;> simp
@[simp] theorem enterIfAutomatic_mau : (enterIfAutomatic m s).mau = s.mau := by
  simp only [enterIfAutomatic]; split <;> simp
@[simp] theorem enterIfAutomatic_trip : (enterIfAutomatic m s).hc.trip = s.hc.trip := by
  simp only [enterIfAutomatic, enterAutomatic]; (repeat' split) <;> simp

@[simp] theorem exitIfAutomatic_stu : (exitIfAutomatic m s).stu = s.stu := by
  simp only [exitIfAutomatic]; split <;> simp
@[simp] theorem exitIfAutomatic_bl : (exitIfAutomatic m s).bl = s.bl := by
  simp only [exitIfAutomatic]; split <;> simp
@[simp] theorem exitIfAutomatic_gqu : (exitIfAutomatic m s).gqu = s.gqu := by
  simp only [exitIfAutomatic]; split <;> simp
@[simp] theorem exitIfAutomatic_mau : (exitIfAutomatic m s).mau = s.mau := by
  simp only [exitIfAutomatic]; split <;> simp
@[simp] theorem exitIfAutomatic_trip : (exitIfAutomatic m s).hc.trip = s.hc.trip := by
  simp only [exitIfAutomatic]; split <;> rfl

/-! #### MAU (09 R159, R161) -/

/-- MAU as standby begins. -/
def Mau.standby (x : Mau) : Mau :=
  { x with supervision := .suspended, supDue := none, wakeSet := [], wakeCount := 0, latestWake := none,
           standbyTravel := 0, standbyScale := 1 }

theorem enterOff_mau : (enterOff s).mau = s.mau.standby := by
  have begun : ∀ t : State, (beginStandby t).mau = t.mau.standby := fun t => by
    simp only [beginStandby]
    split <;> rfl
  rw [enterOff, begun]
  simp

theorem exitOff_mau : (exitOff s).mau =
    { s.mau with supervision := .running, supDue := some (s.now + s.mau.supMs * 1000) } := rfl

/-- MAU after a change of mode: the new mode, standby at the entry to OFF, supervision at the exit. -/
theorem changeMode_mau : (changeMode m s).mau = (exitIfOff s.mau.mode (enterIfOff m (beginChange m s))).mau := by
  simp [changeMode_eq]

theorem changeMode_mau_off (was : s.mau.mode ≠ .off) :
    (changeMode .off s).mau = Mau.standby { s.mau with mode := .off } := by
  rw [changeMode_mau, exitIfOff, if_neg was, enterIfOff, if_pos rfl, enterOff_mau, beginChange_mau]

theorem changeMode_mau_wakes (was : s.mau.mode = .off) (other : m ≠ .off) : (changeMode m s).mau =
    { s.mau with mode := m, supervision := .running, supDue := some (s.now + s.mau.supMs * 1000) } := by
  rw [changeMode_mau, exitIfOff, if_pos was, enterIfOff, if_neg other, exitOff_mau, beginChange_mau, beginChange_now]

theorem changeMode_mau_awake (was : s.mau.mode ≠ .off) (other : m ≠ .off) :
    (changeMode m s).mau = { s.mau with mode := m } := by
  rw [changeMode_mau, exitIfOff, if_neg was, enterIfOff, if_neg other, beginChange_mau]

theorem changeMode_mode (differs : m ≠ s.mau.mode) :
    (changeMode m s).mau.mode = m ∧ (changeMode m s).mau.posts = s.mau.posts := by
  by_cases off : m = .off
  · subst off
    rw [changeMode_mau_off s differs.symm]
    exact ⟨rfl, rfl⟩
  · by_cases was : s.mau.mode = .off
    · rw [changeMode_mau_wakes m s was off]
      exact ⟨rfl, rfl⟩
    · rw [changeMode_mau_awake m s was off]
      exact ⟨rfl, rfl⟩

/-! #### BL (04 R82) -/

theorem enterOff_bl : (enterOff s).bl = (applyBrake .emergency s).bl := by
  rw [enterOff, beginStandby_bl, dissolveBoth_bl]
  rfl

/-- A change of mode asks the emergency brake to apply at the entry to OFF alone. -/
theorem changeMode_bl : (changeMode m s).bl = if m = .off then (applyBrake .emergency s).bl else s.bl := by
  have asked : (applyBrake .emergency (beginChange m s)).bl = (applyBrake .emergency s).bl := by
    simp [applyBrake, modBrake]
  simp only [changeMode_eq, exitIfAutomatic_bl, enterIfAutomatic_bl, exitIfOff_bl, enterIfOff]
  split
  · rw [enterOff_bl, asked]
  · rw [beginChange_bl]

/-- An apply request for the emergency brake (04 R66). -/
theorem applyBrake_emergency_bl : (applyBrake .emergency s).bl = { s.bl with brakes := ⟨s.bl.brakes.fst,
    if s.bl.brakes.snd.state = .released ∨ s.bl.brakes.snd.state = .releasing
      then { s.bl.brakes.snd with state := .applying, proofDue := some (s.now + 800000) }
      else s.bl.brakes.snd⟩ } := by
  have asked : s.bl.brakes.snd.applied .emergency s.now =
      if s.bl.brakes.snd.state = .released ∨ s.bl.brakes.snd.state = .releasing
        then { s.bl.brakes.snd with state := .applying, proofDue := some (s.now + 800000) }
        else s.bl.brakes.snd := by
    cases state : s.bl.brakes.snd.state <;> simp [BrakeRec.applied, state, Brake.applyProof]
  rw [← asked]
  rfl

/-! #### STU (02 R35) -/

/-- A channel that is restarted (02 R28, R31, R35). -/
theorem TensionChannel.restarted_eq (now : Nat) (x : TensionChannel) : x.restarted m now = { x with
    window := [], average := none, outside := 0,
    state := if x.state = .valid then .filling else x.state,
    missingDue := if x.state = .silent then none
      else some (now + 4000000 / (if m = .off then 5 else x.rate)) } := by
  cases state : x.state <;> simp [TensionChannel.restarted, state, missingInterval, rateInForce]

theorem restartTension_chan (ch : Chan) :
    (restartTension s).stu.tension.chan ch = (s.stu.tension.chan ch).restarted s.mau.mode s.now := by
  cases ch <;> rfl

theorem enterOff_chan (ch : Chan) : (enterOff s).stu.tension.chan ch =
    { (s.stu.tension.chan ch).restarted s.mau.mode s.now with standbyFlag := false } := by
  have begun : (enterOff s).stu = (clearStandby (restartTension s)).stu := by simp [enterOff]
  rw [begun]
  cases ch <;> rfl

/-- At the entry to and the exit from OFF both channels are restarted, and at the entry the standby flag is clear. -/
theorem changeMode_chan (ch : Chan) (off : m = .off ∨ s.mau.mode = .off) (differs : m ≠ s.mau.mode) :
    (changeMode m s).stu.tension.chan ch = { (s.stu.tension.chan ch).restarted m s.now with
      standbyFlag := if m = .off then false else (s.stu.tension.chan ch).standbyFlag } := by
  simp only [changeMode_eq, exitIfAutomatic_stu, enterIfAutomatic_stu, exitIfOff, enterIfOff]
  by_cases entered : m = .off
  · have was : s.mau.mode ≠ .off := fun same => differs (entered.trans same.symm)
    rw [if_neg was, if_pos entered, if_pos entered, enterOff_chan, beginChange_stu, beginChange_mau, beginChange_now]
  · rw [if_pos (off.resolve_left entered), if_neg entered, if_neg entered, exitOff, startSupervision_stu,
      restartTension_chan, beginChange_stu, beginChange_mau, beginChange_now]
    rfl

/-- A change of mode between two modes other than OFF leaves STU alone. -/
theorem changeMode_stu (off : m ≠ .off) (was : s.mau.mode ≠ .off) : (changeMode m s).stu = s.stu := by
  simp only [changeMode_eq, exitIfAutomatic_stu, enterIfAutomatic_stu, exitIfOff, if_neg was, enterIfOff, if_neg off,
    beginChange_stu]

/-! #### The trip record and the batches (03 R45, R61; 08 R142) -/

theorem keepsSuspended_iff (m m' : LineMode) : keepsSuspended m m' = true ↔
    (m = .automatic ∧ m' = .attended) ∨ (m = .attended ∧ m' = .automatic) := by
  cases m <;> cases m' <;> decide

/-- A SUSPENDED trip that the change does not keep is ABANDONED; any other trip record stays. -/
theorem changeMode_trip : (changeMode m s).hc.trip =
    if s.hc.trip.state = .suspended ∧ keepsSuspended s.mau.mode m = false
      then { s.hc.trip with state := .abandoned, cause := some .hold } else s.hc.trip := by
  simp only [changeMode_eq, exitIfAutomatic_trip, enterIfAutomatic_trip, exitIfOff_hc, enterIfOff_hc, beginChange]
  split
  · rw [abandonTrip_hc]
    rfl
  · rfl

/-- No batch is fixed. -/
def State.batchless (s : State) : Prop := s.gqu.batches = ⟨none, none⟩

variable {s}

theorem batchless_congr {t : State} (same : t.gqu = s.gqu) : t.batchless ↔ s.batchless := by
  rw [State.batchless, State.batchless, same]

theorem dissolveBatch_batchless (c : Car) (h : s.batchless) : (dissolveBatch c s).batchless := by
  have absent : s.gqu.batches.car c = none := by
    rw [h]
    cases c <;> rfl
  simp only [dissolveBatch, absent]
  exact h

theorem dissolveBoth_batchless (s : State) : (dissolveBoth s).batchless := by
  have b := dissolveBatch_absent .b (dissolveBatch .a s)
  have a := dissolveBatch_keeps_absent .b (dissolveBatch_absent .a s)
  exact congrArg₂ Two.mk a b

theorem forEach_batchless {f : Nat → State → State} (hf : ∀ i (t : State), t.batchless → (f i t).batchless) :
    ∀ (l : List Nat) (t : State), t.batchless → (forEach f l t).batchless
  | [], _, h => h
  | i :: is, t, h => forEach_batchless hf is _ (hf i t h)

/-- Opening a door set fixes no batch. -/
theorem enterOpening_batchless (i : Nat) (h : s.batchless) : (enterOpening i s).batchless := by
  rw [State.batchless, enterOpening_batches, boardingReopened]
  (repeat' split)
  · exact h
  · exact dissolveBatch_batchless _ h
  · exact h
  · exact h

theorem askRelease_batchless (c : Car) (k : Nat) (h : s.batchless) : (askRelease c k s).batchless := by
  rw [askRelease]
  split
  · exact forEach_batchless (fun i _ => enterOpening_batchless i) _ _ h
  · exact h

theorem enterAutomatic_batchless (h : s.batchless) : (enterAutomatic s).batchless := by
  rw [State.batchless, enterAutomatic, modHc_gqu]
  split
  · rw [askReleases]
    split
    · exact askRelease_batchless _ _ (askRelease_batchless _ _ h)
    · exact h
  · exact h

/-- After the entry to OFF nothing in a change of mode fixes a batch. -/
theorem exits_batchless (m' : LineMode) (h : s.batchless) :
    (exitIfAutomatic m' (enterIfAutomatic m (exitIfOff m' s))).batchless := by
  rw [batchless_congr (exitIfAutomatic_gqu _ _)]
  have left : (exitIfOff m' s).batchless := (batchless_congr (exitIfOff_gqu _ _)).2 h
  rw [enterIfAutomatic]
  split
  · exact enterAutomatic_batchless left
  · exact left

theorem enterOff_batchless (s : State) : (enterOff s).batchless := by
  rw [enterOff, batchless_congr (beginStandby_gqu _)]
  exact dissolveBoth_batchless _

theorem changeMode_off_batchless (off : m = .off) : (changeMode m s).batchless := by
  rw [changeMode_eq]
  refine exits_batchless _ _ ?_
  rw [enterIfOff, if_pos off]
  exact enterOff_batchless _

/-- A SUSPENDED trip that is abandoned before its commit dissolves both batches. -/
theorem changeMode_abandons_batchless (ends : s.hc.trip.state = .suspended ∧ keepsSuspended s.mau.mode m = false)
    (uncommitted : s.hc.trip.committed = false) : (changeMode m s).batchless := by
  rw [changeMode_eq]
  refine exits_batchless _ _ ?_
  have begun : (beginChange m s).batchless := by
    rw [beginChange, if_pos ends, abandonTrip, if_neg (by simp [uncommitted])]
    exact dissolveBoth_batchless _
  rw [enterIfOff]
  split
  · exact enterOff_batchless _
  · exact begun

/-! #### The automatic cycle (03 R61; 06 R97, R100) -/

theorem changeMode_boarding (differs : m ≠ s.mau.mode) (automatic : m = .automatic) :
    (changeMode m s).hc.cycle = .boarding := by
  have was : s.mau.mode ≠ .automatic := fun same => differs (automatic.trans same.symm)
  rw [changeMode_eq, exitIfAutomatic, if_neg was, enterIfAutomatic, if_pos automatic]
  rfl

theorem changeMode_leaves_automatic (automatic : s.mau.mode = .automatic) :
    (changeMode m s).hc.cycle = .none ∧ (changeMode m s).dc.dwell = .idle ∧
      (changeMode m s).releasePending = false := by
  rw [changeMode_eq, exitIfAutomatic, if_pos automatic]
  exact ⟨rfl, rfl, rfl⟩

end

/-- Settles O32: the judgement of the owner, and what `changeMode` makes of each block. -/
theorem modeSetChangesTheModeAndHandsItOn : Obligations.ModeSetChangesTheModeAndHandsItOn := by
  rintro s q h n rfl hp
  refine ⟨fun unnamed => refusedWith_of_own rfl rfl hp (setMode_unnamed unnamed), fun m named =>
    ⟨fun same => doneWith_of_own rfl rfl hp (setMode_same named same),
     fun other rowless => refusedWith_of_own rfl rfl hp (setMode_rowless named other rowless),
     fun row c other found refused => refusedWith_of_own rfl rfl hp (setMode_refused named other found refused),
     fun row other found passed => ?changed⟩⟩
  case changed =>
    refine ⟨_, doneWith_of_own rfl rfl hp (setMode_changes named other found passed), ?_⟩
    generalize s.asTaken h (.modeSet n) = q at other
    obtain ⟨mode, posts⟩ := changeMode_mode m q other
    refine ⟨mode, posts, changeMode_lgp q m, changeMode_tt q m, ?entersOff, ?leavesOff, ?brake,
      fun off => (changeMode_bl m q).trans (if_neg off), ?channels, changeMode_stu m q, ?abandoned, ?kept,
      changeMode_boarding m other, changeMode_leaves_automatic m⟩
    case entersOff =>
      rintro rfl
      rw [changeMode_mau_off q (Ne.symm other)]
      exact ⟨rfl, rfl, rfl, rfl⟩
    case leavesOff =>
      intro was
      rw [changeMode_mau_wakes m q was (fun off => other (off.trans was.symm))]
      exact ⟨rfl, rfl⟩
    case brake =>
      intro off
      exact ⟨changeMode_off_batchless m off,
        ((changeMode_bl m q).trans (if_pos off)).trans (applyBrake_emergency_bl q)⟩
    case channels =>
      rintro off
      refine ⟨changeMode_speed q m, ?_⟩
      rintro ch x rfl
      rw [changeMode_chan m q ch off other, TensionChannel.restarted_eq]
    case abandoned =>
      intro suspended other
      have ends : q.hc.trip.state = .suspended ∧ keepsSuspended q.mau.mode m = false :=
        ⟨suspended, Bool.eq_false_iff.2 (mt (keepsSuspended_iff ..).1 other)⟩
      exact ⟨(changeMode_trip m q).trans (if_pos ends), changeMode_abandons_batchless m ends⟩
    case kept =>
      intro keeps
      refine (changeMode_trip m q).trans (if_neg ?_)
      rintro ⟨suspended, leaves⟩
      have kept := keeps.resolve_left (not_not_intro suspended)
      rw [(keepsSuspended_iff ..).2 kept] at leaves
      cases leaves

end Sys2Proof.Machine
end

section

namespace Sys2Proof.Machine

/-! ### Raises, ends and the fault table slot by slot -/

/-- A raise leaves the slots of all other keys, also when its own key has no slot (10 R167). -/
theorem slot_raised_ne (t : FaultTable) {k x : FaultKey} (clock : Nat) (mem : x ∈ allKeys) (other : x ≠ k) :
    (t.raised k clock).slot x = t.slot x := by
  have apart : x.rank ≠ k.rank := fun same => other (key_at_rank (same ▸ key_of_rank mem))
  simp only [FaultTable.slot, FaultTable.raised, getElem?_updateAt, if_neg apart]

/-- The end of a condition leaves the slots of all other keys. -/
theorem slot_ended_ne (t : FaultTable) {k x : FaultKey} (mem : x ∈ allKeys) (other : x ≠ k) :
    (t.ended k).slot x = t.slot x := by
  have apart : x.rank ≠ k.rank := fun same => other (key_at_rank (same ▸ key_of_rank mem))
  simp only [FaultTable.slot, FaultTable.ended, getElem?_updateAt, if_neg apart]

/-- A slot after n raises of its key at one value of the line clock (10 R168, R169). -/
def raisedTimes (kind : FaultKind) (clock n : Nat) (r : Option FaultRec) : Option FaultRec :=
  (fun x => some (raisedRecord kind clock x))^[n] r

theorem raisedTimes_succ (kind : FaultKind) (clock n : Nat) (r : Option FaultRec) :
    raisedTimes kind clock (n + 1) r = some (raisedRecord kind clock (raisedTimes kind clock n r)) :=
  Function.iterate_succ_apply' ..

theorem raisedTimes_isSome (kind : FaultKind) (clock n : Nat) :
    (raisedTimes kind clock n none).isSome = true ↔ 0 < n := by
  cases n with
  | zero => simp [raisedTimes]
  | succ n => simp [raisedTimes_succ]

/-- A record is in its slot after a raise. -/
theorem slots_raised_rank (t : FaultTable) {k : FaultKey} (clock : Nat) (mem : k ∈ allKeys)
    (full : t.slots.length = 69) : ∃ r, (t.raised k clock).slots[k.rank]? = some (some r) := by
  have slot := slot_raised_same t clock mem full
  rw [FaultTable.slot, Option.join_eq_some_iff] at slot
  exact ⟨_, slot⟩

/-- A raise makes its class present and ends no other presence (10 R168, R171). -/
theorem presentClass_raised_iff {t : FaultTable} {k : FaultKey} {clock : Nat} {c : FaultClass}
    (full : t.slots.length = 69) (known : k.code.cls = c → k ∈ allKeys) :
    (t.raised k clock).presentClass c = true ↔ k.code.cls = c ∨ t.presentClass c = true := by
  constructor
  · exact fun present => (presentClass_raised present).symm
  · rintro (cls | present)
    · obtain ⟨r, place⟩ := slots_raised_rank t clock (known cls) full
      exact (presentClass_iff _ _).2 ⟨k.rank, k, r, key_of_rank (known cls), place, cls⟩
    · obtain ⟨i, x, r, key, place, cls⟩ := (presentClass_iff _ _).1 present
      have raised : (t.raised k clock).slots[i]? = if i = k.rank then
          some (some (raisedRecord k.code.kind clock (some r))) else some (some r) := by
        rw [FaultTable.raised, getElem?_updateAt, place]
        rfl
      refine (presentClass_iff _ _).2
        ⟨i, x, if i = k.rank then raisedRecord k.code.kind clock (some r) else r, key, ?_, cls⟩
      rw [raised]
      split <;> rfl

/-- The end of a latched condition leaves its slot present (10 R170). -/
theorem presentClass_ended_iff {t : FaultTable} {k : FaultKey} {c : FaultClass} (latched : k.code.kind = .latched) :
    (t.ended k).presentClass c = true ↔ t.presentClass c = true := by
  refine ⟨presentClass_ended, fun present => ?_⟩
  obtain ⟨i, x, r, key, place, cls⟩ := (presentClass_iff _ _).1 present
  have stays : ∃ r', endedSlot k.code.kind (some r) = some r' := by
    rw [latched]
    cases state : r.state <;> simp [endedSlot, state]
  obtain ⟨r', ended⟩ := stays
  refine (presentClass_iff _ _).2 ⟨i, x, if i = k.rank then r' else r, key, ?_, cls⟩
  rw [FaultTable.ended, getElem?_updateAt, place, Option.map_some, ended]
  split <;> rfl

/-! ### Raises while the haul stands and no trip is ACTIVE -/

/-- HC less what a demand of class EMERGENCY changes when no trip is ACTIVE (04 R72). -/
def Hc.rest (x : Hc) : Hc := { x with haul := .parked, drive := .noTorque, warnDue := none, arrivalDue := false }

/-- The haul stands, no trip is ACTIVE, and the fault table has its 69 slots. -/
structure State.settled (s : State) : Prop where
  stands : s.haulStands
  idle : s.hc.trip.state ≠ .active
  full : s.ft.slots.length = 69

/-- A demand of class EMERGENCY ends no trip when none is ACTIVE. -/
theorem emergencyDemand_idle {s : State} (code : Option FaultCode) (idle : s.hc.trip.state ≠ .active) :
    (emergencyDemand code s).hc.rest = s.hc.rest ∧ (emergencyDemand code s).gqu = s.gqu ∧
      (emergencyDemand code s).ll = s.ll := by
  simp only [emergencyDemand, if_neg idle]
  (repeat' split) <;> simp [Hc.rest, command, applyBrake, modBrake, *]

/-- What a raise leaves of a settled state. -/
theorem raise_settled {s : State} (k : FaultKey) (h : s.settled) :
    (raise k s).hc.rest = s.hc.rest ∧ (raise k s).gqu = s.gqu ∧ (raise k s).ll = s.ll := by
  by_cases cls : k.code.cls = .emergency
  · simp only [raise, handOn, cls]
    exact emergencyDemand_idle (s := s.modFt _) _ h.idle
  · rw [raise_stands cls h.stands]
    exact ⟨rfl, rfl, rfl⟩

theorem settled_raise {s : State} (k : FaultKey) (h : s.settled) : (raise k s).settled where
  stands := raise_haulStands k h.stands
  idle := by
    have trip := congrArg Hc.trip (raise_settled k h).1
    exact (congrArg Trip.state trip).trans_ne h.idle
  full := by simpa [raise_ft, FaultTable.raised] using h.full

/-- When a raise of a standing haul leaves it TRIPPED. -/
theorem raise_haul_tripped_iff {s : State} (k : FaultKey) (h : s.haulStands) :
    (raise k s).hc.haul = .tripped ↔ k.code.cls = .emergency ∨ s.hc.haul = .tripped := by
  by_cases cls : k.code.cls = .emergency
  · simp [cls, raise_emergency_tripped s cls]
  · rw [raise_stands cls h]
    simp [cls]

/-! ### The judgements of a line restart as raises and ends -/

/-- The codes of the conditions that a line restart judges anew, by the positions, the speeds, the brakes and the
presence pairs as they stand (01 R10, R16, R17; 02 R27; 04 R83). -/
def judgedCodes : List FaultCode :=
  [.overtravel, .overspeedEmergency, .encoderDisagree, .positionDisagree, .brakeFeedback, .overspeedService,
   .markerMissed]

/-- A key whose demand would trip the haul has a slot of its own. -/
def FaultKey.known (k : FaultKey) : Prop := k.code.cls = .emergency → k ∈ allKeys

/-- A state that comes from `o` by raises and by ends of latched conditions alone, whatever happens to the blocks that
hold no traffic and no trip. The list holds the keys that were raised, but for the raises of judged codes. -/
inductive Rejudged (o : State) : List FaultKey → State → Prop
  | start : Rejudged o [] o
  | aside {ks : List FaultKey} {s t : State} (h : Rejudged o ks s)
      (same : t.ft = s.ft ∧ t.hc = s.hc ∧ t.gqu = s.gqu ∧ t.tt = s.tt)
      (marked : s.ll.notices <+: t.ll.notices) : Rejudged o ks t
  | raises {ks : List FaultKey} {s : State} (h : Rejudged o ks s) (k : FaultKey) (known : k.known) :
      Rejudged o (ks ++ [k]) (raise k s)
  | judges {ks : List FaultKey} {s : State} (h : Rejudged o ks s) (k : FaultKey) (judged : k.code ∈ judgedCodes)
      (known : k.known) : Rejudged o ks (raise k s)
  | ends {ks : List FaultKey} {s : State} (h : Rejudged o ks s) (k : FaultKey) (judged : k.code ∈ judgedCodes)
      (latched : k.code.kind = .latched) : Rejudged o ks (endCondition k s)

/-- What raises and ends leave of a settled state: the trip, the traffic, the line clock, and the keys marked. -/
structure RestartFrame (o t : State) : Prop where
  settled : t.settled
  rest : t.hc.rest = o.hc.rest
  gqu : t.gqu = o.gqu
  tt : t.tt = o.tt
  marked : o.ll.notices <+: t.ll.notices

theorem RestartFrame.trip {o t : State} (f : RestartFrame o t) : t.hc.trip = o.hc.trip := (congrArg Hc.trip f.rest :)

theorem RestartFrame.forced {o t : State} (f : RestartFrame o t) : t.hc.forced = o.hc.forced :=
  (congrArg Hc.forced f.rest :)

theorem RestartFrame.heading {o t : State} (f : RestartFrame o t) : t.hc.heading = o.hc.heading :=
  (congrArg Hc.heading f.rest :)

theorem RestartFrame.carLine {o t : State} (f : RestartFrame o t) : t.hc.carLine = o.hc.carLine :=
  (congrArg Hc.carLine f.rest :)

theorem RestartFrame.raise {o s : State} (f : RestartFrame o s) (k : FaultKey) : RestartFrame o (raise k s) := by
  obtain ⟨rest, gqu, ll⟩ := raise_settled k f.settled
  exact ⟨settled_raise k f.settled, rest.trans f.rest, gqu.trans f.gqu, (raise_tt s k).trans f.tt, ll ▸ f.marked⟩

section

variable {o s t : State} {ks : List FaultKey}

theorem Rejudged.frame (settled : o.settled) (h : Rejudged o ks t) : RestartFrame o t := by
  induction h with
  | start => exact ⟨settled, rfl, rfl, rfl, List.prefix_rfl⟩
  | aside _ same marked f =>
    obtain ⟨ft, hc, gqu, tt⟩ := same
    refine ⟨⟨(haulStands_congr hc).2 f.settled.stands, ?_, ?_⟩, ?_, gqu.trans f.gqu, tt.trans f.tt,
      f.marked.trans marked⟩
    · rw [hc]
      exact f.settled.idle
    · rw [ft]
      exact f.settled.full
    · rw [hc]
      exact f.rest
  | raises _ k _ f => exact f.raise k
  | judges _ k _ _ f => exact f.raise k
  | ends _ k _ _ f =>
    exact ⟨⟨f.settled.stands, f.settled.idle, by simpa [FaultTable.ended] using f.settled.full⟩, f.rest, f.gqu, f.tt,
      f.marked⟩

/-- The slot of a key whose code is not judged has been raised as often as the list names it. -/
theorem Rejudged.slot (settled : o.settled) (h : Rejudged o ks t) {x : FaultKey} (mem : x ∈ allKeys)
    (unjudged : x.code ∉ judgedCodes) :
    t.ft.slot x = raisedTimes x.code.kind o.tt.clock (ks.count x) (o.ft.slot x) := by
  induction h with
  | start => rfl
  | aside _ same _ slot => rw [same.1, slot]
  | @raises ks s before k _ slot =>
    have f := before.frame settled
    rw [raise_ft, f.tt]
    by_cases same : x = k
    · subst same
      rw [slot_raised_same _ _ mem f.settled.full, slot, List.count_append, List.count_singleton_self,
        raisedTimes_succ]
    · rw [slot_raised_ne _ _ mem same, slot, List.count_append, List.count_eq_zero_of_not_mem (l := [k]) (by simpa),
        Nat.add_zero]
  | judges _ k judged _ slot =>
    have other : x ≠ k := fun same => unjudged (same ▸ judged)
    rw [raise_ft, slot_raised_ne _ _ mem other, slot]
  | ends _ k judged _ slot =>
    have other : x ≠ k := fun same => unjudged (same ▸ judged)
    rw [endCondition_ft, slot_ended_ne _ mem other, slot]

/-- From an empty table the haul is TRIPPED afterwards when it was, or when a fault of class EMERGENCY is present. -/
theorem Rejudged.tripped_iff (settled : o.settled) (empty : o.ft.presentClass .emergency = false)
    (h : Rejudged o ks t) :
    t.hc.haul = .tripped ↔ o.hc.haul = .tripped ∨ t.ft.presentClass .emergency = true := by
  have raised : ∀ {ks : List FaultKey} {s : State} (k : FaultKey), Rejudged o ks s → k.known →
      (s.hc.haul = .tripped ↔ o.hc.haul = .tripped ∨ s.ft.presentClass .emergency = true) →
      ((raise k s).hc.haul = .tripped ↔ o.hc.haul = .tripped ∨ (raise k s).ft.presentClass .emergency = true) := by
    intro ks s k before known ih
    have f := before.frame settled
    rw [raise_haul_tripped_iff k f.settled.stands, raise_ft, presentClass_raised_iff f.settled.full known, ih]
    exact or_left_comm
  induction h with
  | start => simp [empty]
  | aside _ same _ ih =>
    rw [same.1, same.2.1]
    exact ih
  | raises before k known ih => exact raised k before known ih
  | judges before k _ known ih => exact raised k before known ih
  | ends _ k _ latched ih =>
    rw [endCondition_ft, presentClass_ended_iff latched]
    exact ih

/-! ### Each block of a line restart -/

theorem Rejudged.ite {p : Prop} [Decidable p] (hs : Rejudged o ks s) (ht : Rejudged o ks t) :
    Rejudged o ks (if p then s else t) := by
  split
  · exact hs
  · exact ht

/-- A block changed that holds neither traffic nor trip, and no key marked. -/
theorem Rejudged.same (h : Rejudged o ks s)
    (same : (t.ft, t.hc, t.gqu, t.tt, t.ll) = (s.ft, s.hc, s.gqu, s.tt, s.ll)) : Rejudged o ks t := by
  simp only [Prod.mk.injEq] at same
  obtain ⟨ft, hc, gqu, tt, ll⟩ := same
  exact h.aside ⟨ft, hc, gqu, tt⟩ (ll ▸ List.prefix_rfl)

theorem Rejudged.mark (h : Rejudged o ks s) (k : NoticeKey) : Rejudged o ks (mark k s) :=
  h.aside (by simp) ((mark_notices k s).imp fun _ => Eq.symm)

/-- A key raised where its condition holds, with the list filtered by a condition that says the same. -/
theorem Rejudged.raisesWhere {p : Prop} [Decidable p] {cond : FaultKey → Bool} {k : FaultKey} (h : Rejudged o ks s)
    (known : k.known) (same : cond k = true ↔ p) :
    Rejudged o (ks ++ [k].filter cond) (if p then raise k s else s) := by
  split
  · rw [List.filter_cons_of_pos (same.2 ‹_›)]
    exact h.raises k known
  · rw [List.filter_cons_of_neg (mt same.1 ‹_›)]
    simpa using h

theorem known_low (code : FaultCode) (i : Nat) (low : code.cls ≠ .emergency) : (⟨code, i⟩ : FaultKey).known :=
  fun high => absurd high low

theorem known_car (code : FaultCode) (two : ⟨code, 0⟩ ∈ allKeys ∧ ⟨code, 1⟩ ∈ allKeys) (c : Car) :
    (⟨code, c.index⟩ : FaultKey).known := fun _ => by
  cases c
  · exact two.1
  · exact two.2

/-! #### LGP -/

theorem rejudged_leaveWindow (c : Car) (h : Rejudged o ks s) : Rejudged o ks (leaveWindow c s) := by
  have emptied : Rejudged o ks (setWatch c none s) := h.same rfl
  simp only [leaveWindow]
  (repeat' split)
  · exact h
  · exact emptied
  · exact h
  · exact emptied.judges _ (by decide : FaultCode.markerMissed ∈ judgedCodes) (known_low _ _ (by decide))
  · exact emptied

theorem rejudged_judgeOvertravel (c : Car) (h : Rejudged o ks s) : Rejudged o ks (judgeOvertravel c s) := by
  have set : ∀ side, Rejudged o ks (setOvertravel c side s) := fun side => h.same rfl
  have judged : FaultCode.overtravel ∈ judgedCodes := by decide
  simp only [judgeOvertravel]
  (repeat' split)
  · exact h
  · exact h
  · exact (set _).judges _ judged (known_car _ (by decide) c)
  · exact (set _).ends _ judged rfl
  · exact set _

theorem rejudged_judgeOvertravels (h : Rejudged o ks s) : Rejudged o ks (judgeOvertravels s) :=
  rejudged_judgeOvertravel .b (rejudged_judgeOvertravel .a h)

theorem rejudged_restartPosition (h : Rejudged o ks s) : Rejudged o ks (restartPosition s) := by
  exact rejudged_judgeOvertravels (h.same rfl)

theorem rejudged_referenceAt (k : Nat) (h : Rejudged o ks s) : Rejudged o ks (referenceAt k s) := by
  have placed : Rejudged o ks (s.placedAt k) := (h.ite ((h.mark (.car .a)).mark (.car .b))).same rfl
  have fresh : ∀ t, Rejudged o ks t → Rejudged o ks (freshWatches t) := fun t ht => ht.same rfl
  rw [referenceAt_eq]
  exact rejudged_judgeOvertravels (fresh _ (rejudged_leaveWindow .b (rejudged_leaveWindow .a placed)))

theorem rejudged_disagreements : ∀ (cars : List Car) (s : State), Rejudged o ks s →
    Rejudged o ks (cars.foldl (fun t c => raise ⟨.positionDisagree, c.index⟩ t) s)
  | [], _, h => h
  | c :: cs, s, h => rejudged_disagreements cs _
      (h.judges ⟨.positionDisagree, c.index⟩ (by decide : FaultCode.positionDisagree ∈ judgedCodes)
        (known_car _ (by decide) c))

theorem rejudged_evaluateReferencing (h : Rejudged o ks s) : Rejudged o ks (evaluateReferencing s) := by
  rcases evaluateReferencing_cases s with e | ⟨k, -, e⟩ | ⟨c, cs, -, e⟩ <;> rw [e]
  · exact h
  · exact rejudged_referenceAt k h
  · exact (rejudged_disagreements _ s h).same rfl

/-! #### STU and BL -/

theorem rejudged_noteEncoders (h : Rejudged o ks s) : Rejudged o ks (noteEncoders s) := by
  have noted : ∀ f, Rejudged o ks (s.modStu f) := fun f => h.same rfl
  exact (noted _).ite ((noted _).ends _ (by decide : FaultCode.encoderDisagree ∈ judgedCodes) rfl)

theorem rejudged_restartSpeed (h : Rejudged o ks s) : Rejudged o ks (restartSpeed s) := by
  have noted : ∀ f, Rejudged o ks (noteEncoders (s.modStu f)) := fun f => rejudged_noteEncoders (h.same rfl)
  exact Rejudged.ite ((noted _).judges _ (by decide : FaultCode.encoderDisagree ∈ judgedCodes) fun _ => by decide)
    (noted _)

theorem rejudged_judgeEnvelope (h : Rejudged o ks s) : Rejudged o ks (judgeEnvelope s) := by
  have service : Rejudged o ks (if s.serviceTestNow && !s.bl.serviceTest then raise ⟨.overspeedService, 0⟩ s else s) :=
    Rejudged.ite (h.judges _ (by decide : FaultCode.overspeedService ∈ judgedCodes) fun _ => by decide) h
  have emergency : ∀ t, Rejudged o ks t → Rejudged o ks (raise ⟨.overspeedEmergency, 0⟩ t) := fun t ht =>
    ht.judges _ (by decide : FaultCode.overspeedEmergency ∈ judgedCodes) fun _ => by decide
  have both := Rejudged.ite (p := (s.emergencyTestNow && !s.bl.emergencyTest) = true) (emergency _ service) service
  exact both.same rfl

theorem rejudged_restartBrake (b : Brake) (h : Rejudged o ks s) : Rejudged o ks (restartBrake b s) := by
  have known : (⟨.brakeFeedback, b.index⟩ : FaultKey).known := fun _ => by cases b <;> decide
  exact Rejudged.ite (h.judges _ (by decide : FaultCode.brakeFeedback ∈ judgedCodes) known) h

theorem rejudged_restartBrakes (h : Rejudged o ks s) : Rejudged o ks (restartBrakes s) := by
  have fed := rejudged_restartBrake .emergency (rejudged_restartBrake .holding h)
  exact rejudged_judgeEnvelope (fed.same rfl)

end

/-! #### The conditions that a line restart raises again -/

/-- The keys of the lanes whose jammed flag is set (08 R149). -/
def jamKeys (lanes : List Lane) : List FaultKey :=
  (lanes.filter Lane.jammed).map (fun l => ⟨.gateLaneFault, l.id⟩)

/-- The condition of a key, of those that a line restart reads from DC, STU and the car lines, holds (02 R36, 03 R63,
06 R109). -/
def State.restartCondition (s : State) (k : FaultKey) : Bool :=
  match k.code with
  | .doorUnproven => decide (s.doorState? k.subject = some .unproven)
  | .doorObstructed => (s.dc.sets[k.subject]?).any (fun d => decide (3 ≤ d.reopen ∧ d.state ≠ .locked))
  | .tensionChannelFault => [Chan.one, .two].any (fun c => decide (k.subject = c.index ∧
      ((s.stu.tension.chan c).state = .silent ∨ (s.stu.tension.chan c).state = .recovering)))
  | .ropeTensionLimit => [Chan.one, .two].any (fun c => decide (k.subject = c.index) &&
      (s.stu.tension.chan c).limitCondition)
  | .carBrakeTripped => [Car.a, .b].any (fun c => decide (k.subject = c.index) && (s.hc.carLine.car c).brakeApplied)
  | .carEmergencyRequest =>
    [Car.a, .b].any (fun c => decide (k.subject = c.index) && (s.hc.carLine.car c).buttonPressed)
  | _ => false

/-- The keys of n door sets of a code. -/
def setKeys (code : FaultCode) (n : Nat) : List FaultKey := (List.range n).map (fun i => ⟨code, i⟩)

/-- The keys of the tension channels, in the order in which a line restart reads their conditions. -/
def tensionKeys : List FaultKey :=
  [⟨.tensionChannelFault, 0⟩, ⟨.ropeTensionLimit, 0⟩, ⟨.tensionChannelFault, 1⟩, ⟨.ropeTensionLimit, 1⟩]

/-- The keys of the car lines, in the order in which a line restart reads their conditions. -/
def carLineKeys : List FaultKey :=
  [⟨.carBrakeTripped, 0⟩, ⟨.carEmergencyRequest, 0⟩, ⟨.carBrakeTripped, 1⟩, ⟨.carEmergencyRequest, 1⟩]

/-- The keys whose conditions a line restart reads, for n door sets. -/
def readKeys (n : Nat) : List FaultKey :=
  (setKeys .doorUnproven n ++ setKeys .doorObstructed n) ++ (tensionKeys ++ carLineKeys)

/-- The keys that a line restart raises again by what it reads. -/
def State.restartKeys (s : State) : List FaultKey :=
  jamKeys s.gqu.lanes ++ (readKeys s.dc.sets.length).filter s.restartCondition

theorem mem_setKeys {code : FaultCode} {n : Nat} {k : FaultKey} :
    k ∈ setKeys code n ↔ k.code = code ∧ k.subject < n := by
  obtain ⟨c, i⟩ := k
  simp [setKeys, eq_comm, and_comm]

theorem readKeys_nodup (n : Nat) : (readKeys n).Nodup := by
  have sets : ∀ code, (setKeys code n).Nodup := fun code =>
    List.nodup_range.map fun i j same => congrArg FaultKey.subject same
  have fields : ∀ k ∈ tensionKeys ++ carLineKeys, k.code ≠ .doorUnproven ∧ k.code ≠ .doorObstructed := by decide
  refine List.nodup_append.2 ⟨List.nodup_append.2 ⟨sets _, sets _, ?_⟩, by decide, ?_⟩
  · rintro k unproven _ obstructed rfl
    rw [mem_setKeys] at unproven obstructed
    exact absurd (unproven.1.symm.trans obstructed.1) (by decide)
  · rintro k door _ field rfl
    rw [List.mem_append, mem_setKeys, mem_setKeys] at door
    rcases door with door | door
    · exact (fields k field).1 door.1
    · exact (fields k field).2 door.1

section

variable {o s q : State} {ks : List FaultKey}

theorem rejudged_raiseJams : ∀ (lanes : List Lane) (ks : List FaultKey) (s : State), Rejudged o ks s →
    Rejudged o (ks ++ jamKeys lanes) (raiseJams lanes s)
  | [], ks, s, h => by simpa [jamKeys, raiseJams] using h
  | l :: ls, ks, s, h => by
    have known : (⟨.gateLaneFault, l.id⟩ : FaultKey).known := known_low _ _ (by decide)
    cases jam : l.jammed with
    | true =>
      have rest := rejudged_raiseJams ls _ _ (h.raises _ known)
      simpa [jamKeys, raiseJams, jam] using rest
    | false =>
      have rest := rejudged_raiseJams ls _ _ h
      simpa [jamKeys, raiseJams, jam] using rest

/-- DOOR_OBSTRUCTED is raised for a set that is not LOCKED and whose reopen count stands at 3 (06 R109). -/
def raiseStillObstructed (i : Nat) (s : State) : State :=
  match s.dc.sets[i]? with
  | some d => if 3 ≤ d.reopen ∧ d.state ≠ .locked then raise ⟨.doorObstructed, i⟩ s else s
  | none => s

theorem raiseStillObstructed_dc (i : Nat) (s : State) : (raiseStillObstructed i s).dc = s.dc := by
  simp only [raiseStillObstructed]
  (repeat' split) <;> simp

theorem restartDoors_eq (s : State) : restartDoors s =
    forEach raiseStillObstructed (List.range s.dc.sets.length)
      (forEach raiseUnproven (List.range s.dc.sets.length) (leaveAutomaticDoors s)) := rfl

/-- Door sets looked at one by one, each raising its key where a condition on the door table holds. -/
theorem rejudged_sets {f : Nat → State → State} {code : FaultCode} {cond : FaultKey → Bool} {sets : List DoorSet}
    (low : code.cls ≠ .emergency) (table : ∀ i t, (f i t).dc = t.dc)
    (step : ∀ i (t : State), t.dc.sets = sets → f i t = if cond ⟨code, i⟩ = true then raise ⟨code, i⟩ t else t) :
    ∀ (l : List Nat) (ks : List FaultKey) (s : State), s.dc.sets = sets → Rejudged o ks s →
      Rejudged o (ks ++ (l.map (fun i => (⟨code, i⟩ : FaultKey))).filter cond) (forEach f l s)
  | [], ks, s, _, h => by simpa [forEach] using h
  | i :: is, ks, s, same, h => by
    have first : Rejudged o (ks ++ [(⟨code, i⟩ : FaultKey)].filter cond) (f i s) := by
      rw [step i s same]
      exact h.raisesWhere (known_low _ _ low) Iff.rfl
    have rest := rejudged_sets low table step is _ _ ((congrArg Dc.sets (table i s)).trans same) first
    rw [List.append_assoc, ← List.filter_append] at rest
    exact rest

theorem rejudged_restartDoors (sets : s.dc.sets = q.dc.sets) (h : Rejudged o ks s) :
    Rejudged o (ks ++ (setKeys .doorUnproven q.dc.sets.length ++ setKeys .doorObstructed q.dc.sets.length).filter
      q.restartCondition) (restartDoors s) := by
  have same : (leaveAutomaticDoors s).dc.sets = q.dc.sets := sets
  have unproven := rejudged_sets (f := raiseUnproven) (code := .doorUnproven) (cond := q.restartCondition)
    (by decide) (fun i t => raiseUnproven_dc t i)
    (fun i t same => by simp [raiseUnproven, State.restartCondition, State.doorState?, same])
    (List.range q.dc.sets.length) ks (leaveAutomaticDoors s) same (h.same rfl)
  have table : (forEach raiseUnproven (List.range q.dc.sets.length) (leaveAutomaticDoors s)).dc.sets = q.dc.sets := by
    rw [forEach_dc raiseUnproven (fun i t => raiseUnproven_dc t i), same]
  have obstructed := rejudged_sets (f := raiseStillObstructed) (code := .doorObstructed) (cond := q.restartCondition)
    (by decide) raiseStillObstructed_dc
    (fun i t same => by
      cases found : q.dc.sets[i]? with
      | none => simp [raiseStillObstructed, State.restartCondition, same, found]
      | some d => simp [raiseStillObstructed, State.restartCondition, same, found])
    (List.range q.dc.sets.length) _ _ table unproven
  rw [List.append_assoc, ← List.filter_append] at obstructed
  rw [restartDoors_eq, sets]
  exact obstructed

/-- The faults of the present conditions of tension channel c are raised (02 R36). -/
def raiseTension (c : Chan) (s : State) : State :=
  let ch := s.stu.tension.chan c
  let t := if ch.state = .silent ∨ ch.state = .recovering then raise ⟨.tensionChannelFault, c.index⟩ s else s
  if ch.limitCondition then raise ⟨.ropeTensionLimit, c.index⟩ t else t

theorem restartTensionFaults_eq (s : State) : restartTensionFaults s = raiseTension .two (raiseTension .one s) := rfl

@[simp] theorem raiseTension_stu (c : Chan) (s : State) : (raiseTension c s).stu = s.stu := by
  simp only [raiseTension]; (repeat' split) <;> simp

theorem rejudged_raiseTension (c : Chan) (tension : s.stu.tension = q.stu.tension) (h : Rejudged o ks s) :
    Rejudged o (ks ++ [⟨.tensionChannelFault, c.index⟩, ⟨.ropeTensionLimit, c.index⟩].filter q.restartCondition)
      (raiseTension c s) := by
  have fault := h.raisesWhere (k := ⟨.tensionChannelFault, c.index⟩) (cond := q.restartCondition)
    (p := (s.stu.tension.chan c).state = .silent ∨ (s.stu.tension.chan c).state = .recovering)
    (known_low _ _ (by decide)) (by cases c <;> simp [State.restartCondition, tension, Chan.index])
  have limit := fault.raisesWhere (k := ⟨.ropeTensionLimit, c.index⟩) (cond := q.restartCondition)
    (p := (s.stu.tension.chan c).limitCondition = true) (fun _ => by cases c <;> decide)
    (by cases c <;> simp [State.restartCondition, tension, Chan.index])
  rw [List.append_assoc, ← List.filter_append] at limit
  exact limit

theorem rejudged_restartTensionFaults (tension : s.stu.tension = q.stu.tension) (h : Rejudged o ks s) :
    Rejudged o (ks ++ tensionKeys.filter q.restartCondition) (restartTensionFaults s) := by
  have both := rejudged_raiseTension (q := q) .two (by rw [raiseTension_stu, tension])
    (rejudged_raiseTension .one tension h)
  rw [List.append_assoc, ← List.filter_append] at both
  rw [restartTensionFaults_eq]
  exact both

/-- The faults of the present conditions of car c's line are raised (03 R63). -/
def raiseCarLine (c : Car) (s : State) : State :=
  let l := s.hc.carLine.car c
  let t := if l.brakeApplied then raise ⟨.carBrakeTripped, c.index⟩ s else s
  if l.buttonPressed then raise ⟨.carEmergencyRequest, c.index⟩ t else t

theorem restartCarFaults_eq (s : State) : restartCarFaults s = raiseCarLine .b (raiseCarLine .a s) := rfl

@[simp] theorem raiseCarLine_carLine (c : Car) (s : State) : (raiseCarLine c s).hc.carLine = s.hc.carLine := by
  simp only [raiseCarLine]; (repeat' split) <;> simp

/-- The reports of track brake and emergency button on both car lines are those of another state. -/
def SameReports (s q : State) : Prop := ∀ c : Car,
  (s.hc.carLine.car c).brakeApplied = (q.hc.carLine.car c).brakeApplied ∧
    (s.hc.carLine.car c).buttonPressed = (q.hc.carLine.car c).buttonPressed

theorem rejudged_raiseCarLine (c : Car) (lines : SameReports s q) (h : Rejudged o ks s) :
    Rejudged o (ks ++ [⟨.carBrakeTripped, c.index⟩, ⟨.carEmergencyRequest, c.index⟩].filter q.restartCondition)
      (raiseCarLine c s) := by
  obtain ⟨brake, button⟩ := lines c
  have tripped := h.raisesWhere (k := ⟨.carBrakeTripped, c.index⟩) (cond := q.restartCondition)
    (p := (s.hc.carLine.car c).brakeApplied = true) (known_car _ (by decide) c)
    (by rw [brake]; cases c <;> simp [State.restartCondition, Car.index])
  have request := tripped.raisesWhere (k := ⟨.carEmergencyRequest, c.index⟩) (cond := q.restartCondition)
    (p := (s.hc.carLine.car c).buttonPressed = true) (known_low _ _ (by decide))
    (by rw [button]; cases c <;> simp [State.restartCondition, Car.index])
  rw [List.append_assoc, ← List.filter_append] at request
  exact request

theorem rejudged_restartCarFaults (lines : SameReports s q) (h : Rejudged o ks s) :
    Rejudged o (ks ++ carLineKeys.filter q.restartCondition) (restartCarFaults s) := by
  have both := rejudged_raiseCarLine (q := q) .b (by simpa [SameReports] using lines)
    (rejudged_raiseCarLine .a lines h)
  rw [List.append_assoc, ← List.filter_append] at both
  rw [restartCarFaults_eq]
  exact both

end

end Sys2Proof.Machine
end

section

namespace Sys2Proof.Machine

/-! ### The haul at a line restart (03 R63; 04 R83) -/

section

variable (s q : State)

/-- The state with the trip ended, from which a line restart decides the haul state. -/
def restartCleared : State :=
  let line : CarLine → CarLine := fun l => { l with requests := [], silenceDue := some (s.now + 2000000) }
  (s.modHc fun h => { h with
      trip := h.trip.restarted, forced := [], carLine := ⟨line h.carLine.fst, line h.carLine.snd⟩,
      cycle := .none, waiting := none, arrivalDue := false, warnDue := none }).modBl
    fun l => { l with stop := none, stage3 := none }

/-- The state from which the haul is PARKED: a drive that was commanded a speed is commanded to hold. -/
def restartHeld : State :=
  match s.hc.drive with
  | .speed _ _ => command .holding (restartCleared s)
  | _ => restartCleared s

theorem restartHaul_eq : restartHaul s = if s.standstill = false then emergencyDemand none (restartCleared s)
    else if s.hc.haul = .tripped then restartCleared s
    else followHeading (applyBrake .holding (setHaul .parked (restartHeld s))) := rfl

theorem Trip.restarted_eq (t : Trip) : t.restarted = { t with
    state := .none, cause := if t.state = .active ∨ t.state = .suspended then some .restart else t.cause } := by
  cases state : t.state <;> simp [Trip.restarted, state]

theorem restartCleared_idle : (restartCleared s).hc.trip.state ≠ .active := fun active => nomatch active

theorem restartHeld_frame : (restartHeld s).hc.rest = (restartCleared s).hc.rest ∧
    (restartHeld s).gqu = s.gqu ∧ (restartHeld s).ll = s.ll ∧ (restartHeld s).lgp = s.lgp := by
  simp only [restartHeld]
  split <;> exact ⟨rfl, rfl, rfl, rfl⟩

theorem followHeading_ll : (followHeading s).ll = s.ll := by
  simp only [followHeading, headFrom]
  (repeat' split) <;> rfl

/-- The part of HC and BL in a line restart reaches neither the queues nor the line link. -/
theorem restartHaul_link : (restartHaul s).gqu = s.gqu ∧ (restartHaul s).ll = s.ll := by
  rw [restartHaul_eq]
  (repeat' split)
  · exact (emergencyDemand_idle none (restartCleared_idle s)).2
  · exact ⟨rfl, rfl⟩
  · obtain ⟨-, gqu, ll, -⟩ := restartHeld_frame s
    exact ⟨(followHeading_gqu _).trans gqu, (followHeading_ll _).trans ll⟩

/-- What a line restart decides of HC besides the haul state is the heading. -/
theorem restartHaul_rest : ∃ d, (restartHaul s).hc.rest = { (restartCleared s).hc.rest with heading := d } := by
  rw [restartHaul_eq]
  (repeat' split)
  · exact ⟨_, (emergencyDemand_idle none (restartCleared_idle s)).1⟩
  · exact ⟨_, rfl⟩
  · obtain ⟨d, heading⟩ := followHeading_hc (applyBrake .holding (setHaul .parked (restartHeld s)))
    refine ⟨d, ?_⟩
    rw [heading, ← (restartHeld_frame s).1]
    rfl

theorem restartHaul_trip : (restartHaul s).hc.trip = s.hc.trip.restarted := by
  obtain ⟨d, rest⟩ := restartHaul_rest s
  exact (congrArg Hc.trip rest :)

theorem restartHaul_forced : (restartHaul s).hc.forced = [] := by
  obtain ⟨d, rest⟩ := restartHaul_rest s
  exact (congrArg Hc.forced rest :)

theorem restartHaul_reports : SameReports (restartHaul s) s := by
  obtain ⟨d, rest⟩ := restartHaul_rest s
  have lines : (restartHaul s).hc.carLine = (restartCleared s).hc.carLine := (congrArg Hc.carLine rest :)
  rw [SameReports, lines]
  intro c
  cases c <;> exact ⟨rfl, rfl⟩

variable {s}

theorem restartHaul_tripped (h : s.standstill = false ∨ s.hc.haul = .tripped) :
    (restartHaul s).hc.haul = .tripped := by
  rw [restartHaul_eq]
  split
  · exact (emergencyDemand_haul _ _).1
  · next still =>
    have tripped := h.resolve_left still
    rw [if_pos tripped]
    exact tripped

theorem restartHaul_parks (still : s.standstill = true) (haul : s.hc.haul ≠ .tripped) :
    restartHaul s = followHeading (applyBrake .holding (setHaul .parked (restartHeld s))) := by
  rw [restartHaul_eq, if_neg (by simp [still]), if_neg haul]

theorem restartHaul_parked (still : s.standstill = true) (haul : s.hc.haul ≠ .tripped) :
    (restartHaul s).hc.haul = .parked := by
  rw [restartHaul_parks still haul]
  obtain ⟨d, heading⟩ := followHeading_hc (applyBrake .holding (setHaul .parked (restartHeld s)))
  rw [heading]
  rfl

theorem restartHaul_stands : (restartHaul s).haulStands := by
  by_cases trips : s.standstill = false ∨ s.hc.haul = .tripped
  · exact .inr (restartHaul_tripped trips)
  · rw [not_or, Bool.not_eq_false] at trips
    exact .inl (restartHaul_parked trips.1 trips.2)

/-- The heading of a haul that a line restart parks at a stop (03 R46). -/
theorem restartHaul_heading {k : Nat} (still : s.standstill = true) (haul : s.hc.haul ≠ .tripped)
    (stop : s.stop = some k) : (restartHaul s).hc.heading
      = if k = 0 then .up else if k + 1 = s.stations then .down else s.hc.heading := by
  obtain ⟨rest, -, -, lgp⟩ := restartHeld_frame s
  have here : (applyBrake .holding (setHaul .parked (restartHeld s))).stop = some k := (stop_congr lgp).trans stop
  have stations : (applyBrake .holding (setHaul .parked (restartHeld s))).stations = s.stations :=
    stations_congr (congrArg Lgp.line lgp)
  have heading : (applyBrake .holding (setHaul .parked (restartHeld s))).hc.heading = s.hc.heading :=
    (congrArg Hc.heading rest :)
  rw [restartHaul_parks still haul, followHeading_at rfl here, headFrom_hc, stations, heading]

end

/-! ### A line restart from its first block to its last (log 23) -/

section

variable (q : State)

/-- The state from which a line restart decides the haul state: AUTOMATIC is left, the notice list begun anew, the
fault table emptied and a brake test ended. -/
def restartBegun : State := restartTest (emptyFaults (restartNotices (restartMode q)))

/-- The state of a line restart whose traffic is gone, before it raises a fault. -/
def restartOrigin : State := (restartHaul (restartBegun q)).modGqu fun g => { g with
  lanes := g.lanes.map (fun l => { l with passage := none }),
  queues := g.queues.map (fun q => { q with entries := [] }),
  batches := ⟨none, none⟩, loads := ⟨none, none⟩, disagree := false, settleDue := none }

/-- The blocks of a line restart after the haul state is decided, with what they raise and judge. -/
theorem lineRestart_eq : lineRestart q = restartSupervision (restartCarFaults (restartBrakes
    (evaluateReferencing (restartPosition (restartTensionFaults (restartSpeed (restartDoors
      (raiseJams (restartOrigin q).gqu.lanes (restartOrigin q))))))))) := rfl

theorem restartBegun_blocks : (restartBegun q).lgp = q.lgp ∧ (restartBegun q).stu = q.stu ∧
    (restartBegun q).tt = q.tt ∧ (restartBegun q).gqu = q.gqu ∧ (restartBegun q).ft = FaultTable.reset ∧
    (restartBegun q).dc.sets = q.dc.sets := by
  have sets : (restartMode q).dc.sets = q.dc.sets := by
    simp only [restartMode]
    split <;> rfl
  refine ⟨?_, ?_, ?_, ?_, ?_, ?_⟩ <;> simp [restartBegun, emptyFaults, sets]

/-- The trip, the haul state, the heading and the car lines stand until the haul state is decided. -/
theorem restartBegun_hc : (restartBegun q).hc.trip = q.hc.trip ∧ (restartBegun q).hc.haul = q.hc.haul ∧
    (restartBegun q).hc.heading = q.hc.heading ∧ (restartBegun q).hc.carLine = q.hc.carLine := by
  have tested : ∀ t : State, (restartTest t).hc = { t.hc with drive := (restartTest t).hc.drive } := fun t => by
    simp only [restartTest]
    split <;> rfl
  have left : (restartMode q).hc.trip = q.hc.trip ∧ (restartMode q).hc.haul = q.hc.haul ∧
      (restartMode q).hc.heading = q.hc.heading ∧ (restartMode q).hc.carLine = q.hc.carLine := by
    simp only [restartMode]
    split <;> exact ⟨rfl, rfl, rfl, rfl⟩
  rw [restartBegun, tested]
  simpa using left

theorem restartBegun_notices : [.haul, .mode] <+: (restartBegun q).ll.notices := by
  have tested : ∀ t : State, (restartTest t).ll = t.ll := fun t => by
    simp only [restartTest]
    split <;> rfl
  rw [restartBegun, tested, emptyFaults, emptySlots]
  split
  · exact List.prefix_rfl
  · obtain ⟨l, marked⟩ := mark_notices .fault ((restartNotices (restartMode q)).modFt fun _ => FaultTable.reset)
    exact ⟨l, marked.symm⟩

theorem restartOrigin_ft : (restartOrigin q).ft = FaultTable.reset := by
  obtain ⟨-, -, -, -, reset, -⟩ := restartBegun_blocks q
  exact (restartHaul_ft _).trans reset

theorem restartOrigin_settled : (restartOrigin q).settled where
  stands := restartHaul_stands
  idle := by
    have trip : (restartOrigin q).hc.trip = (restartBegun q).hc.trip.restarted := restartHaul_trip _
    rw [trip, Trip.restarted_eq]
    exact fun active => nomatch active
  full := by
    rw [restartOrigin_ft]
    rfl

theorem restartOrigin_jams : jamKeys (restartOrigin q).gqu.lanes = jamKeys q.gqu.lanes := by
  obtain ⟨-, -, -, gqu, -, -⟩ := restartBegun_blocks q
  have lanes : (restartOrigin q).gqu.lanes = q.gqu.lanes.map (fun l => { l with passage := none }) := by
    rw [← gqu, ← (restartHaul_link (restartBegun q)).1]
    rfl
  rw [lanes, jamKeys, jamKeys, List.filter_map, List.map_map]
  rfl

theorem restartOrigin_reports : SameReports (restartOrigin q) q := by
  obtain ⟨-, -, -, lines⟩ := restartBegun_hc q
  have same : SameReports (restartOrigin q) (restartBegun q) := restartHaul_reports _
  rw [SameReports, lines] at same
  exact same

theorem sameReports_congr {s t q : State} (lines : t.hc.carLine = s.hc.carLine) (h : SameReports s q) :
    SameReports t q := by
  rw [SameReports, lines]
  exact h

theorem rejudged_restartSupervision {o s : State} {ks : List FaultKey} (h : Rejudged o ks s) :
    Rejudged o ks (restartSupervision s) :=
  Rejudged.ite h (h.same rfl)

theorem restartSpeed_tension (s : State) : (restartSpeed s).stu.tension = s.stu.tension := by
  rw [restartSpeed, judgeEncoders_stu, noteEncoders_tension]
  rfl

/-- A line restart is raises and ends of conditions on the state whose traffic is gone: of the conditions that it
reads, those that hold, and of those that it judges anew. -/
theorem lineRestart_rejudged : Rejudged (restartOrigin q) q.restartKeys (lineRestart q) := by
  obtain ⟨-, stu, -, -, -, begun⟩ := restartBegun_blocks q
  have sets : (restartOrigin q).dc.sets = q.dc.sets := by simp [restartOrigin, begun]
  have tension : (restartOrigin q).stu = q.stu := by simp [restartOrigin, stu]
  have jams := rejudged_raiseJams (restartOrigin q).gqu.lanes [] (restartOrigin q) .start
  have doors := rejudged_restartDoors (q := q) (by rw [raiseJams_dc, sets]) jams
  have faults := rejudged_restartTensionFaults (q := q) (by simp [restartSpeed_tension, tension])
    (rejudged_restartSpeed doors)
  have brakes := rejudged_restartBrakes (rejudged_evaluateReferencing (rejudged_restartPosition faults))
  have reports := sameReports_congr (brakes.frame (restartOrigin_settled q)).carLine (restartOrigin_reports q)
  have cars := rejudged_restartCarFaults reports brakes
  have keys : [] ++ jamKeys (restartOrigin q).gqu.lanes
      ++ (setKeys .doorUnproven q.dc.sets.length ++ setKeys .doorObstructed q.dc.sets.length).filter q.restartCondition
      ++ tensionKeys.filter q.restartCondition ++ carLineKeys.filter q.restartCondition = q.restartKeys := by
    simp [restartOrigin_jams, State.restartKeys, readKeys]
  rw [keys] at cars
  rw [lineRestart_eq]
  exact rejudged_restartSupervision cars

/-- What a line restart leaves of its trip, its traffic and its notice list. -/
theorem lineRestart_frame : RestartFrame (restartOrigin q) (lineRestart q) :=
  (lineRestart_rejudged q).frame (restartOrigin_settled q)

end

end Sys2Proof.Machine
end

section

namespace Sys2Proof.Machine

/-! ### The fault table after a line restart (09 R164; 10 R176) -/

section

variable {q : State} {k : FaultKey}

theorem mem_restartKeys (lane : k.code ≠ .gateLaneFault) :
    k ∈ q.restartKeys ↔ k ∈ readKeys q.dc.sets.length ∧ q.restartCondition k = true := by
  have other : k ∉ jamKeys q.gqu.lanes := by
    intro jam
    obtain ⟨l, -, rfl⟩ := List.mem_map.1 jam
    exact lane rfl
  simp [State.restartKeys, other]

theorem mem_restartKeys_lane {n : Nat} :
    ⟨.gateLaneFault, n⟩ ∈ q.restartKeys ↔ ∃ l ∈ q.gqu.lanes, l.id = n ∧ l.jammed = true := by
  have unread : q.restartCondition ⟨.gateLaneFault, n⟩ = false := rfl
  simp only [State.restartKeys, List.mem_append, List.mem_filter, unread, jamKeys, List.mem_map, FaultKey.mk.injEq,
    true_and, Bool.false_eq_true, and_false, or_false, and_assoc]
  exact exists_congr fun l => and_congr_right fun _ => and_comm

/-- The slot of a condition that a line restart reads is raised once for each time that the condition holds. -/
theorem lineRestart_slot (q : State) (mem : k ∈ allKeys) (unjudged : k.code ∉ judgedCodes) :
    (lineRestart q).ft.slot k = raisedTimes k.code.kind q.tt.clock (q.restartKeys.count k) none := by
  obtain ⟨-, -, tt, -, -, -⟩ := restartBegun_blocks q
  have empty : (restartOrigin q).ft.slot k = none := by rw [restartOrigin_ft, slot_reset]
  have clock : (restartOrigin q).tt = q.tt := (restartHaul_tt _).trans tt
  rw [(lineRestart_rejudged q).slot (restartOrigin_settled q) mem unjudged, empty, clock]

theorem lineRestart_slot_isSome (mem : k ∈ allKeys) (unjudged : k.code ∉ judgedCodes) :
    ((lineRestart q).ft.slot k).isSome = true ↔ k ∈ q.restartKeys := by
  rw [lineRestart_slot q mem unjudged, raisedTimes_isSome, List.count_pos_iff]

/-- A condition of which no lane is the subject is read once, so its slot has a record of one raise. -/
theorem lineRestart_slot_once {r : FaultRec} (mem : k ∈ allKeys) (unjudged : k.code ∉ judgedCodes)
    (lane : k.code ≠ .gateLaneFault) (slot : (lineRestart q).ft.slot k = some r) :
    r.count = 1 ∧ r.first = q.tt.clock ∧ r.last = q.tt.clock := by
  have unjammed : (jamKeys q.gqu.lanes).count k = 0 := by
    refine List.count_eq_zero.2 fun jam => ?_
    obtain ⟨l, -, rfl⟩ := List.mem_map.1 jam
    exact lane rfl
  have once : q.restartKeys.count k ≤ 1 := by
    rw [State.restartKeys, List.count_append, unjammed, Nat.zero_add]
    exact List.nodup_iff_count_le_one.1 ((readKeys_nodup _).filter _) k
  have raised : 0 < q.restartKeys.count k := by
    rw [List.count_pos_iff, ← lineRestart_slot_isSome mem unjudged, slot]
    rfl
  rw [lineRestart_slot q mem unjudged, show q.restartKeys.count k = 1 by omega] at slot
  cases slot
  exact ⟨rfl, rfl, rfl⟩

/-- The keys with a slot of their own (10 R167). -/
theorem mem_allKeys_iff : k ∈ allKeys ↔ k.subject < k.code.subjects := by
  obtain ⟨c, i⟩ := k
  have code : c ∈ allCodes := by cases c <;> decide
  simp [allKeys, code]

/-! #### The conditions read, by their codes -/

/-- The codes of the conditions that a line restart reads once each. -/
def readCodes : List FaultCode :=
  [.carBrakeTripped, .carEmergencyRequest, .doorUnproven, .doorObstructed, .tensionChannelFault, .ropeTensionLimit]

theorem readCodes_apart {c : FaultCode} (read : c ∈ readCodes) : c ∉ judgedCodes ∧ c ≠ .gateLaneFault := by
  have apart : ∀ c ∈ readCodes, c ∉ judgedCodes ∧ c ≠ .gateLaneFault := by decide
  exact apart c read

/-- The slot of a condition that is read once is present when the condition holds. -/
theorem lineRestart_read {c : FaultCode} {i : Nat} (read : c ∈ readCodes) (subject : i < c.subjects) :
    ((lineRestart q).ft.slot ⟨c, i⟩).isSome = true ↔
      ⟨c, i⟩ ∈ readKeys q.dc.sets.length ∧ q.restartCondition ⟨c, i⟩ = true := by
  obtain ⟨unjudged, lane⟩ := readCodes_apart read
  rw [lineRestart_slot_isSome (mem_allKeys_iff.2 subject) unjudged, mem_restartKeys lane]

theorem lineRestart_car (c : Car) :
    (((lineRestart q).ft.slot ⟨.carBrakeTripped, c.index⟩).isSome = true
      ↔ (q.hc.carLine.car c).brakeApplied = true) ∧
    (((lineRestart q).ft.slot ⟨.carEmergencyRequest, c.index⟩).isSome = true
      ↔ (q.hc.carLine.car c).buttonPressed = true) := by
  rw [lineRestart_read (by decide) (by cases c <;> decide), lineRestart_read (by decide) (by cases c <;> decide)]
  cases c <;> simp [readKeys, carLineKeys, State.restartCondition, Car.index]

theorem lineRestart_chan (c : Chan) :
    (((lineRestart q).ft.slot ⟨.tensionChannelFault, c.index⟩).isSome = true
      ↔ (q.stu.tension.chan c).state = .silent ∨ (q.stu.tension.chan c).state = .recovering) ∧
    (((lineRestart q).ft.slot ⟨.ropeTensionLimit, c.index⟩).isSome = true
      ↔ (q.stu.tension.chan c).limitCondition = true) := by
  rw [lineRestart_read (by decide) (by cases c <;> decide), lineRestart_read (by decide) (by cases c <;> decide)]
  cases c <;> simp [readKeys, tensionKeys, State.restartCondition, Chan.index]

theorem lineRestart_door {i : Nat} (h : i < 8) :
    (((lineRestart q).ft.slot ⟨.doorUnproven, i⟩).isSome = true ↔ q.doorState? i = some .unproven) ∧
    (((lineRestart q).ft.slot ⟨.doorObstructed, i⟩).isSome = true
      ↔ ∃ d, q.dc.sets[i]? = some d ∧ 3 ≤ d.reopen ∧ d.state ≠ .locked) := by
  have read : ∀ code d, code = .doorUnproven ∨ code = .doorObstructed → q.dc.sets[i]? = some d →
      ⟨code, i⟩ ∈ readKeys q.dc.sets.length := fun code d door found => by
    have inside : i < q.dc.sets.length := (List.getElem?_eq_some_iff.1 found).1
    simp only [readKeys, List.mem_append, mem_setKeys]
    exact .inl (door.imp (⟨·, inside⟩) (⟨·, inside⟩))
  rw [lineRestart_read (by decide) h, lineRestart_read (by decide) h]
  constructor
  · simp only [State.restartCondition, decide_eq_true_eq]
    refine and_iff_right_of_imp fun unproven => ?_
    obtain ⟨d, found, -⟩ := Option.map_eq_some_iff.1 unproven
    exact read _ d (.inl rfl) found
  · simp only [State.restartCondition, Option.any_eq_true, decide_eq_true_eq]
    refine and_iff_right_of_imp fun ⟨d, found, _⟩ => ?_
    exact read _ d (.inr rfl) found

theorem lineRestart_lane {n : Nat} (h : n < 16) : ((lineRestart q).ft.slot ⟨.gateLaneFault, n⟩).isSome = true
    ↔ ∃ l ∈ q.gqu.lanes, l.id = n ∧ l.jammed = true := by
  have unjudged : FaultCode.gateLaneFault ∉ judgedCodes := by decide
  rw [lineRestart_slot_isSome (mem_allKeys_iff.2 h) unjudged, mem_restartKeys_lane]

/-- The codes that a line restart neither reads nor judges have no slot after it. -/
theorem lineRestart_unread (mem : k ∈ allKeys) (unread : k.code ∈ [FaultCode.operatorEmergency, .brakeEscalated,
    .carLinkLost, .supervisionLost, .stopOverrun, .brakeTestFailed, .doorTimeout, .loadDisagree]) :
    (lineRestart q).ft.slot k = none := by
  have apart : ∀ c ∈ [FaultCode.operatorEmergency, .brakeEscalated, .carLinkLost, .supervisionLost, .stopOverrun,
      .brakeTestFailed, .doorTimeout, .loadDisagree], c ∉ judgedCodes ∧ c ≠ .gateLaneFault := by decide
  obtain ⟨unjudged, lane⟩ := apart _ unread
  have condition : q.restartCondition k = false := by
    obtain ⟨c, i⟩ := k
    simp only [List.mem_cons, List.not_mem_nil, or_false] at unread
    rcases unread with rfl | rfl | rfl | rfl | rfl | rfl | rfl | rfl <;> rfl
  rw [← Option.not_isSome_iff_eq_none, lineRestart_slot_isSome mem unjudged, mem_restartKeys lane, condition]
  simp

end

/-! ### What a line restart leaves of the blocks -/

section

variable (q : State)

theorem lineRestart_gqu : (lineRestart q).gqu = { q.gqu with
    lanes := q.gqu.lanes.map (fun l => { l with passage := none }),
    queues := q.gqu.queues.map (fun x => { x with entries := [] }),
    batches := ⟨none, none⟩, loads := ⟨none, none⟩, disagree := false, settleDue := none } := by
  obtain ⟨-, -, -, gqu, -, -⟩ := restartBegun_blocks q
  rw [(lineRestart_frame q).gqu, restartOrigin, modGqu_gqu, (restartHaul_link (restartBegun q)).1, gqu]

/-- MAU after a line restart: AUTOMATIC has become ATTENDED, and of the rest supervision alone may change. -/
theorem lineRestart_mau : (lineRestart q).mau.mode = (if q.mau.mode = .automatic then .attended else q.mau.mode) ∧
    (lineRestart q).mau.config = q.mau.config ∧ (lineRestart q).mau.posts = q.mau.posts := by
  have supervised : ∀ t : State, (restartSupervision t).mau.mode = t.mau.mode ∧
      (restartSupervision t).mau.config = t.mau.config ∧ (restartSupervision t).mau.posts = t.mau.posts := by
    intro t
    simp only [restartSupervision]
    split <;> exact ⟨rfl, rfl, rfl⟩
  have entered : (restartMode q).mau = { q.mau with
      mode := if q.mau.mode = .automatic then .attended else q.mau.mode } := by
    simp only [restartMode]
    split <;> rfl
  rw [lineRestart_eq]
  obtain ⟨mode, config, posts⟩ := supervised (restartCarFaults (restartBrakes
    (evaluateReferencing (restartPosition (restartTensionFaults (restartSpeed (restartDoors
      (raiseJams (restartOrigin q).gqu.lanes (restartOrigin q)))))))))
  rw [mode, config, posts]
  simp [restartOrigin, restartBegun, entered]

theorem lineRestart_line : (lineRestart q).lgp.line = q.lgp.line ∧ (lineRestart q).lgp.markers = q.lgp.markers := by
  have taken : ∀ s : State, (evaluateReferencing (restartPosition s)).lgp.tables = (formPresences s).lgp.tables :=
    fun s => (evaluateReferencing_tables _).trans (tables_still (restartPosition_still s))
  have kept : ∀ s : State, (evaluateReferencing (restartPosition s)).lgp.line = s.lgp.line ∧
      (evaluateReferencing (restartPosition s)).lgp.markers = s.lgp.markers := fun s =>
    ⟨(congrArg Lgp.line (taken s) :), (congrArg Lgp.markers (taken s) :)⟩
  rw [lineRestart_eq]
  simp only [restartSupervision_lgp, restartCarFaults_lgp, restartBrakes_lgp]
  obtain ⟨line, markers⟩ := kept (restartTensionFaults (restartSpeed (restartDoors
    (raiseJams (restartOrigin q).gqu.lanes (restartOrigin q)))))
  rw [line, markers]
  simp [restartOrigin, (restartBegun_blocks q).1]

theorem lineRestart_notices : ∃ l, (lineRestart q).ll.notices = [.haul, .mode] ++ l := by
  have begun : (restartOrigin q).ll = (restartBegun q).ll := (restartHaul_link _).2
  have origin := restartBegun_notices q
  rw [← begun] at origin
  obtain ⟨l, notices⟩ := origin.trans (lineRestart_frame q).marked
  exact ⟨l, notices.symm⟩

theorem lineRestart_trip : (lineRestart q).hc.trip = { q.hc.trip with
    state := .none,
    cause := if q.hc.trip.state = .active ∨ q.hc.trip.state = .suspended then some .restart
      else q.hc.trip.cause } := by
  have origin : (restartOrigin q).hc.trip = (restartBegun q).hc.trip.restarted := restartHaul_trip _
  rw [(lineRestart_frame q).trip, origin, (restartBegun_hc q).1, Trip.restarted_eq]

theorem lineRestart_forced : (lineRestart q).hc.forced = [] :=
  (lineRestart_frame q).forced.trans (restartHaul_forced _)

/-- When the haul is TRIPPED after a line restart (03 R63; 04 R83). -/
theorem lineRestart_tripped_iff : (lineRestart q).hc.haul = .tripped ↔
    (q.standstill = false ∨ q.hc.haul = .tripped) ∨ (lineRestart q).ft.presentClass .emergency = true := by
  obtain ⟨-, stu, -, -, -, -⟩ := restartBegun_blocks q
  obtain ⟨-, haul, -, -⟩ := restartBegun_hc q
  have still : (restartBegun q).standstill = q.standstill := by rw [State.standstill, stu, State.standstill]
  have empty : (restartOrigin q).ft.presentClass .emergency = false := by
    rw [restartOrigin_ft, presentClass_reset]
  have origin : (restartOrigin q).hc.haul = .tripped ↔ q.standstill = false ∨ q.hc.haul = .tripped := by
    rw [← still, ← haul]
    refine ⟨fun tripped => ?_, restartHaul_tripped⟩
    by_contra runs
    rw [not_or, Bool.not_eq_false] at runs
    have parked : (restartOrigin q).hc.haul = .parked := restartHaul_parked runs.1 runs.2
    rw [parked] at tripped
    cases tripped
  rw [(lineRestart_rejudged q).tripped_iff (restartOrigin_settled q) empty, origin]

theorem lineRestart_parked (still : q.standstill = true) (haul : q.hc.haul ≠ .tripped)
    (calm : (lineRestart q).ft.presentClass .emergency = false) : (lineRestart q).hc.haul = .parked := by
  refine (lineRestart_frame q).settled.stands.resolve_right fun tripped => ?_
  rcases (lineRestart_tripped_iff q).1 tripped with (moves | tripped) | present
  · simp [still] at moves
  · exact haul tripped
  · simp [calm] at present

theorem lineRestart_heading {k : Nat} (still : q.standstill = true) (haul : q.hc.haul ≠ .tripped)
    (stop : q.stop = some k) : (lineRestart q).hc.heading
      = if k = 0 then .up else if k + 1 = q.stations then .down else q.hc.heading := by
  obtain ⟨lgp, stu, -, -, -, -⟩ := restartBegun_blocks q
  obtain ⟨-, same, heading, -⟩ := restartBegun_hc q
  have quiet : (restartBegun q).standstill = true := by
    rw [State.standstill, stu]
    exact still
  have origin : (restartOrigin q).hc.heading = (restartHaul (restartBegun q)).hc.heading := rfl
  rw [(lineRestart_frame q).heading, origin, restartHaul_heading quiet (same ▸ haul) ((stop_congr lgp).trans stop),
    stations_congr (congrArg Lgp.line lgp), heading]

end

/-- Settles O45: the judgement of RESTART, and what `lineRestart` leaves of the blocks and of the fault table. -/
theorem restartEmptiesTheTrafficAndKeepsTheConfiguration :
    Obligations.RestartEmptiesTheTrafficAndKeepsTheConfiguration := by
  refine ⟨?request, fun s => rfl, fun q => ?_⟩
  case request =>
    rintro s q h rfl hp
    exact ⟨fun moves => refusedWith_of_own rfl rfl hp (if_neg moves),
      fun stands still => doneWith_of_own rfl rfl hp (if_pos ⟨stands, still⟩)⟩
  obtain ⟨mode, config, posts⟩ := lineRestart_mau q
  obtain ⟨line, markers⟩ := lineRestart_line q
  have gqu := lineRestart_gqu q
  have outer := lineRestart_outer q
  refine ⟨?queues, ?count, ?lanes, by rw [gqu], by rw [gqu], lineRestart_forced q, mode, config, posts,
    lineRestart_tt q, line, markers, outer_now outer, outer_holding outer, outer_replySlot outer,
    lineRestart_notices q, lineRestart_trip q, ?trips, fun still haul => ⟨lineRestart_parked q still haul,
      fun k => lineRestart_heading q still haul⟩, lineRestart_car, fun i => lineRestart_door, lineRestart_chan,
    fun n => lineRestart_lane, ?once, fun k => lineRestart_unread⟩
  case queues =>
    rw [gqu]
    intro x mem
    obtain ⟨y, -, rfl⟩ := List.mem_map.1 mem
    rfl
  case count =>
    rw [gqu, List.length_map]
  case lanes =>
    rw [gqu]
    intro l mem
    obtain ⟨y, -, rfl⟩ := List.mem_map.1 mem
    rfl
  case trips =>
    intro trips
    exact (lineRestart_tripped_iff q).2 (or_assoc.2 trips)
  case once =>
    intro k r code mem slot
    obtain ⟨unjudged, lane⟩ := readCodes_apart code
    exact lineRestart_slot_once mem unjudged lane slot

end Sys2Proof.Machine
end

section

namespace Sys2Proof.Machine

/-! ### The key table (10 R167, R172) -/

/-- The keys stand in the order of their ranks (10 R172). -/
theorem ranks_of_allKeys : allKeys.map FaultKey.rank = List.range 69 := by decide +kernel

theorem length_allKeys : allKeys.length = 69 := by
  have ranks := congrArg List.length ranks_of_allKeys
  rwa [List.length_map, List.length_range] at ranks

/-- Keys of different ranks are different, so no key stands twice (10 R167). -/
theorem nodup_allKeys : allKeys.Nodup :=
  List.Nodup.of_map FaultKey.rank (ranks_of_allKeys ▸ List.nodup_range)

/-- The number of keys of each class (10 R167). -/
theorem classes_of_allKeys :
    (allKeys.filter fun k => decide (k.code.cls = .emergency)).length = 13 ∧
    (allKeys.filter fun k => decide (k.code.cls = .service)).length = 14 ∧
    (allKeys.filter fun k => decide (k.code.cls = .block)).length = 25 ∧
    (allKeys.filter fun k => decide (k.code.cls = .report)).length = 17 := by
  decide +kernel

/-- The notice keys of 11.4 are 42, and none is listed twice. -/
theorem length_nodup_noticeKeys : noticeKeys.length = 42 ∧ noticeKeys.Nodup := by decide +kernel

/-- Settles O6: the tables as they are listed, the keys from their ranks and their classes. -/
theorem theFaultTableHasTheCodeTablesKeys : Obligations.TheFaultTableHasTheCodeTablesKeys := by
  obtain ⟨emergency, service, block, report⟩ := classes_of_allKeys
  obtain ⟨notices, once⟩ := length_nodup_noticeKeys
  exact ⟨length_allKeys, nodup_allKeys, emergency, service, block, report, ranks_of_allKeys, rfl, rfl, rfl, rfl, rfl,
    notices, once, rfl⟩

end Sys2Proof.Machine
end

section

namespace Sys2Proof.Machine

/-! ### The raise counts of the fault table (10 R168 to R174) -/

/-- A slot is ABSENT, or its record has a raise count from 1 to 255 (10 R168). -/
def SlotCounted (slot : Option FaultRec) : Prop := ∀ x, slot = some x → x.counted

/-- The fault table has 69 slots, each ABSENT or with a raise count from 1 to 255 (10 R167, R168). -/
def FaultTable.Sound (t : FaultTable) : Prop := t.slots.length = 69 ∧ ∀ slot ∈ t.slots, SlotCounted slot

/-- Whether a state meets O9 depends on its fault table alone. -/
theorem tableSound_iff (s : State) : s.tableSound ↔ s.ft.Sound := Iff.rfl

theorem slotCounted_none : SlotCounted none := fun _ present => nomatch present

theorem slotCounted_some {x : FaultRec} : SlotCounted (some x) ↔ x.counted := by simp [SlotCounted]

/-- A first raise counts 1; each further one adds 1 to a count that holds at 255 (10 R168, R169). -/
theorem raisedRecord_counted {kind : FaultKind} {clock : Nat} {old : Option FaultRec} (h : SlotCounted old) :
    (raisedRecord kind clock old).counted := by
  cases old with
  | none => exact ⟨Nat.le_refl 1, (by decide : 1 ≤ 255)⟩
  | some r =>
    obtain ⟨least, -⟩ : r.counted := slotCounted_some.1 h
    simp only [raisedRecord, FaultRec.counted]
    omega

/-- The end of a condition keeps the count of a record that stays (10 R170). -/
theorem endedSlot_counted {kind : FaultKind} {old : Option FaultRec} (h : SlotCounted old) :
    SlotCounted (endedSlot kind old) := by
  cases old with
  | none => exact h
  | some r =>
    simp only [endedSlot]
    cases r.state with
    | ended => exact h
    | active =>
      cases kind with
      | selfClearing => exact slotCounted_none
      | latched | event => exact slotCounted_some.2 (slotCounted_some.1 h :)

/-- A table stays sound where one of its slots is written with a counted record or none. -/
theorem FaultTable.Sound.write {t : FaultTable} {f : Option FaultRec → Option FaultRec} (h : t.Sound)
    (hf : ∀ slot, SlotCounted slot → SlotCounted (f slot)) (i : Nat) :
    FaultTable.Sound { slots := updateAt i f t.slots } := by
  obtain ⟨full, counted⟩ := h
  refine ⟨(length_updateAt f t.slots i).trans full, fun slot mem => ?_⟩
  obtain ⟨j, at_j⟩ := List.mem_iff_getElem?.1 mem
  obtain ⟨old, place, rfl | rfl⟩ := mem_updateAt at_j
  · exact counted _ (List.mem_of_getElem? place)
  · exact hf old (counted old (List.mem_of_getElem? place))

theorem FaultTable.Sound.raised {t : FaultTable} (h : t.Sound) (k : FaultKey) (clock : Nat) :
    (t.raised k clock).Sound :=
  h.write (fun _ old => slotCounted_some.2 (raisedRecord_counted old)) k.rank

theorem FaultTable.Sound.ended {t : FaultTable} (h : t.Sound) (k : FaultKey) : (t.ended k).Sound :=
  h.write (fun _ => endedSlot_counted) k.rank

/-- A removal leaves each slot as it stands or makes it ABSENT (10 R173, R174). -/
theorem FaultTable.Sound.removed {t : FaultTable} (h : t.Sound) (p : FaultKey → FaultRec → Bool) :
    (t.removed p).Sound := by
  obtain ⟨full, counted⟩ := h
  refine ⟨by simp [FaultTable.removed, full, length_allKeys], fun slot mem => ?_⟩
  rw [FaultTable.removed, ← List.map_uncurry_zip_eq_zipWith] at mem
  obtain ⟨⟨k, old⟩, place, rfl⟩ := List.mem_map.1 mem
  have before : SlotCounted old := counted old (List.of_mem_zip place).2
  cases old with
  | none => exact slotCounted_none
  | some x =>
    simp only [Function.uncurry]
    split
    · exact slotCounted_none
    · exact before

theorem sound_reset : FaultTable.reset.Sound :=
  ⟨List.length_replicate, fun _ mem => List.eq_of_mem_replicate mem ▸ slotCounted_none⟩

/-- Every action of the fault table keeps it sound, and no action of the brake ladder alone writes it. -/
theorem tableSound_acts {s t : State} (h : s.tableSound) (acts : Acts s t) : t.tableSound := by
  rw [tableSound_iff] at h ⊢
  induction acts with
  | start => exact h
  | aside _ same ih =>
    obtain ⟨ft, -⟩ := same
    rw [ft]
    exact ih
  | raises _ k ih =>
    rw [raise_ft]
    exact ih.raised k _
  | ends _ k ih => exact ih.ended k
  | removes _ p ih => exact ih.removed p
  | empties _ ih =>
    rw [emptyFaults, emptySlots_ft]
    exact sound_reset
  | applies _ b ih =>
    rw [applyBrake_ft]
    exact ih
  | releases _ b ih =>
    rw [releaseBrake_ft]
    exact ih
  | proves _ b ih =>
    rw [modBrake_ft]
    exact ih
  | adjusts _ b same ih =>
    rw [modBrake_ft]
    exact ih
  | resets _ ih => exact sound_reset

/-- Settles O9: a step acts on the fault table by the actions of `Acts` alone, and each of them keeps it sound. -/
theorem theFaultTableStaysSound : Obligations.TheFaultTableStaysSound :=
  fun _ _ h hx => tableSound_acts h (acts_step hx)

end Sys2Proof.Machine
end

section

namespace Sys2Proof.Machine

/-! ### Raises of a present slot (10 R169) -/

/-- What a raise makes of a record: the first-raised time of before, the clock, and a count that holds at 255. -/
theorem raisedRecord_some (kind : FaultKind) (clock : Nat) (r : FaultRec) :
    raisedRecord kind clock (some r) = {
      state := if kind = .event then .ended else .active
      first := r.first, last := clock, count := if r.count < 255 then r.count + 1 else 255 } := by
  have count : min 255 (r.count + 1) = if r.count < 255 then r.count + 1 else 255 := by
    split <;> omega
  cases kind <;> simp [raisedRecord, count]

/-- Settles O59: a raise writes its own slot alone, and what it does besides is `handOn`. -/
theorem aRaiseOfAPresentSlotKeepsItsFirstTime : Obligations.ARaiseOfAPresentSlotKeepsItsFirstTime := by
  intro s k r full mem present
  rw [raise_ft]
  refine ⟨?own, fun k' mem' other => slot_raised_ne s.ft s.tt.clock mem' other, rfl⟩
  case own => rw [slot_raised_same s.ft s.tt.clock mem full, present, raisedRecord_some]

/-! ### FAULTS_ACK (10 R173) -/

/-- The entries that a removal leaves are those that it does not select, in their order (10 R172, R173). -/
theorem entries_removed (p : FaultKey → FaultRec → Bool) (t : FaultTable) :
    (t.removed p).entries = t.entries.filter (fun e => !p e.key e.record) := by
  simp only [FaultTable.removed, FaultTable.entries]
  generalize allKeys = keys, t.slots = slots
  induction keys generalizing slots with
  | nil => rfl
  | cons k keys ih =>
    cases slots with
    | nil => rfl
    | cons slot slots =>
      have rest := ih slots
      cases slot with
      | none => simpa using rest
      | some r => cases selected : p k r <;> simpa [selected] using rest

/-- The present slots are listed by their keys, each key at most once and in rank order (10 R172). -/
theorem entries_keys_sublist (t : FaultTable) : (t.entries.map FaultEntry.key).Sublist allKeys := by
  simp only [FaultTable.entries]
  generalize allKeys = keys, t.slots = slots
  induction keys generalizing slots with
  | nil => exact .slnil
  | cons k keys ih =>
    cases slots with
    | nil => exact List.nil_sublist _
    | cons slot slots =>
      cases slot with
      | none => exact (ih slots).cons k
      | some r => exact (ih slots).cons_cons k

/-- A removal parts the entries into those that it selects and those that it leaves (10 R173). -/
theorem length_entries_removed (p : FaultKey → FaultRec → Bool) (t : FaultTable) :
    (t.entries.filter fun e => p e.key e.record).length + (t.removed p).entries.length = t.entries.length := by
  rw [entries_removed, ← List.length_eq_length_filter_add fun e : FaultEntry => p e.key e.record]

/-- The codes whose slots FAULTS_ACK can remove (10 R173). -/
def FaultCode.acknowledged (c : FaultCode) : Bool := decide (c.cls = .service) || decide (c.cls = .block)

theorem removedByAck_iff (k : FaultKey) (r : FaultRec) :
    removedByAck k r = true ↔ (k.code.cls = .service ∨ k.code.cls = .block) ∧ r.state = .ended := by
  simp [removedByAck]

/-- The 14 keys of class SERVICE and the 25 of class BLOCK (10 R167). -/
theorem acknowledged_keys : allKeys.countP (fun k => k.code.acknowledged) = 39 := by decide +kernel

/-- FAULTS_ACK removes no more slots than there are keys of class SERVICE or BLOCK (10 R167, R173). -/
theorem length_removedByAck_le (t : FaultTable) :
    (t.entries.filter fun e => removedByAck e.key e.record).length ≤ 39 := by
  have selected : ∀ e ∈ t.entries, removedByAck e.key e.record = true → e.key.code.acknowledged = true := by
    intro e _ removed
    exact (Bool.and_eq_true_iff.1 removed).1
  calc (t.entries.filter fun e => removedByAck e.key e.record).length
      = t.entries.countP (fun e => removedByAck e.key e.record) := List.countP_eq_length_filter.symm
    _ ≤ t.entries.countP (fun e => e.key.code.acknowledged) := List.countP_mono_left selected
    _ = (t.entries.map FaultEntry.key).countP (fun k => k.code.acknowledged) := by
        simp only [List.countP_map, Function.comp_def]
    _ ≤ allKeys.countP (fun k => k.code.acknowledged) := (entries_keys_sublist t).countP_le
    _ = 39 := acknowledged_keys

/-- Settles O44: the owner's removal slot by slot, and the number of entries that it takes away. -/
theorem faultsAckRemovesEndedServiceAndBlockSlots : Obligations.FaultsAckRemovesEndedServiceAndBlockSlots := by
  rintro s q h rfl passes -
  refine ⟨_, _, doneWith_of_own rfl rfl passes rfl, rfl, fun k mem => ?slots,
    length_entries_removed removedByAck _, length_removedByAck_le _⟩
  case slots =>
    rw [State.modFt, slot_removed removedByAck _ mem]
    cases (s.asTaken h .faultsAck).ft.slot k with
    | none => rfl
    | some r => simp only [Option.bind_some, removedByAck_iff]

end Sys2Proof.Machine
end

section

namespace Sys2Proof.Machine

/-! ### No operation lists a key twice (11 R183)

A mark leaves the repeats of a list as they are, so one equivalence per operation says it, in the order of the model's
files; a restart begins the list anew. -/

/-- The notice list holds no key twice (11 R183). -/
def State.listedOnce (s : State) : Prop := s.ll.notices.Nodup

theorem forEach_listedOnce (f : Nat → State → State) (hf : ∀ i t, (f i t).listedOnce ↔ t.listedOnce) :
    ∀ l s, (forEach f l s).listedOnce ↔ s.listedOnce
  | [], _ => .rfl
  | i :: is, s => by rw [forEach, forEach_listedOnce f hf is, hf]

section

variable (s : State)

@[simp] theorem modLgp_listedOnce (f : Lgp → Lgp) : (s.modLgp f).listedOnce ↔ s.listedOnce := .rfl
@[simp] theorem modStu_listedOnce (f : Stu → Stu) : (s.modStu f).listedOnce ↔ s.listedOnce := .rfl
@[simp] theorem modHc_listedOnce (f : Hc → Hc) : (s.modHc f).listedOnce ↔ s.listedOnce := .rfl
@[simp] theorem modBl_listedOnce (f : Bl → Bl) : (s.modBl f).listedOnce ↔ s.listedOnce := .rfl
@[simp] theorem modBpu_listedOnce (f : Bpu → Bpu) : (s.modBpu f).listedOnce ↔ s.listedOnce := .rfl
@[simp] theorem modDc_listedOnce (f : Dc → Dc) : (s.modDc f).listedOnce ↔ s.listedOnce := .rfl
@[simp] theorem modTt_listedOnce (f : Tt → Tt) : (s.modTt f).listedOnce ↔ s.listedOnce := .rfl
@[simp] theorem modGqu_listedOnce (f : Gqu → Gqu) : (s.modGqu f).listedOnce ↔ s.listedOnce := .rfl
@[simp] theorem modMau_listedOnce (f : Mau → Mau) : (s.modMau f).listedOnce ↔ s.listedOnce := .rfl
@[simp] theorem modFt_listedOnce (f : FaultTable → FaultTable) : (s.modFt f).listedOnce ↔ s.listedOnce := .rfl
@[simp] theorem endCondition_listedOnce (k : FaultKey) : (endCondition k s).listedOnce ↔ s.listedOnce := .rfl
/-- A mark adds a key that is not in the list, or leaves the list (11 R183). -/
theorem nodup_markIn (k : NoticeKey) (l : List NoticeKey) : (markIn k l).Nodup ↔ l.Nodup := by
  simp only [markIn]
  split
  · rfl
  · next new => simpa [List.nodup_append] using fun _ (a : NoticeKey) mem same => new ((same : a = k) ▸ mem)

@[simp] theorem mark_listedOnce (k : NoticeKey) : (mark k s).listedOnce ↔ s.listedOnce := nodup_markIn k _

@[simp] theorem markAll_listedOnce : ∀ l s, (markAll l s).listedOnce ↔ s.listedOnce
  | [], _ => .rfl
  | k :: ks, s => by rw [markAll, markAll_listedOnce ks, mark_listedOnce]
@[simp] theorem emptySlots_listedOnce (g : FaultTable → FaultTable) :
    (emptySlots g s).listedOnce ↔ s.listedOnce := by
  simp only [emptySlots]; split <;> simp
@[simp] theorem wake_listedOnce (c : WakeCause) : (wake c s).listedOnce ↔ s.listedOnce := by
  simp only [wake]; split <;> simp
@[simp] theorem dissolveBatch_listedOnce (c : Car) : (dissolveBatch c s).listedOnce ↔ s.listedOnce := by
  simp only [dissolveBatch]; split <;> simp
@[simp] theorem dissolveBoth_listedOnce : (dissolveBoth s).listedOnce ↔ s.listedOnce := by simp [dissolveBoth]
@[simp] theorem modBrake_listedOnce (b : Brake) (f : BrakeRec → BrakeRec) :
    (modBrake b f s).listedOnce ↔ s.listedOnce := .rfl
@[simp] theorem applyBrake_listedOnce (b : Brake) : (applyBrake b s).listedOnce ↔ s.listedOnce := .rfl
@[simp] theorem releaseBrake_listedOnce (b : Brake) : (releaseBrake b s).listedOnce ↔ s.listedOnce := by
  simp only [releaseBrake]; split <;> simp
@[simp] theorem command_listedOnce (d : DriveCommand) : (command d s).listedOnce ↔ s.listedOnce := .rfl
@[simp] theorem setHaul_listedOnce (x : HaulState) : (setHaul x s).listedOnce ↔ s.listedOnce := .rfl
@[simp] theorem abandonTrip_listedOnce (cause : EndCause) :
    (abandonTrip cause s).listedOnce ↔ s.listedOnce := by
  simp only [abandonTrip]; split <;> simp
@[simp] theorem parkedCycle_listedOnce (held : Bool) : (parkedCycle held s).listedOnce ↔ s.listedOnce := by
  simp only [parkedCycle]; split <;> simp
@[simp] theorem abandonDeparture_listedOnce (cause : EndCause) :
    (abandonDeparture cause s).listedOnce ↔ s.listedOnce := by
  simp only [abandonDeparture]; (repeat' split) <;> simp
@[simp] theorem emergencyDemand_listedOnce (code : Option FaultCode) :
    (emergencyDemand code s).listedOnce ↔ s.listedOnce := by
  simp only [emergencyDemand]; (repeat' split) <;> simp
@[simp] theorem enterStopping_listedOnce (stage : Nat) (cause : StopCause) :
    (enterStopping stage cause s).listedOnce ↔ s.listedOnce := .rfl
@[simp] theorem stopCauseFault_listedOnce (c : FaultCode) :
    (stopCauseFault c s).listedOnce ↔ s.listedOnce := .rfl
@[simp] theorem serviceDemand_listedOnce (c : FaultCode) : (serviceDemand c s).listedOnce ↔ s.listedOnce := by
  simp only [serviceDemand]; split <;> simp
@[simp] theorem handOn_listedOnce (c : FaultCode) : (handOn c s).listedOnce ↔ s.listedOnce := by
  simp only [handOn]; (repeat' split) <;> simp
@[simp] theorem raise_listedOnce (k : FaultKey) : (raise k s).listedOnce ↔ s.listedOnce := by simp [raise]
@[simp] theorem moveStage2_listedOnce : (moveStage2 s).listedOnce ↔ s.listedOnce := by simp [moveStage2]
@[simp] theorem moveStage3_listedOnce : (moveStage3 s).listedOnce ↔ s.listedOnce := by simp [moveStage3]
@[simp] theorem judgeEnvelope_listedOnce : (judgeEnvelope s).listedOnce ↔ s.listedOnce := by
  simp only [judgeEnvelope]; (repeat' split) <;> simp
@[simp] theorem noteEncoders_listedOnce : (noteEncoders s).listedOnce ↔ s.listedOnce := by
  simp only [noteEncoders]; split <;> simp
@[simp] theorem noteEnvelope_listedOnce : (noteEnvelope s).listedOnce ↔ s.listedOnce := by
  simp only [noteEnvelope]; split <;> simp
@[simp] theorem judgeMoment_listedOnce : (judgeMoment s).listedOnce ↔ s.listedOnce := by simp [judgeMoment]
@[simp] theorem passTime_listedOnce (dt : Nat) : (passTime dt s).listedOnce ↔ s.listedOnce :=
  (followMoments_keeps State.listedOnce (fun _ _ => rfl) (fun t => propext (judgeMoment_listedOnce t)) _ _ s).to_iff
@[simp] theorem passUntil_listedOnce (t : Nat) : (passUntil t s).listedOnce ↔ s.listedOnce :=
  passTime_listedOnce s _
@[simp] theorem modLane_listedOnce (id : Nat) (f : Lane → Lane) :
    (modLane id f s).listedOnce ↔ s.listedOnce := .rfl
@[simp] theorem modQueue_listedOnce (q : Nat) (f : Queue → Queue) :
    (modQueue q f s).listedOnce ↔ s.listedOnce := .rfl
@[simp] theorem removeLaneFaults_listedOnce : (removeLaneFaults s).listedOnce ↔ s.listedOnce := by
  simp [removeLaneFaults]
@[simp] theorem raiseJams_listedOnce : ∀ l s, (raiseJams l s).listedOnce ↔ s.listedOnce
  | [], _ => .rfl
  | k :: ks, s => by rw [raiseJams, raiseJams_listedOnce ks]; split <;> simp
@[simp] theorem jamLane_listedOnce (id : Nat) : (jamLane id s).listedOnce ↔ s.listedOnce := by
  simp only [jamLane]; split <;> simp
@[simp] theorem unjamLane_listedOnce (id : Nat) : (unjamLane id s).listedOnce ↔ s.listedOnce := .rfl
@[simp] theorem presentAt_listedOnce (l : Lane) (d : Dir) (q serial : Nat) :
    (presentAt l d q serial s).listedOnce ↔ s.listedOnce := by
  simp only [presentAt]; (repeat' split) <;> simp
@[simp] theorem present_listedOnce (id serial : Nat) : (present id serial s).listedOnce ↔ s.listedOnce := by
  simp only [present]; (repeat' split) <;> simp
@[simp] theorem modLaneQueue_listedOnce (l : Lane) (f : Queue → Queue) :
    (modLaneQueue l f s).listedOnce ↔ s.listedOnce := by
  simp only [modLaneQueue]; split <;> simp
@[simp] theorem modLoad_listedOnce (c : Car) (f : Option Nat → Option Nat) :
    (modLoad c f s).listedOnce ↔ s.listedOnce := .rfl
@[simp] theorem passLane_listedOnce (id : Nat) : (passLane id s).listedOnce ↔ s.listedOnce := by
  simp only [passLane]; (repeat' split) <;> simp
@[simp] theorem timeoutLane_listedOnce (id : Nat) : (timeoutLane id s).listedOnce ↔ s.listedOnce := by
  simp only [timeoutLane]; (repeat' split) <;> simp
@[simp] theorem boardingClosed_listedOnce (c : Car) (k : Nat) :
    (boardingClosed c k s).listedOnce ↔ s.listedOnce := by
  simp only [boardingClosed]; split <;> simp
@[simp] theorem commitBatch_listedOnce (c : Car) : (commitBatch c s).listedOnce ↔ s.listedOnce := by
  simp only [commitBatch]; split <;> simp
@[simp] theorem judgeLoads_listedOnce : (judgeLoads s).listedOnce ↔ s.listedOnce := .rfl
@[simp] theorem settleExpires_listedOnce : (settleExpires s).listedOnce ↔ s.listedOnce := by
  simp only [settleExpires]; split <;> simp
@[simp] theorem restartGates_listedOnce : (restartGates s).listedOnce ↔ s.listedOnce := by simp [restartGates]
@[simp] theorem setWatch_listedOnce (c : Car) (w : Option Watch) :
    (setWatch c w s).listedOnce ↔ s.listedOnce := .rfl
@[simp] theorem freshWatches_listedOnce : (freshWatches s).listedOnce ↔ s.listedOnce := .rfl
@[simp] theorem leaveWindow_listedOnce (c : Car) : (leaveWindow c s).listedOnce ↔ s.listedOnce := by
  simp only [leaveWindow]; (repeat' split) <;> simp
@[simp] theorem enterWindow_listedOnce (c : Car) (xOld : Int) :
    (enterWindow c xOld s).listedOnce ↔ s.listedOnce := by
  simp only [enterWindow]; (repeat' split) <;> simp
@[simp] theorem followWatch_listedOnce (c : Car) (xOld : Int) :
    (followWatch c xOld s).listedOnce ↔ s.listedOnce := by simp [followWatch]
@[simp] theorem setOvertravel_listedOnce (c : Car) (o : Option Side) :
    (setOvertravel c o s).listedOnce ↔ s.listedOnce := .rfl
@[simp] theorem judgeOvertravel_listedOnce (c : Car) : (judgeOvertravel c s).listedOnce ↔ s.listedOnce := by
  simp only [judgeOvertravel]; (repeat' split) <;> simp
@[simp] theorem judgeOvertravels_listedOnce : (judgeOvertravels s).listedOnce ↔ s.listedOnce := by
  simp [judgeOvertravels]
@[simp] theorem stopOvertravel_listedOnce : (stopOvertravel s).listedOnce ↔ s.listedOnce := .rfl
@[simp] theorem raiseAll_listedOnce (cs : List Car) : ∀ s,
    (cs.foldl (fun t c => raise ⟨.positionDisagree, c.index⟩ t) s).listedOnce ↔ s.listedOnce := by
  induction cs with
  | nil => intro s; rfl
  | cons c cs ih => intro s; simp only [List.foldl_cons]; rw [ih, raise_listedOnce]
@[simp] theorem doubt_listedOnce (cars : List Car) : (doubt cars s).listedOnce ↔ s.listedOnce := by
  simp [doubt]
@[simp] theorem referenceAt_listedOnce (k : Nat) : (referenceAt k s).listedOnce ↔ s.listedOnce := by
  simp only [referenceAt]; split <;> simp
@[simp] theorem evaluateReferencing_listedOnce : (evaluateReferencing s).listedOnce ↔ s.listedOnce := by
  simp only [evaluateReferencing]; (repeat' split) <;> simp
@[simp] theorem formPresences_listedOnce : (formPresences s).listedOnce ↔ s.listedOnce := .rfl
@[simp] theorem capture_listedOnce (j : Nat) (m : MarkerRec) (c : Car) :
    (capture j m c s).listedOnce ↔ s.listedOnce := by
  simp only [capture]; split <;> simp
@[simp] theorem pulse_listedOnce (j : Nat) : (pulse j s).listedOnce ↔ s.listedOnce := by
  simp only [pulse]; (repeat' split) <;> simp
@[simp] theorem countEdge_listedOnce (d : Dir) : (countEdge d s).listedOnce ↔ s.listedOnce := by
  simp only [countEdge]; split <;> simp
@[simp] theorem followCars_listedOnce (xA xB : Int) : (followCars xA xB s).listedOnce ↔ s.listedOnce := by
  simp [followCars]
@[simp] theorem restartPosition_listedOnce : (restartPosition s).listedOnce ↔ s.listedOnce := by
  simp [restartPosition]
@[simp] theorem modSpeed_listedOnce (e : Encoder) (f : SpeedChannel → SpeedChannel) :
    (modSpeed e f s).listedOnce ↔ s.listedOnce := .rfl
@[simp] theorem speedEdge_listedOnce (e : Encoder) (d : Dir) :
    (speedEdge e d s).listedOnce ↔ s.listedOnce := .rfl
@[simp] theorem judgeEncoders_listedOnce : (judgeEncoders s).listedOnce ↔ s.listedOnce := by
  simp only [judgeEncoders]; split <;> simp
@[simp] theorem disagreementExpires_listedOnce : (disagreementExpires s).listedOnce ↔ s.listedOnce := by
  simp only [disagreementExpires]; split <;> simp
@[simp] theorem restartSpeed_listedOnce : (restartSpeed s).listedOnce ↔ s.listedOnce := by simp [restartSpeed]
@[simp] theorem emptyHistories_listedOnce : (emptyHistories s).listedOnce ↔ s.listedOnce := .rfl
@[simp] theorem modTension_listedOnce (c : Chan) (f : TensionChannel → TensionChannel) :
    (modTension c f s).listedOnce ↔ s.listedOnce := .rfl
@[simp] theorem restartTension_listedOnce : (restartTension s).listedOnce ↔ s.listedOnce := .rfl
@[simp] theorem clearStandby_listedOnce : (clearStandby s).listedOnce ↔ s.listedOnce := .rfl
@[simp] theorem judgeLimits_listedOnce (c : Chan) (avg : Int) :
    (judgeLimits c avg s).listedOnce ↔ s.listedOnce := by
  simp only [judgeLimits]; (repeat' split) <;> simp
@[simp] theorem judgeStandby_listedOnce (c : Chan) (avg : Int) :
    (judgeStandby c avg s).listedOnce ↔ s.listedOnce := by
  simp only [judgeStandby]; (repeat' split) <;> simp
@[simp] theorem convert_listedOnce (c : Chan) (raw : Nat) : (convert c raw s).listedOnce ↔ s.listedOnce := by
  simp only [convert]; (repeat' split) <;> simp
@[simp] theorem conversionMissing_listedOnce (c : Chan) :
    (conversionMissing c s).listedOnce ↔ s.listedOnce := by simp [conversionMissing]
@[simp] theorem restartTensionFaults_listedOnce : (restartTensionFaults s).listedOnce ↔ s.listedOnce := by
  simp only [restartTensionFaults]; (repeat' split) <;> simp
@[simp] theorem modDoor_listedOnce (i : Nat) (f : DoorSet → DoorSet) :
    (modDoor i f s).listedOnce ↔ s.listedOnce := .rfl
@[simp] theorem modPair_listedOnce (c : Car) (f : PairRec → PairRec) :
    (modPair c f s).listedOnce ↔ s.listedOnce := .rfl
@[simp] theorem modReleased_listedOnce (c : Car) (f : Released → Released) :
    (modReleased c f s).listedOnce ↔ s.listedOnce := by
  simp only [modReleased]; (repeat' split) <;> simp
@[simp] theorem sendDoor_listedOnce (c : Car) : (sendDoor c s).listedOnce ↔ s.listedOnce := .rfl
@[simp] theorem commandDoor_listedOnce (i : Nat) (x : DoorCommand) :
    (commandDoor i x s).listedOnce ↔ s.listedOnce := by
  simp only [commandDoor]; (repeat' split) <;> simp
@[simp] theorem boardingReopened_listedOnce (i : Nat) : (boardingReopened i s).listedOnce ↔ s.listedOnce := by
  simp only [boardingReopened]; (repeat' split) <;> simp
@[simp] theorem terminalOpening_listedOnce (i : Nat) : (terminalOpening i s).listedOnce ↔ s.listedOnce := by
  simp only [terminalOpening]; (repeat' split) <;> simp
@[simp] theorem enterOpen_listedOnce (i : Nat) (proven : Bool) :
    (enterOpen i proven s).listedOnce ↔ s.listedOnce := by simp [enterOpen]
@[simp] theorem enterOpening_listedOnce (i : Nat) : (enterOpening i s).listedOnce ↔ s.listedOnce := by
  simp only [enterOpening]; (repeat' split) <;> simp
@[simp] theorem openSets_listedOnce (l : List Nat) : (openSets l s).listedOnce ↔ s.listedOnce := by
  simp [openSets, forEach_listedOnce]
@[simp] theorem releasePair_listedOnce (c : Car) (k : Nat) :
    (releasePair c k s).listedOnce ↔ s.listedOnce := by simp [releasePair]
@[simp] theorem askRelease_listedOnce (c : Car) (k : Nat) : (askRelease c k s).listedOnce ↔ s.listedOnce := by
  simp only [askRelease]; split <;> simp
@[simp] theorem askReleases_listedOnce : (askReleases s).listedOnce ↔ s.listedOnce := by
  simp only [askReleases]; split <;> simp
@[simp] theorem judgePending_listedOnce (c : Car) : (judgePending c s).listedOnce ↔ s.listedOnce := by
  simp only [judgePending]; (repeat' split) <;> simp
@[simp] theorem boardingShut_listedOnce (i : Nat) : (boardingShut i s).listedOnce ↔ s.listedOnce := by
  simp only [boardingShut]; (repeat' split) <;> simp
@[simp] theorem setHold_listedOnce (c : Car) (k : Nat) (v : Bool) :
    (setHold c k v s).listedOnce ↔ s.listedOnce := .rfl
@[simp] theorem emptyPair_listedOnce (c : Car) : (emptyPair c s).listedOnce ↔ s.listedOnce := by
  simp only [emptyPair]; (repeat' split) <;> simp
@[simp] theorem emptyPairs_listedOnce : (emptyPairs s).listedOnce ↔ s.listedOnce := by simp [emptyPairs]
@[simp] theorem enterLocked_listedOnce (i : Nat) : (enterLocked i s).listedOnce ↔ s.listedOnce := by
  simp only [enterLocked]; split <;> simp
@[simp] theorem raiseObstructed_listedOnce (i : Nat) : (raiseObstructed i s).listedOnce ↔ s.listedOnce := by
  simp only [raiseObstructed]; (repeat' split) <;> simp
@[simp] theorem countObstruction_listedOnce (i : Nat) : (countObstruction i s).listedOnce ↔ s.listedOnce :=
  .rfl
@[simp] theorem obstructAlone_listedOnce (i : Nat) : (obstructAlone i s).listedOnce ↔ s.listedOnce := by
  simp [obstructAlone]
@[simp] theorem obstruct_listedOnce (c : Car) (is : List Nat) :
    (obstruct c is s).listedOnce ↔ s.listedOnce := by
  simp only [obstruct]; (repeat' split) <;> simp [*, forEach_listedOnce]
@[simp] theorem startClosing_listedOnce (i : Nat) : (startClosing i s).listedOnce ↔ s.listedOnce := by
  simp [startClosing]
@[simp] theorem sendClosing_listedOnce (c : Car) (is : List Nat) :
    (sendClosing c is s).listedOnce ↔ s.listedOnce := by
  simp only [sendClosing]; (repeat' split) <;> simp [*, forEach_listedOnce]
@[simp] theorem setDwell_listedOnce (d : Dwell) : (setDwell d s).listedOnce ↔ s.listedOnce := by
  simp only [setDwell]; split <;> simp
@[simp] theorem judgeDwell_listedOnce : (judgeDwell s).listedOnce ↔ s.listedOnce := by
  simp only [judgeDwell]; (repeat' split) <;> simp
@[simp] theorem closeWhileDue_listedOnce (c : Car) : ∀ n s, (closeWhileDue c n s).listedOnce ↔ s.listedOnce
  | 0, _ => .rfl
  | n + 1, s => by
    simp only [closeWhileDue]; (repeat' split) <;> simp [closeWhileDue_listedOnce c n]
@[simp] theorem closeIfDue_listedOnce (c : Car) : (closeIfDue c s).listedOnce ↔ s.listedOnce := by
  simp [closeIfDue]
@[simp] theorem closeOnDemand_listedOnce (c : Car) : (closeOnDemand c s).listedOnce ↔ s.listedOnce := by
  simp only [closeOnDemand]; (repeat' split) <;> simp
@[simp] theorem closeBoth_listedOnce : (closeBoth s).listedOnce ↔ s.listedOnce := by simp [closeBoth]
@[simp] theorem closeAtDwell_listedOnce (c : Car) : (closeAtDwell c s).listedOnce ↔ s.listedOnce := by
  simp only [closeAtDwell]; (repeat' split) <;> simp
@[simp] theorem modDoorIn_listedOnce (i : Nat) (f : DoorInputs → DoorInputs) :
    (modDoorIn i f s).listedOnce ↔ s.listedOnce := .rfl
@[simp] theorem enterUnproven_listedOnce (i : Nat) : (enterUnproven i s).listedOnce ↔ s.listedOnce := by
  simp [enterUnproven]
@[simp] theorem closedChanged_listedOnce (i : Nat) (v : Bool) :
    (closedChanged i v s).listedOnce ↔ s.listedOnce := by
  simp only [closedChanged]; split <;> simp
@[simp] theorem openedChanged_listedOnce (i : Nat) (v : Bool) :
    (openedChanged i v s).listedOnce ↔ s.listedOnce := by
  simp only [openedChanged]; split <;> simp
@[simp] theorem obstructionChanged_listedOnce (i : Nat) (v : Bool) :
    (obstructionChanged i v s).listedOnce ↔ s.listedOnce := by
  simp only [obstructionChanged]; split <;> simp
@[simp] theorem doorInput_listedOnce (i : Nat) (x : DoorInput) (v : Bool) :
    (doorInput i x v s).listedOnce ↔ s.listedOnce := by
  simp only [doorInput]; (repeat' split) <;> simp
@[simp] theorem doorReport_listedOnce (c : Car) (closed opened obstructed : Bool) :
    (doorReport c closed opened obstructed s).listedOnce ↔ s.listedOnce := by simp [doorReport]
@[simp] theorem openProofExpires_listedOnce (i : Nat) : (openProofExpires i s).listedOnce ↔ s.listedOnce := by
  simp [openProofExpires]
@[simp] theorem closeProofExpires_listedOnce (i : Nat) :
    (closeProofExpires i s).listedOnce ↔ s.listedOnce := by
  simp only [closeProofExpires]; split <;> simp
@[simp] theorem dwellExpires_listedOnce : (dwellExpires s).listedOnce ↔ s.listedOnce := by
  simp only [dwellExpires]; (repeat' split) <;> simp
@[simp] theorem raiseUnproven_listedOnce (i : Nat) : (raiseUnproven i s).listedOnce ↔ s.listedOnce := by
  simp only [raiseUnproven]; split <;> simp
@[simp] theorem leaveAutomaticDoors_listedOnce : (leaveAutomaticDoors s).listedOnce ↔ s.listedOnce := .rfl
@[simp] theorem writeAmendment_listedOnce (n : Nat) (crossing : Bool) (a : Amendment) :
    (writeAmendment n crossing a s).listedOnce ↔ s.listedOnce := .rfl
@[simp] theorem applyPending_listedOnce (n : Nat) (crossing : Bool) :
    (applyPending n crossing s).listedOnce ↔ s.listedOnce := by
  simp only [applyPending]; split <;> simp
@[simp] theorem applyIdle_listedOnce (before : State) (n : Nat) :
    (applyIdle before n s).listedOnce ↔ s.listedOnce := by
  simp only [applyIdle]; split <;> simp
@[simp] theorem applyIdleAll_listedOnce (before : State) :
    (applyIdleAll before s).listedOnce ↔ s.listedOnce := by simp [applyIdleAll, forEach_listedOnce]
@[simp] theorem judgeCrossing_listedOnce (xOld : Int) : (judgeCrossing xOld s).listedOnce ↔ s.listedOnce := by
  simp only [judgeCrossing]; split <;> simp
@[simp] theorem enterWarning_listedOnce : (enterWarning s).listedOnce ↔ s.listedOnce := .rfl
@[simp] theorem openTrip_listedOnce (target : Option Nat) (d : Dir) :
    (openTrip target d s).listedOnce ↔ s.listedOnce := by
  simp only [openTrip]; split <;> simp
@[simp] theorem attempt_listedOnce : (attempt s).listedOnce ↔ s.listedOnce := by
  simp only [attempt]; (repeat' split) <;> simp
@[simp] theorem warningExpires_listedOnce : (warningExpires s).listedOnce ↔ s.listedOnce := by
  simp [warningExpires]
@[simp] theorem enterRunning_listedOnce : (enterRunning s).listedOnce ↔ s.listedOnce := .rfl
@[simp] theorem judgeApproach_listedOnce : (judgeApproach s).listedOnce ↔ s.listedOnce := by
  simp only [judgeApproach]; split <;> simp
@[simp] theorem commitTrip_listedOnce (t : TripRec) : (commitTrip t s).listedOnce ↔ s.listedOnce := by
  simp [commitTrip]
@[simp] theorem judgeCommit_listedOnce : (judgeCommit s).listedOnce ↔ s.listedOnce := by
  simp only [judgeCommit]; (repeat' split) <;> simp
@[simp] theorem judgePairSeen_listedOnce (before : Option Nat) :
    (judgePairSeen before s).listedOnce ↔ s.listedOnce := by
  simp only [judgePairSeen]; (repeat' split) <;> simp
@[simp] theorem park_listedOnce : (park s).listedOnce ↔ s.listedOnce := .rfl
@[simp] theorem headFrom_listedOnce (k : Nat) : (headFrom k s).listedOnce ↔ s.listedOnce := by
  simp only [headFrom]; (repeat' split) <;> simp
@[simp] theorem followHeading_listedOnce : (followHeading s).listedOnce ↔ s.listedOnce := by
  simp only [followHeading]; split <;> simp
@[simp] theorem arrive_listedOnce (k : Nat) : (arrive k s).listedOnce ↔ s.listedOnce := by simp [arrive]
@[simp] theorem overrun_listedOnce : (overrun s).listedOnce ↔ s.listedOnce := by simp [overrun]
@[simp] theorem missStop_listedOnce (t : TripRec) (k : Nat) : (missStop t k s).listedOnce ↔ s.listedOnce := by
  simp only [missStop]; split <;> simp
@[simp] theorem judgeArrival_listedOnce : (judgeArrival s).listedOnce ↔ s.listedOnce := by
  simp only [judgeArrival]; (repeat' split) <;> simp
@[simp] theorem endStop_listedOnce : (endStop s).listedOnce ↔ s.listedOnce := by
  simp only [endStop]; (repeat' split) <;> simp
@[simp] theorem haulAtStandstill_listedOnce : (haulAtStandstill s).listedOnce ↔ s.listedOnce := by
  simp only [haulAtStandstill]; split <;> simp
@[simp] theorem commandDrive_listedOnce : (commandDrive s).listedOnce ↔ s.listedOnce := by
  simp only [commandDrive]; (repeat' split) <;> simp
@[simp] theorem followTopSpeed_listedOnce : (followTopSpeed s).listedOnce ↔ s.listedOnce := by
  simp only [followTopSpeed]; split <;> simp
@[simp] theorem beginCycle_listedOnce : (beginCycle s).listedOnce ↔ s.listedOnce := by
  simp only [beginCycle]; (repeat' split) <;> simp
@[simp] theorem enterAutomatic_listedOnce : (enterAutomatic s).listedOnce ↔ s.listedOnce := by
  simp only [enterAutomatic]; split <;> simp
@[simp] theorem followDoors_listedOnce : (followDoors s).listedOnce ↔ s.listedOnce := by
  simp only [followDoors]; (repeat' split) <;> simp
@[simp] theorem leaveAutomaticCycle_listedOnce : (leaveAutomaticCycle s).listedOnce ↔ s.listedOnce := .rfl
@[simp] theorem modCarLine_listedOnce (c : Car) (f : CarLine → CarLine) :
    (modCarLine c f s).listedOnce ↔ s.listedOnce := .rfl
@[simp] theorem carMessage_listedOnce (c : Car) : (carMessage c s).listedOnce ↔ s.listedOnce := by
  simp only [carMessage]; (repeat' split) <;> simp
@[simp] theorem trackBrakeReport_listedOnce (c : Car) (applied : Bool) :
    (trackBrakeReport c applied s).listedOnce ↔ s.listedOnce := by
  simp only [trackBrakeReport]; split <;> simp
@[simp] theorem buttonReport_listedOnce (c : Car) (pressed : Bool) :
    (buttonReport c pressed s).listedOnce ↔ s.listedOnce := by
  simp only [buttonReport]; (repeat' split) <;> simp
@[simp] theorem stopRequest_listedOnce (c : Car) (station : Nat) :
    (stopRequest c station s).listedOnce ↔ s.listedOnce := by
  simp only [stopRequest]; (repeat' split) <;> simp
@[simp] theorem carSilent_listedOnce (c : Car) : (carSilent c s).listedOnce ↔ s.listedOnce := by
  simp [carSilent]
@[simp] theorem discardTrips_listedOnce : (discardTrips s).listedOnce ↔ s.listedOnce := .rfl
@[simp] theorem restartHaul_listedOnce : (restartHaul s).listedOnce ↔ s.listedOnce := by
  simp only [restartHaul]; (repeat' split) <;> simp
@[simp] theorem restartCarFaults_listedOnce : (restartCarFaults s).listedOnce ↔ s.listedOnce := by
  simp only [restartCarFaults]; (repeat' split) <;> simp
@[simp] theorem beginPulse_listedOnce (t : Test) : (beginPulse t s).listedOnce ↔ s.listedOnce := .rfl
@[simp] theorem endPulse_listedOnce (t : Test) (pass : Bool) :
    (endPulse t pass s).listedOnce ↔ s.listedOnce := by
  simp only [endPulse]; split <;> simp
@[simp] theorem judgeSlip_listedOnce : (judgeSlip s).listedOnce ↔ s.listedOnce := by
  simp only [judgeSlip]; (repeat' split) <;> simp
@[simp] theorem pulseExpires_listedOnce : (pulseExpires s).listedOnce ↔ s.listedOnce := by
  simp only [pulseExpires]; (repeat' split) <;> simp
@[simp] theorem abortTest_listedOnce : (abortTest s).listedOnce ↔ s.listedOnce := by
  simp only [abortTest]; (repeat' split) <;> simp
@[simp] theorem restartTest_listedOnce : (restartTest s).listedOnce ↔ s.listedOnce := by
  simp only [restartTest]; split <;> simp
@[simp] theorem startTest_listedOnce (b : Brake) (d : Dir) (torque duration : Nat) :
    (startTest b d torque duration s).listedOnce ↔ s.listedOnce := by
  simp only [startTest]; split <;> simp
@[simp] theorem finishTest_listedOnce : (finishTest s).listedOnce ↔ s.listedOnce := by simp [finishTest]
@[simp] theorem feedback_listedOnce (b : Brake) (x : FeedbackInput) (v : Bool) :
    (feedback b x v s).listedOnce ↔ s.listedOnce := by
  simp only [feedback]; (repeat' split) <;> simp
@[simp] theorem releaseProofExpires_listedOnce (b : Brake) :
    (releaseProofExpires b s).listedOnce ↔ s.listedOnce := by simp [releaseProofExpires]
@[simp] theorem applyProofExpires_listedOnce (b : Brake) :
    (applyProofExpires b s).listedOnce ↔ s.listedOnce := by simp [applyProofExpires]
@[simp] theorem proveBrake_listedOnce (b : Brake) : (proveBrake b s).listedOnce ↔ s.listedOnce := by
  simp only [proveBrake]; split <;> simp
@[simp] theorem tellProven_listedOnce : (tellProven s).listedOnce ↔ s.listedOnce := by
  simp only [tellProven]; (repeat' split) <;> simp
@[simp] theorem proveBrakes_listedOnce : (proveBrakes s).listedOnce ↔ s.listedOnce := by simp [proveBrakes]
@[simp] theorem driveFault_listedOnce : (driveFault s).listedOnce ↔ s.listedOnce := by
  simp only [driveFault]; (repeat' split) <;> simp
@[simp] theorem driveReport_listedOnce (ready : Bool) : (driveReport ready s).listedOnce ↔ s.listedOnce := by
  simp only [driveReport]; (repeat' split) <;> simp
@[simp] theorem modStop_listedOnce (f : StopRec → StopRec) : (modStop f s).listedOnce ↔ s.listedOnce := .rfl
@[simp] theorem escalationSample_listedOnce : (escalationSample s).listedOnce ↔ s.listedOnce := .rfl
@[simp] theorem escalationCheck_listedOnce (v : Nat) : (escalationCheck v s).listedOnce ↔ s.listedOnce := by
  simp only [escalationCheck]; (repeat' split) <;> simp
@[simp] theorem restartBrake_listedOnce (b : Brake) : (restartBrake b s).listedOnce ↔ s.listedOnce := by
  simp only [restartBrake]; split <;> simp
@[simp] theorem restartBrakes_listedOnce : (restartBrakes s).listedOnce ↔ s.listedOnce := by
  simp [restartBrakes]
@[simp] theorem startSupervision_listedOnce : (startSupervision s).listedOnce ↔ s.listedOnce := .rfl
@[simp] theorem beginStandby_listedOnce : (beginStandby s).listedOnce ↔ s.listedOnce := by
  simp only [beginStandby]; split <;> simp
@[simp] theorem enterOff_listedOnce : (enterOff s).listedOnce ↔ s.listedOnce := by simp [enterOff]
@[simp] theorem exitOff_listedOnce : (exitOff s).listedOnce ↔ s.listedOnce := .rfl
@[simp] theorem changeMode_listedOnce (m' : LineMode) : (changeMode m' s).listedOnce ↔ s.listedOnce := by
  simp only [changeMode]; (repeat' split) <;> simp
@[simp] theorem takeTiming_listedOnce (p : ParamBody) : (takeTiming p s).listedOnce ↔ s.listedOnce := by
  simp only [takeTiming]; split <;> simp
@[simp] theorem takeAll_listedOnce (p : ParamBody) : (takeAll p s).listedOnce ↔ s.listedOnce := .rfl
@[simp] theorem validFrame_listedOnce : (validFrame s).listedOnce ↔ s.listedOnce := by
  simp only [validFrame]; split <;> simp
@[simp] theorem supervisionLoss_listedOnce : (supervisionLoss s).listedOnce ↔ s.listedOnce := by
  simp [supervisionLoss]
@[simp] theorem standbyEdge_listedOnce (d : Dir) : (standbyEdge d s).listedOnce ↔ s.listedOnce := by
  simp only [standbyEdge]; (repeat' split) <;> simp
@[simp] theorem markStop_listedOnce (x : State) : (markStop x s).listedOnce ↔ s.listedOnce := by
  simp only [markStop]; split <;> simp
@[simp] theorem loadLine_listedOnce (r : LineRec) : (loadLine r s).listedOnce ↔ s.listedOnce := by
  simp [loadLine]
@[simp] theorem emptyFaults_listedOnce : (emptyFaults s).listedOnce ↔ s.listedOnce := by simp [emptyFaults]
@[simp] theorem restartSupervision_listedOnce : (restartSupervision s).listedOnce ↔ s.listedOnce := by
  simp only [restartSupervision]; split <;> simp
@[simp] theorem resetBrake_listedOnce (b : Brake) : (resetBrake b s).listedOnce ↔ s.listedOnce := by
  simp only [resetBrake]; split <;> simp
@[simp] theorem settlePlant_listedOnce : (settlePlant s).listedOnce ↔ s.listedOnce := by simp [settlePlant]
@[simp] theorem settleDoors_listedOnce : (settleDoors s).listedOnce ↔ s.listedOnce := by simp [settleDoors]
@[simp] theorem newDoors_listedOnce (n : Nat) : (newDoors n s).listedOnce ↔ s.listedOnce := by
  simp only [newDoors]
  rw [forEach_listedOnce raiseUnproven (fun i t => raiseUnproven_listedOnce t i)]
  simp only [modDc_listedOnce, emptySlots_listedOnce]
  rw [forEach_listedOnce _ (fun i t => by (repeat' split) <;> simp)]
@[simp] theorem restartDoors_listedOnce : (restartDoors s).listedOnce ↔ s.listedOnce := by
  simp only [restartDoors]
  rw [forEach_listedOnce _ (fun i t => by (repeat' split) <;> simp),
    forEach_listedOnce raiseUnproven (fun i t => raiseUnproven_listedOnce t i)]
  simp
@[simp] theorem runAttempts_listedOnce (before : State) :
    (runAttempts before s).listedOnce ↔ s.listedOnce := by
  simp only [runAttempts]; (repeat' split) <;> simp
@[simp] theorem settleHaul_listedOnce (before : State) : (settleHaul before s).listedOnce ↔ s.listedOnce := by
  simp [settleHaul]
@[simp] theorem settle_listedOnce (before : State) : (settle before s).listedOnce ↔ s.listedOnce := by
  simp [settle]
@[simp] theorem markChanges_listedOnce (before : State) :
    (markChanges before s).listedOnce ↔ s.listedOnce := by simp [markChanges]
@[simp] theorem finish_listedOnce (before : State) : (finish before s).listedOnce ↔ s.listedOnce := by
  simp [finish]
theorem restartNotices_listedOnce : (restartNotices s).listedOnce := (by decide : [NoticeKey.haul, .mode].Nodup)
@[simp] theorem acceptLine_listedOnce (r : LineRec) : (acceptLine r s).listedOnce ↔ s.listedOnce := by
  simp [acceptLine]
/-- A line restart begins the notice list anew (11 R186). -/
theorem lineRestart_listedOnce : (lineRestart s).listedOnce := by simp [lineRestart, restartNotices_listedOnce]
@[simp] theorem judgeMovement_listedOnce (before : State) :
    (judgeMovement before s).listedOnce ↔ s.listedOnce := by simp [judgeMovement]
@[simp] theorem driveEdge_listedOnce (d : Dir) : (driveEdge d s).listedOnce ↔ s.listedOnce := by
  simp [driveEdge]
@[simp] theorem takeEdge_listedOnce (e : Encoder) (d : Dir) : (takeEdge e d s).listedOnce ↔ s.listedOnce := by
  simp only [takeEdge]; split <;> simp
@[simp] theorem presence_listedOnce (i : Nat) (v : PresenceReport) :
    (presence i v s).listedOnce ↔ s.listedOnce := by
  simp only [presence]; split <;> simp
@[simp] theorem takePulse_listedOnce (j : Nat) : (takePulse j s).listedOnce ↔ s.listedOnce := by
  simp only [takePulse]; split <;> simp
@[simp] theorem beginStandstill_listedOnce : (beginStandstill s).listedOnce ↔ s.listedOnce := by
  simp [beginStandstill]
@[simp] theorem quiet_listedOnce (e : Encoder) : (quiet e s).listedOnce ↔ s.listedOnce := by
  simp only [quiet]; split <;> simp
end

end Sys2Proof.Machine
end

section

namespace Sys2Proof.Machine

/-! ### The transmitter's four cases (11 R184) -/

section

variable {s : State}

/-- A transmitter that sends does not look. -/
theorem transmit_sending {d : Sending} (sends : s.ll.sending = some d) : transmit s = s := by
  simp only [transmit, sends]

/-- A reply that waits goes before every notice. -/
theorem transmit_reply {r : Reply} (idle : s.ll.sending = none) (waits : s.ll.replySlot = some r) :
    transmit s = startFrame (.reply r) (s.modLl fun l => { l with replySlot := none }) := by
  simp only [transmit, idle, waits]

/-- With no reply waiting the head key leaves the list, and its notice takes the content of that moment. -/
theorem transmit_notice {k : NoticeKey} {ks : List NoticeKey} (idle : s.ll.sending = none)
    (empty : s.ll.replySlot = none) (list : s.ll.notices = k :: ks) :
    transmit s = forgetReported k (startFrame (.notice k (s.noticeContent k))
      (s.modLl fun l => { l with notices := ks })) := by
  simp only [transmit, idle, empty, list]

/-- With neither a reply nor a key an idle transmitter stays idle. -/
theorem transmit_nothing (idle : s.ll.sending = none) (empty : s.ll.replySlot = none) (list : s.ll.notices = []) :
    transmit s = s := by
  simp only [transmit, idle, empty, list]

@[simp] theorem forgetReported_ll (k : NoticeKey) (s : State) : (forgetReported k s).ll = s.ll := by
  simp only [forgetReported]
  split <;> rfl

/-- A look of the transmitter takes at most the head key from the list. -/
theorem transmit_listedOnce (h : s.listedOnce) : (transmit s).listedOnce := by
  cases sending : s.ll.sending with
  | some d => rwa [transmit_sending sending]
  | none =>
    cases slot : s.ll.replySlot with
    | some r => rw [transmit_reply sending slot]; exact h
    | none =>
      cases list : s.ll.notices with
      | nil => rwa [transmit_nothing sending slot list]
      | cons k ks =>
        rw [State.listedOnce, list] at h
        rw [transmit_notice sending slot list, State.listedOnce, forgetReported_ll]
        exact h.of_cons

end

/-! ### What the rules and the owners leave of the line link -/

/-- The frames held, the reply that waits, and the frame on the line. -/
def State.traffic (s : State) : List HeldFrame × Option Reply × Option Sending :=
  (s.ll.holding, s.ll.replySlot, s.ll.sending)

theorem traffic_of_base {s t : State} (h : t.ll.base = s.ll.base) : t.traffic = s.traffic :=
  (congrArg (fun l : Ll => (l.holding, l.replySlot, l.sending)) h :)

theorem traffic_of_outer {s t : State} (h : t.outer = s.outer) : t.traffic = s.traffic :=
  traffic_of_base (congrArg (·.2.2) h)

theorem traffic_iff {s t : State} : t.traffic = s.traffic ↔
    t.ll.holding = s.ll.holding ∧ t.ll.replySlot = s.ll.replySlot ∧ t.ll.sending = s.ll.sending := by
  simp [State.traffic]

section

variable {s : State}

/-- No rule of the field but the gap interval's reaches the line link less its notice list, and that one drops
the bytes received alone. -/
theorem rule_traffic {f : State → State} (rule : FieldRule f) (s : State) : (f s).traffic = s.traffic := by
  cases rule with
  | gap => rfl
  | _ => exact traffic_of_outer (by simp)

theorem rule_listedOnce {f : State → State} (rule : FieldRule f) (h : s.listedOnce) : (f s).listedOnce := by
  cases rule with
  | gap => exact h
  | restart => exact lineRestart_listedOnce s
  | _ => simpa using h

/-- What an owner marks, it marks once. -/
theorem own_listedOnce (h : s.listedOnce) (level : Nat) (r : Request) :
    Answer.All State.listedOnce (own level r s) := by
  cases r with
  | lineSet x => simp only [own, setLine]; (repeat' split) <;> simp [h]
  | markersSet limit l => simp only [own, setMarkers]; (repeat' split) <;> simp [h]
  | profileSet p => simp only [own, setProfile]; (repeat' split) <;> simp [h]
  | tensionSet one two => simp only [own, setTension]; split <;> simp [h]
  | lanesSet l => simp only [own, setLanes]; (repeat' split) <;> simp [h]
  | postsSet l => simp only [own, setPosts]; split <;> simp [h]
  | paramSet scope p => simp only [own, setParams]; (repeat' split) <;> simp [h]
  | ticketsLoad t => simp only [own, loadTickets]; (repeat' split) <;> simp [h]
  | ticketsDrop b => simp only [own, dropTickets]; (repeat' split) <;> simp [h]
  | ticketQuery n => simp only [own, queryTicket]; split <;> simp [h]
  | daySet day time => simp only [own, setDay]; (repeat' split) <;> simp [h]
  | modeSet m => simp only [own, setMode]; (repeat' split) <;> simp [h]
  | dispatch t d => simp only [own, dispatchTrip]; split <;> simp [h]
  | hold => simp only [own, holdTrip]; split <;> simp [h]
  | resume => simp only [own, resumeTrip]; (repeat' split) <;> simp [h]
  | stopNow => simp [own, stopNow, h]
  | tripReset => simp only [own, resetTrip]; (repeat' split) <;> simp [h]
  | doors o p a =>
    simp only [own, ownDoors, openDoors, closeDoors, holdDoors, unholdDoors]
    (repeat' split) <;> simp [h, forEach_listedOnce]
  | lane l o => simp only [own, ownLane, setLaneClosed, clearLane]; (repeat' split) <;> simp [h]
  | queue q o => simp only [own, ownQueue, setQueueClosed]; (repeat' split) <;> simp [h]
  | forceStop k o => simp only [own, ownForceStop, forceStop]; (repeat' split) <;> simp [h]
  | weatherSet w => simp only [own, setWeather]; split <;> simp [h]
  | amend c g v a d => simp only [own, amendClass]; (repeat' split) <;> simp [h]
  | brakeTest b d t u => simp only [own, testBrake]; (repeat' split) <;> simp [h]
  | faultsAck => simp [own, ackFaults, h]
  | restart => simp only [own, restartLineRequest]; split <;> simp [lineRestart_listedOnce]
  | carRead c => simp only [own, readCar]; split <;> simp [h]
  | queueRead q p => simp only [own, readQueue]; split <;> simp [h]
  | laneRead l => simp only [own, readLane]; split <;> simp [h]
  | statusRead | faultsRead | tripRead | brakesRead | tensionRead => simp [own, h]

theorem judgeFrame_listedOnce (h : s.listedOnce) (f : HeldFrame) : (judgeFrame f s).1.listedOnce := by
  simp only [judgeFrame]
  (repeat' split)
  · exact h
  · exact h
  · exact h
  · exact own_listedOnce h _ _ _ _ ‹_›
  · exact h

/-- A frame received is held in its place, and no third one is (11 R178). -/
theorem receive_held (f : HeldFrame) (s : State) : (receive f s).ll.holding =
    if s.ll.holding.length < 2 then s.ll.holding ++ [f] else s.ll.holding := by
  simp only [receive]
  split
  · exact outer_holding (validFrame_outer _)
  · rfl

theorem receive_listedOnce (f : HeldFrame) (h : s.listedOnce) : (receive f s).listedOnce := by
  have held : (s.modLl fun l => { l with holding := l.holding ++ [f] }).listedOnce := h
  simp only [receive]
  split
  · simpa using held
  · exact h

end

/-! ### The line link stays sound (11 R178, R179, R183, R184) -/

/-- What every event leaves of the line link, whether or not frames were taken since. -/
structure State.LinkHeld (s : State) : Prop where
  once : s.listedOnce
  two : s.ll.holding.length ≤ 2
  begun : s.ll.sending = none → s.ll.replySlot = none

theorem linkSound_iff (s : State) :
    s.linkSound ↔ s.LinkHeld ∧ (s.ll.replySlot = none → s.ll.holding = []) :=
  ⟨fun ⟨once, two, begun, taken⟩ => ⟨⟨once, two, begun⟩, taken⟩,
    fun ⟨⟨once, two, begun⟩, taken⟩ => ⟨once, two, begun, taken⟩⟩

section

variable {s : State}

/-- After the look of the transmitter no reply waits behind an idle one. -/
theorem linkHeld_transmit (once : s.listedOnce) (two : s.ll.holding.length ≤ 2) : (transmit s).LinkHeld where
  once := transmit_listedOnce once
  two := by rwa [transmit_holding]
  begun := transmit_idle s

theorem linkHeld_event {f : State → State} (once : (f s).listedOnce) (two : (f s).ll.holding.length ≤ 2) :
    (event f s).LinkHeld := by
  refine linkHeld_transmit (by simpa using once) ?_
  rwa [outer_holding (finish_outer _ _)]

/-- A reply that waits behind a frame on the line waits on through an event. -/
theorem event_slot_waits {f : State → State} {r : Reply} {d : Sending} (waits : (f s).ll.replySlot = some r)
    (sends : (f s).ll.sending = some d) : (event f s).ll.replySlot = some r := by
  rw [event, transmit_sending ((outer_sending (finish_outer (f s) s)).trans sends)]
  exact (outer_replySlot (finish_outer (f s) s)).trans waits

/-- An event that touches neither frames nor reply keeps the link sound. -/
theorem linkSound_event {f : State → State} (h : s.linkSound) (once : (f s).listedOnce)
    (same : (f s).traffic = s.traffic) : (event f s).linkSound := by
  obtain ⟨holding, slot, sending⟩ := traffic_iff.1 same
  obtain ⟨⟨-, two, begun⟩, taken⟩ := (linkSound_iff s).1 h
  refine (linkSound_iff _).2 ⟨linkHeld_event once (holding ▸ two), fun empty => ?_⟩
  rw [event_holding, holding]
  cases waits : s.ll.replySlot with
  | none => exact taken waits
  | some r =>
    cases sends : s.ll.sending with
    | none => exact absurd (begun sends) (by simp [waits])
    | some d =>
      have still := event_slot_waits (slot.trans waits) (sending.trans sends)
      exact absurd (still.symm.trans empty) (by simp)

theorem linkHeld_take (h : s.LinkHeld) (f : HeldFrame) : (take f s).LinkHeld where
  once := by
    have judged : (judgeFrame f (dropHeld s)).1.listedOnce := judgeFrame_listedOnce (s := dropHeld s) h.once f
    have finished : (finish s (judgeFrame f (dropHeld s)).1).listedOnce := by simpa using judged
    exact transmit_listedOnce finished
  two := by
    have two := h.two
    rw [take_holding, List.length_drop]
    omega
  begun := transmit_idle _

/-- Taking frames ends with the holding empty or a reply waiting, as long as the rounds suffice (11 R179). -/
theorem linkSound_serveWhile : ∀ n (s : State), s.LinkHeld → s.ll.holding.length ≤ n → (serveWhile n s).linkSound
  | 0, s, h, room => (linkSound_iff s).2 ⟨h, fun _ => List.eq_nil_of_length_eq_zero (Nat.le_zero.1 room)⟩
  | n + 1, s, h, room => by
    rw [serveWhile]
    split
    · next f rest held _ =>
      refine linkSound_serveWhile n _ (linkHeld_take h f) ?_
      rw [take_holding, List.length_drop]
      omega
    · next stop =>
      refine (linkSound_iff s).2 ⟨h, fun empty => ?_⟩
      cases held : s.ll.holding with
      | nil => rfl
      | cons f rest => exact absurd empty (stop f rest held)

theorem linkSound_serve (h : s.LinkHeld) : (serve s).linkSound := linkSound_serveWhile 2 s h h.two

theorem length_receive_held (f : HeldFrame) (two : s.ll.holding.length ≤ 2) :
    (receive f s).ll.holding.length ≤ 2 := by
  rw [receive_held]
  split
  · simpa using ‹s.ll.holding.length < 2›
  · exact two

/-- A byte marks no key but by the frame that it completes, and that frame alone is held anew. -/
theorem linkHeld_byteIn (b : Byte) (h : s.LinkHeld) :
    (byteIn b s).listedOnce ∧ (byteIn b s).ll.holding.length ≤ 2 := by
  obtain ⟨once, two, -⟩ := h
  simp only [byteIn, checkFrame]
  (repeat' split)
  · exact ⟨once, two⟩
  · exact ⟨once, two⟩
  · exact ⟨once, two⟩
  · exact ⟨once, two⟩
  · exact ⟨once, two⟩
  · exact ⟨receive_listedOnce _ (once : (hunt s).listedOnce), length_receive_held _ (s := hunt s) two⟩
  · exact ⟨once, two⟩

theorem fullReset_linkSound (s : State) : (fullReset s).linkSound := by
  have fresh : (resetState s).listedOnce := (by decide : [NoticeKey.mode, .wake].Nodup)
  have same : (fullReset s).traffic = (resetState s).traffic := traffic_of_outer (by simp [fullReset])
  obtain ⟨holding, slot, sending⟩ := traffic_iff.1 same
  exact ⟨(show (fullReset s).listedOnce by simpa [fullReset] using fresh), holding ▸ Nat.zero_le 2,
    fun _ => slot, fun _ => holding⟩

/-- Every move of the part keeps its line link sound. -/
theorem linkSound_moves {t : State} (m : Moves s t) (h : s.linkSound) : t.linkSound := by
  obtain ⟨held, -⟩ := (linkSound_iff s).1 h
  cases m with
  | stays => exact h
  | reset => exact fullReset_linkSound s
  | frame f =>
    exact linkSound_serve (linkHeld_event (receive_listedOnce f held.once) (length_receive_held f held.two))
  | byte b =>
    obtain ⟨once, two⟩ := linkHeld_byteIn b held
    exact linkSound_serve (linkHeld_event once two)
  | sent u =>
    have passed := traffic_of_base (passUntil_base s u)
    have once : (passUntil u s).listedOnce := (passUntil_listedOnce s u).2 held.once
    refine linkSound_serve (linkHeld_event (f := fun x => idle (passUntil u x)) once ?_)
    exact (congrArg List.length (traffic_iff.1 passed).1).trans_le held.two
  | now rule => exact linkSound_event h (rule_listedOnce rule held.once) (rule_traffic rule s)
  | later dt rule =>
    have once : (passTime dt s).listedOnce := (passTime_listedOnce s dt).2 held.once
    exact linkSound_event h (rule_listedOnce rule once)
      ((rule_traffic rule _).trans (traffic_of_base (passTime_base s dt)))

end

/-- Settles O8: what a command can do, one case each; the transmitter looks at the end of every event, and frames
are taken until the holding is empty or a reply waits. -/
theorem theLineLinkStaysSound : Obligations.TheLineLinkStaysSound := by
  intro s t h hx
  rcases step_moves hx with m | ⟨q, m⟩
  · exact linkSound_moves m h
  · exact linkSound_moves m (show (s.setPending q).linkSound from h)

end Sys2Proof.Machine
end

section

namespace Sys2Proof.Machine

/-- Settles O19: the four cases of the transmitter; what is forgotten after a BRAKES notice is no part of the
line link. -/
theorem anIdleTransmitterSendsTheReplyFirst : Obligations.AnIdleTransmitterSendsTheReplyFirst := by
  intro s
  refine ⟨fun d => transmit_sending, ?reply, ?notice, transmit_nothing⟩
  case reply =>
    intro r idle waits
    rw [transmit_reply idle waits]
    rfl
  case notice =>
    intro k ks idle empty list
    rw [transmit_notice idle empty list, forgetReported_ll]
    rfl

end Sys2Proof.Machine
end

section

namespace Sys2Proof.Machine

/-! ### Waiting frames (11 R178, R179, R184) -/

section

variable {s : State}

/-- While a reply waits no frame is taken. -/
theorem serve_waits {r : Reply} (waits : s.ll.replySlot = some r) : serve s = s := by
  simp only [serve, serveWhile, waits]
  cases s.ll.holding <;> rfl

/-- With no frame held nothing is taken. -/
theorem serve_nothing (none : s.ll.holding = []) : serve s = s := by
  simp only [serve, serveWhile, none]

/-- A frame that arrives while a reply waits behind a frame on the line is received and not taken. -/
theorem frameArrives_waits {r : Reply} {d : Sending} (f : HeldFrame) (waits : s.ll.replySlot = some r)
    (sends : s.ll.sending = some d) : frameArrives f s = event (receive f) s := by
  have still : (receive f s).ll.sending = some d := by
    simp only [receive]
    split
    · exact (outer_sending (validFrame_outer _)).trans sends
    · exact sends
  exact serve_waits (event_slot_waits ((receive_slot s f).trans waits) still)

/-- A third frame is dropped (11 R178). -/
theorem receive_third (f : HeldFrame) (full : 2 ≤ s.ll.holding.length) : receive f s = s :=
  if_neg (Nat.not_lt.2 full)

/-- An event begins in one state, so only what its rule makes of that state counts. -/
theorem event_congr {f g : State → State} (same : f s = g s) : event f s = event g s := by
  rw [event, event, same]

end

/-- Settles O18: a reply that waits keeps frames from being taken, and the end of the frame on the line lets the
transmitter look again. -/
theorem framesWaitWhileAReplyDoes : Obligations.FramesWaitWhileAReplyDoes := by
  refine ⟨?waits, ?nothing, ?sent⟩
  case waits =>
    intro s f r waits sends
    obtain ⟨d, sends⟩ := Option.isSome_iff_exists.1 sends
    have arrives := frameArrives_waits f waits sends
    refine ⟨fun room => ⟨arrives, ?_⟩, fun full => ?_⟩
    · rw [arrives, event_holding, receive_held, if_pos room]
    · have dropped : frameArrives f s = event id s := arrives.trans (event_congr (receive_third f full))
      exact ⟨dropped, by rw [dropped, event_mau]; rfl, by rw [dropped, event_holding]; rfl⟩
  case nothing =>
    intro s idle
    simp only [exec, execFrameSendEnd, State.sendDue, idle, Option.map_none]
  case sent =>
    intro s d sends
    have ends : exec .frameSendEnd s = .next (serve (event (fun x => idle (passUntil d.due x)) s)) := by
      simp only [exec, execFrameSendEnd, State.sendDue, sends, Option.map_some]
    refine ⟨ends, fun _ empty => ends.trans ?_⟩
    have kept : (idle (passUntil d.due s)).ll.holding = s.ll.holding :=
      (traffic_iff.1 (traffic_of_base (passUntil_base s d.due))).1
    exact congrArg _ (serve_nothing ((event_holding s _).trans (kept.trans empty)))

end Sys2Proof.Machine
end

section

namespace Sys2Proof.Machine

/-! ### Frames of no kind or of a wrong length (11 R179) -/

/-- Settles O16: on a free link the frame is taken as it arrives, and `judgeFrame` answers it before MAU or an
owner sees it. -/
theorem framesOfNoKindOrNoLengthAreRefused : Obligations.FramesOfNoKindOrNoLengthAreRefused := by
  intro s h free
  refine ⟨fun kind => ?kind, fun i r hi wrong => ⟨h, r, hi, ?length⟩⟩
  case kind => exact congrArg _ (frameArrives_free s _ free)
  case length =>
    have content : requestContent r = .badLength (requestKind r) := if_neg (by simp [wrong])
    rw [exec_request hi, requestArrives, frameArrives_free s _ free]
    simp only [take, judgeFrame, content, concluded, State.beforeTaken, State.asTaken]

end Sys2Proof.Machine
end

section

namespace Sys2Proof.Machine

/-! ### The reads (11 R182) -/

section

variable {s : State} {n : Nat}

theorem readCar_index (c : Car) (s : State) : readCar c.index s = .ok (s, .car (s.carReport c)) := by
  simp only [readCar, carOf?_index]

theorem readCar_bounds (out : 1 < n) (s : State) : readCar n s = .error .bounds := by
  simp only [readCar, carOf?_none out]

theorem readQueue_found {place : Nat} {x : Queue} {f : QueueFields} (queue : s.gqu.queues[n]? = some x)
    (fields : s.queueFields n = some f) :
    readQueue n place s = .ok (s, .queue { fields := f, entries := (x.entries.drop place).take 80 }) := by
  simp only [readQueue, queue, fields]

theorem readQueue_none {place : Nat} (none : s.gqu.queues.length ≤ n) : readQueue n place s = .error .notFound := by
  simp only [readQueue, List.getElem?_eq_none none]
  split <;> simp_all

theorem readLane_found {l : Lane} (lane : s.lane? n = some l) :
    readLane n s = .ok (s, .lane { record := l, state := s.laneState l }) := by
  simp only [readLane, State.laneReport, lane, Option.map_some]

theorem readLane_none (none : s.lane? n = none) : readLane n s = .error .notFound := by
  simp only [readLane, State.laneReport, none, Option.map_none]

end

/-- Settles O21: each owner of a read answers its report and leaves the state in which it is judged. -/
theorem readsAnswerTheirReportsAndChangeNothing : Obligations.ReadsAnswerTheirReportsAndChangeNothing := by
  intro s h
  refine ⟨fun hp => doneWith_of_own rfl rfl hp rfl, fun hp => doneWith_of_own rfl rfl hp rfl,
    fun hp => doneWith_of_own rfl rfl hp rfl, fun hp => doneWith_of_own rfl rfl hp rfl,
    fun hp => doneWith_of_own rfl rfl hp rfl, ?car, ?queue, ?lane⟩
  case car =>
    refine fun n hp => ⟨?_, fun out => refusedWith_of_own rfl rfl hp (readCar_bounds out _)⟩
    rintro c rfl
    exact doneWith_of_own rfl rfl hp (readCar_index c _)
  case queue =>
    rintro n place q rfl hp
    exact ⟨fun x f queue fields => doneWith_of_own rfl rfl hp (readQueue_found queue fields),
      fun none => refusedWith_of_own rfl rfl hp (readQueue_none none)⟩
  case lane =>
    rintro n q rfl hp
    exact ⟨fun l lane => doneWith_of_own rfl rfl hp (readLane_found lane),
      fun none => refusedWith_of_own rfl rfl hp (readLane_none none)⟩

end Sys2Proof.Machine
end

section

namespace Sys2Proof.Machine

/-! ### Reading what was written (11 R181) -/

/-- The reader reads x from these bytes and leaves what follows them. -/
def Reads {α : Type} (p : Reader α) (bytes : List Byte) (x : α) : Prop := ∀ rest, p (bytes ++ rest) = some (x, rest)

section

variable {α β : Type} {p : Reader α} {bytes more : List Byte} {x : α}

theorem reads_pure (x : α) : Reads (pure x) [] x := fun _ => rfl

/-- One reader after another reads their bytes in a row. -/
theorem Reads.bind {q : α → Reader β} {y : β} (first : Reads p bytes x) (then_ : Reads (q x) more y) :
    Reads (p >>= q) (bytes ++ more) y := by
  intro rest
  calc (p >>= q) (bytes ++ more ++ rest)
      = (p (bytes ++ (more ++ rest))).bind fun z => q z.1 z.2 := by rw [List.append_assoc]; rfl
    _ = some (y, rest) := by rw [first]; exact then_ rest

/-- The last reader of a row. -/
theorem Reads.last (g : α → β) (last : Reads p bytes x) : Reads (p >>= fun z => pure (g z)) bytes (g x) := by
  simpa using last.bind (q := fun z => pure (g z)) (reads_pure (g x))

/-- A field of k bytes is read as the number that it was written for, if the number fits. -/
theorem reads_leBytes : ∀ (k n : Nat), n < 256 ^ k → Reads (readNat k) (leBytes k n) n
  | 0, n, fits => by
    rw [Nat.lt_one_iff.1 fits]
    exact reads_pure 0
  | k + 1, n, fits => by
    have byte : Reads readByte [BitVec.ofNat 8 n] (BitVec.ofNat 8 n) := fun _ => rfl
    have upper : n / 256 < 256 ^ k := Nat.div_lt_of_lt_mul (by rwa [Nat.mul_comm, ← Nat.pow_succ])
    have value : (BitVec.ofNat 8 n).toNat + 256 * (n / 256) = n := by
      rw [BitVec.toNat_ofNat]
      omega
    have both := byte.bind (q := fun b => readNat k >>= fun m => pure (b.toNat + 256 * m))
      ((reads_leBytes k (n / 256) upper).last _)
    rw [value] at both
    exact both

theorem reads_u8 {n : Nat} (fits : fits1 n = true) : Reads (readNat 1) (u8 n) n :=
  reads_leBytes 1 n (of_decide_eq_true fits)

theorem reads_u16 {n : Nat} (fits : fits2 n = true) : Reads (readNat 2) (u16 n) n :=
  reads_leBytes 2 n (of_decide_eq_true fits)

theorem reads_u32 {n : Nat} (fits : fits4 n = true) : Reads (readNat 4) (u32 n) n :=
  reads_leBytes 4 n (of_decide_eq_true fits)

/-- A signed field is written modulo 2 ^ 32 and read back by its sign. -/
theorem reads_i32 {x : Int} (fits : fitsInt x = true) : Reads readInt (i32 x) x := by
  obtain ⟨low, high⟩ : -2147483648 ≤ x ∧ x < 2147483648 := by simpa [fitsInt] using fits
  have word : (x % 4294967296).toNat < 256 ^ 4 := by omega
  have read := (reads_leBytes 4 _ word).last fun n : Nat =>
    if n < 2147483648 then (n : Int) else (n : Int) - 4294967296
  have value : (if (x % 4294967296).toNat < 2147483648 then ((x % 4294967296).toNat : Int)
      else ((x % 4294967296).toNat : Int) - 4294967296) = x := by
    split <;> omega
  rw [value] at read
  exact read

/-- Things in a row are read one after another. -/
theorem reads_many {f : α → List Byte} : ∀ l : List α, (∀ x ∈ l, Reads p (f x) x) →
    Reads (readMany p l.length) (l.flatMap f) l
  | [], _ => reads_pure []
  | x :: l, each =>
    (each x List.mem_cons_self).bind
      ((reads_many l fun y mem => each y (List.mem_cons_of_mem x mem)).last fun ys => x :: ys)

theorem reads_counted {f : α → List Byte} {fits : α → Bool} {l : List α} (all : fitsList fits l = true)
    (each : ∀ x, fits x = true → Reads p (f x) x) : Reads (readCounted p) (counted f l) l := by
  obtain ⟨count, elements⟩ := Bool.and_eq_true_iff.1 all
  exact (reads_u8 count).bind (reads_many l fun x mem => each x (List.all_eq_true.1 elements x mem))

end

/-! ### The records of the catalogue are read back (11 R181) -/

theorem reads_station (r : StationRec) (fits : r.fits = true) : Reads readStation (stationBytes r) r := by
  simp only [StationRec.fits, Bool.and_eq_true] at fits
  obtain ⟨⟨⟨⟨id, position⟩, doorSet⟩, sensor⟩, lanes⟩ := fits
  simp only [stationBytes, List.append_assoc]
  exact (reads_u16 id).bind ((reads_u32 position).bind ((reads_u8 doorSet).bind ((reads_u8 sensor).bind
    ((reads_counted lanes fun _ => reads_u8).last _))))

theorem reads_line (r : LineRec) (fits : r.fits = true) (rows : r.table.length = r.stations) :
    Reads readLine (lineBytes r) r := by
  simp only [LineRec.fits, fitsList, Bool.and_eq_true] at fits
  obtain ⟨⟨⟨⟨⟨⟨⟨⟨length, stations⟩, -, table⟩, loopStart⟩, loopEnd⟩, window⟩, margin⟩, driveCpm⟩, sheaveCpm⟩ := fits
  have tableRead : Reads (readMany readStation r.stations) (r.table.flatMap stationBytes) r.table :=
    rows ▸ reads_many r.table fun x mem => reads_station x (List.all_eq_true.1 table x mem)
  simp only [lineBytes, List.append_assoc]
  exact (reads_u32 length).bind ((reads_u8 stations).bind (tableRead.bind ((reads_u32 loopStart).bind
    ((reads_u32 loopEnd).bind ((reads_u16 window).bind ((reads_u16 margin).bind ((reads_u16 driveCpm).bind
      ((reads_u16 sheaveCpm).last _))))))))

theorem reads_marker (m : MarkerRec) (fits : m.fits = true) : Reads readMarker (markerBytes m) m := by
  simp only [MarkerRec.fits, Bool.and_eq_true] at fits
  obtain ⟨⟨position, track⟩, window⟩ := fits
  simp only [markerBytes, List.append_assoc]
  exact (reads_u32 position).bind ((reads_u8 track).bind ((reads_u16 window).last _))

theorem reads_segment (g : SegmentRec) (fits : g.fits = true) : Reads readSegment (segmentBytes g) g := by
  simp only [SegmentRec.fits, Bool.and_eq_true] at fits
  obtain ⟨⟨⟨start, ceiling⟩, accel⟩, decel⟩ := fits
  simp only [segmentBytes, List.append_assoc]
  exact (reads_u32 start).bind ((reads_u16 ceiling).bind ((reads_u16 accel).bind ((reads_u16 decel).last _)))

theorem reads_tension (t : TensionSettings) (fits : t.fits = true) :
    Reads readTension (tensionSettingsBytes t) t := by
  simp only [TensionSettings.fits, Bool.and_eq_true] at fits
  obtain ⟨⟨⟨⟨⟨⟨⟨⟨range, rate⟩, window⟩, gain⟩, offset⟩, min⟩, max⟩, standbyMin⟩, standbyMax⟩ := fits
  simp only [tensionSettingsBytes, tensionBaseBytes, tensionLimitBytes, List.append_assoc]
  exact (reads_u8 range).bind ((reads_u8 rate).bind ((reads_u8 window).bind ((reads_u32 gain).bind
    ((reads_i32 offset).bind ((reads_i32 min).bind ((reads_i32 max).bind ((reads_i32 standbyMin).bind
      ((reads_i32 standbyMax).last _))))))))

theorem reads_laneDesc (d : LaneDesc) (fits : d.fits = true) : Reads readLaneDesc (laneDescBytes d) d := by
  simp only [LaneDesc.fits, Bool.and_eq_true] at fits
  obtain ⟨⟨lane, station⟩, role⟩ := fits
  simp only [laneDescBytes, List.append_assoc]
  exact (reads_u8 lane).bind ((reads_u8 station).bind ((reads_u8 role).last _))

theorem reads_pair (x : Nat × Nat) (fits : fitsPair x = true) : Reads readPair (pairBytes x) x := by
  obtain ⟨first, second⟩ := Bool.and_eq_true_iff.1 fits
  exact (reads_u8 first).bind ((reads_u8 second).last _)

theorem reads_profile (p : ProfileBody) (fits : (Request.profileSet p).fits = true) :
    Reads readProfile (requestBytes (.profileSet p)) p := by
  simp only [Request.fits, Bool.and_eq_true] at fits
  obtain ⟨⟨⟨cls, lineMax⟩, inspection⟩, segments⟩ := fits
  simp only [requestBytes, List.append_assoc]
  exact (reads_u8 cls).bind ((reads_u16 lineMax).bind ((reads_u16 inspection).bind
    ((reads_counted segments reads_segment).last _)))

theorem reads_params (p : ParamBody) (fits : p.fits = true) (ten : p.offsets.length = 10) :
    Reads readParams (paramBytes p) p := by
  simp only [ParamBody.fits, Bool.and_eq_true] at fits
  obtain ⟨⟨⟨⟨⟨⟨⟨⟨⟨⟨⟨dwell, warning⟩, passageTimeout⟩, passback⟩, supervision⟩, capacity⟩, mass⟩, imb1⟩, imb2⟩, imb3⟩,
    tolerance⟩, offsets⟩ := fits
  have offsetsRead : Reads (readMany readPair 10) (p.offsets.flatMap pairBytes) p.offsets :=
    ten ▸ reads_many p.offsets fun x mem => reads_pair x (List.all_eq_true.1 offsets x mem)
  simp only [paramBytes, List.append_assoc]
  exact (reads_u8 dwell).bind ((reads_u16 warning).bind ((reads_u16 passageTimeout).bind ((reads_u16 passback).bind
    ((reads_u16 supervision).bind ((reads_u8 capacity).bind ((reads_u8 mass).bind ((reads_u32 imb1).bind
      ((reads_u32 imb2).bind ((reads_u32 imb3).bind ((reads_u16 tolerance).bind (offsetsRead.last _)))))))))))

/-- The class and the count give the length of the bitmap (11 R179). -/
theorem reads_tickets (t : TicketBody) (fits : t.fits = true) (whole : lengthMatches (.ticketsLoad t) = true) :
    Reads readTickets (ticketBytes t) t := by
  simp only [TicketBody.fits, Bool.and_eq_true] at fits
  obtain ⟨⟨⟨⟨⟨block, first⟩, count⟩, cls⟩, firstDay⟩, lastDay⟩ := fits
  cases known : ticketClass? t.cls with
  | none => simp [lengthMatches, known] at whole
  | some c =>
    have length : t.bitmap.length = bitmapLength c t.count := by simpa [lengthMatches, known] using whole
    have bits : Reads (readMany readByte (bitmapLength c t.count)) t.bitmap t.bitmap := by
      have each := reads_many (p := readByte) (f := fun b => [b]) t.bitmap fun _ _ _ => rfl
      rwa [length, List.flatMap_singleton'] at each
    simp only [ticketBytes, List.append_assoc]
    refine (reads_u8 block).bind ((reads_u32 first).bind ((reads_u16 count).bind ((reads_u8 cls).bind
      ((reads_u16 firstDay).bind ((reads_u16 lastDay).bind ?_)))))
    rw [known]
    exact bits.last _

/-! ### The requests of the catalogue are read back (11 R181) -/

/-- The body of a request is read back by its kind. -/
theorem reads_request (r : Request) (fits : r.fits = true) (whole : lengthMatches r = true) :
    Reads (readRequest (requestKind r)) (requestBytes r) r := by
  cases r with
  | lineSet x => exact (reads_line x fits (of_decide_eq_true whole)).last _
  | markersSet limit l =>
    obtain ⟨limit, markers⟩ := Bool.and_eq_true_iff.1 fits
    exact (reads_u16 limit).bind ((reads_counted markers reads_marker).last _)
  | profileSet p => exact (reads_profile p fits).last _
  | tensionSet one two =>
    obtain ⟨one, two⟩ := Bool.and_eq_true_iff.1 fits
    exact (reads_tension _ one).bind ((reads_tension _ two).last _)
  | lanesSet l => exact (reads_counted fits reads_laneDesc).last _
  | postsSet l => exact (reads_counted fits reads_pair).last _
  | paramSet scope p =>
    obtain ⟨scope, params⟩ := Bool.and_eq_true_iff.1 fits
    exact (reads_u8 scope).bind ((reads_params p params (of_decide_eq_true whole)).last _)
  | ticketsLoad t => exact (reads_tickets t fits whole).last _
  | ticketsDrop b | modeSet b | weatherSet b | carRead b | laneRead b => exact (reads_u8 fits).last _
  | ticketQuery n => exact (reads_u32 fits).last _
  | daySet day time =>
    obtain ⟨day, time⟩ := Bool.and_eq_true_iff.1 fits
    exact (reads_u16 day).bind ((reads_u32 time).last _)
  | dispatch x y | lane x y | queue x y | forceStop x y | queueRead x y =>
    obtain ⟨first, second⟩ := Bool.and_eq_true_iff.1 fits
    exact (reads_u8 first).bind ((reads_u8 second).last _)
  | doors o p a =>
    simp only [Request.fits, Bool.and_eq_true] at fits
    obtain ⟨⟨operation, pair⟩, argument⟩ := fits
    exact (reads_u8 operation).bind ((reads_u8 pair).bind ((reads_u8 argument).last _))
  | amend c g v a d =>
    simp only [Request.fits, Bool.and_eq_true] at fits
    obtain ⟨⟨⟨⟨cls, segment⟩, ceiling⟩, accel⟩, decel⟩ := fits
    exact (reads_u8 cls).bind ((reads_u8 segment).bind ((reads_u16 ceiling).bind ((reads_u16 accel).bind
      ((reads_u16 decel).last _))))
  | brakeTest b d t u =>
    simp only [Request.fits, Bool.and_eq_true] at fits
    obtain ⟨⟨⟨brake, direction⟩, torque⟩, duration⟩ := fits
    exact (reads_u8 brake).bind ((reads_u8 direction).bind ((reads_u8 torque).bind ((reads_u16 duration).last _)))
  | _ => exact reads_pure _

/-- The kinds of requests are 1 to 34. -/
theorem requestKind_bounds (r : Request) : 1 ≤ requestKind r ∧ requestKind r ≤ 34 := by
  cases r <;> simp [requestKind]

theorem parseBody_requestBytes {r : Request} (fits : r.fits = true) (whole : lengthMatches r = true) :
    parseBody (requestKind r) (requestBytes r) = .request r := by
  have read := reads_request r fits whole []
  rw [List.append_nil] at read
  obtain ⟨low, high⟩ := requestKind_bounds r
  rw [parseBody, if_neg (by omega), StateT.run, read]

/-- The bytes of a frame in their order (11 section 11.1). -/
theorem requestCore_eq (h : Header) (r : Request) : requestCore h r =
    BitVec.ofNat 8 (4 + (requestBytes r).length) :: BitVec.ofNat 8 ((4 + (requestBytes r).length) / 256)
      :: BitVec.ofNat 8 (requestKind r) :: BitVec.ofNat 8 h.tag :: BitVec.ofNat 8 h.post
      :: BitVec.ofNat 8 h.level :: requestBytes r := rfl

theorem toNat_ofNat_byte {n : Nat} (fits : n < 256) : (BitVec.ofNat 8 n).toNat = n := by
  rw [BitVec.toNat_ofNat]
  exact Nat.mod_eq_of_lt fits

theorem heldOf_requestCore {h : Header} {r : Request} (header : h.fits = true) (fits : r.fits = true)
    (whole : lengthMatches r = true) : heldOf (requestCore h r) = { header := h, content := .request r } := by
  simp only [Header.fits, Bool.and_eq_true] at header
  obtain ⟨⟨tag, post⟩, level⟩ := header
  obtain ⟨-, kind⟩ := requestKind_bounds r
  have read : heldOf (requestCore h r) =
      { header := ⟨(BitVec.ofNat 8 h.tag).toNat, (BitVec.ofNat 8 h.post).toNat, (BitVec.ofNat 8 h.level).toNat⟩
        content := parseBody (BitVec.ofNat 8 (requestKind r)).toNat (requestBytes r) } := rfl
  rw [read, toNat_ofNat_byte (of_decide_eq_true tag), toNat_ofNat_byte (of_decide_eq_true post),
    toNat_ofNat_byte (of_decide_eq_true level), toNat_ofNat_byte (by omega), parseBody_requestBytes fits whole]

/-- Settles O13: each field and each list is read back in its place, request by request. -/
theorem requestFramesReadBackAsTheyWereSent : Obligations.RequestFramesReadBackAsTheyWereSent :=
  fun _ _ header fits whole => ⟨parseBody_requestBytes fits whole, heldOf_requestCore header fits whole⟩

end Sys2Proof.Machine
end

section

namespace Sys2Proof.Machine

/-! ### The receiver's cases (11 R177, R178) -/

section

variable {s : State} {b : Byte} {old core check : List Byte}

theorem byteIn_ignored (hunting : s.ll.rx = none) (other : b ≠ 165#8) : byteIn b s = s := by
  simp only [byteIn, hunting, if_neg other]

theorem byteIn_starts (hunting : s.ll.rx = none) : byteIn 165#8 s = inFrame [] s := by
  simp only [byteIn, hunting, if_true]

/-- A byte short of the frame's end is added. -/
theorem byteIn_added (receiving : s.ll.rx = some old)
    (short : (old ++ [b]).length < 2 ∨ (4 ≤ bytesValue ((old ++ [b]).take 2) ∧
      bytesValue ((old ++ [b]).take 2) ≤ 1064 ∧
      (old ++ [b]).length < bytesValue ((old ++ [b]).take 2) + 4)) : byteIn b s = inFrame (old ++ [b]) s := by
  simp only [byteIn, receiving]
  rcases short with first | ⟨low, high, more⟩
  · rw [if_pos first]
  · by_cases first : (old ++ [b]).length < 2
    · rw [if_pos first]
    · rw [if_neg first, if_neg (by omega), if_pos more]

/-- A length that no frame has ends the frame. -/
theorem byteIn_no_length (receiving : s.ll.rx = some old) (two : 2 ≤ (old ++ [b]).length)
    (out : bytesValue ((old ++ [b]).take 2) < 4 ∨ 1064 < bytesValue ((old ++ [b]).take 2)) :
    byteIn b s = hunt s := by
  simp only [byteIn, receiving]
  rw [if_neg (by omega), if_pos out]

/-- The last byte of a frame: its check decides, and the receiver hunts again. -/
theorem byteIn_last (receiving : s.ll.rx = some old) (parts : old ++ [b] = core ++ check)
    (checked : check.length = 2) (whole : core.length = bytesValue ((core ++ check).take 2) + 2)
    (low : 4 ≤ bytesValue ((core ++ check).take 2)) (high : bytesValue ((core ++ check).take 2) ≤ 1064) :
    byteIn b s = if bytesValue check = (crc core).toNat then receive (heldOf core) (hunt s) else hunt s := by
  have length : (core ++ check).length = core.length + 2 := by rw [List.length_append, checked]
  simp only [byteIn, receiving, parts]
  rw [if_neg (by omega), if_neg (by omega), if_neg (by omega), checkFrame, length, Nat.add_sub_cancel,
    List.take_left, List.drop_left]

/-- A byte is one event, at whose end frames are taken. -/
theorem exec_linkByte {f : State → State} (same : byteIn b s = f s) :
    exec (.linkByte b) s = .next (serve (event f s)) :=
  congrArg (fun t => Host.Outcome.next (serve t)) (event_congr same)

end

/-- Settles O15: the cases of the receiver, and the expiry of its gap interval. -/
theorem bytesShortOfAFrameReachTheReceiver : Obligations.BytesShortOfAFrameReachTheReceiver := by
  intro s b
  refine ⟨fun hunting other => exec_linkByte (byteIn_ignored hunting other), ?starts,
    fun old receiving short => exec_linkByte (byteIn_added receiving short),
    fun old receiving two out => exec_linkByte (byteIn_no_length receiving two out), ?check, ?gap⟩
  case starts =>
    rintro hunting rfl
    exact exec_linkByte (byteIn_starts hunting)
  case check =>
    intro old core check receiving parts checked whole low high wrong
    rw [parts] at whole low high
    exact exec_linkByte ((byteIn_last receiving parts checked whole low high).trans (if_neg wrong))
  case gap =>
    intro u runs
    simp only [Happens, exec, execGapIntervalExpiry, runs]
    rfl

/-! ### The last byte of a request frame (11 R177 to R179) -/

/-- A 2-byte field has the number that it was written for. -/
theorem bytesValue_u16 {n : Nat} (fits : n < 65536) : bytesValue (u16 n) = n := by
  have value : bytesValue (u16 n) = n % 256 + 256 * (n / 256 % 256) := by
    simp [u16, leBytes, bytesValue]
  omega

theorem length_requestCore (h : Header) (r : Request) :
    (requestCore h r).length = (requestBytes r).length + 6 := by
  rw [requestCore_eq]
  rfl

/-- The first two bytes of a frame give its length. -/
theorem take_two_requestTail (h : Header) (r : Request) :
    (requestTail h r).take 2 = u16 (4 + (requestBytes r).length) := rfl

/-- Settles O14: the last byte completes a frame whose check agrees, and its bytes are read back as header and
request. -/
theorem theLastByteOfAFrameMakesItArrive : Obligations.TheLastByteOfAFrameMakesItArrive := by
  intro s h r front b header fits whole short tail receiving
  have length : bytesValue ((requestTail h r).take 2) = 4 + (requestBytes r).length := by
    rw [take_two_requestTail, bytesValue_u16 (by omega)]
  have check : bytesValue (u16 (crc (requestCore h r)).toNat) = (crc (requestCore h r)).toNat :=
    bytesValue_u16 (crc (requestCore h r)).isLt
  have arrives := byteIn_last (s := s) receiving tail.symm rfl
    ((length_requestCore h r).trans (by rw [requestTail] at length; omega))
    (by rw [requestTail] at length; omega) (by rw [requestTail] at length; omega)
  rw [if_pos check, heldOf_requestCore header fits whole] at arrives
  exact exec_linkByte arrives

end Sys2Proof.Machine
end

section

namespace Sys2Proof.Machine

/-! ### The notice list (11 R183) -/

section

variable {s : State} {k : NoticeKey}

theorem mark_new (new : k ∉ s.ll.notices) : (mark k s).ll.notices = s.ll.notices ++ [k] := if_neg new

theorem mark_listed (listed : k ∈ s.ll.notices) : mark k s = s := by
  have same : markIn k s.ll.notices = s.ll.notices := if_pos listed
  simp only [mark, State.modLl, same]

/-- A mark drops no key. -/
theorem mem_mark_of_mem {x : NoticeKey} (listed : x ∈ s.ll.notices) : x ∈ (mark k s).ll.notices := by
  obtain ⟨l, list⟩ := mark_notices k s
  rw [list]
  exact List.mem_append_left l listed

theorem mem_markAll_of_mem (l : List NoticeKey) (listed : k ∈ s.ll.notices) : k ∈ (markAll l s).ll.notices := by
  induction l generalizing s with
  | nil => exact listed
  | cons x l ih => exact ih (mem_mark_of_mem listed)

/-- Every key of a list that is marked is in the notice list afterwards. -/
theorem mem_markAll {l : List NoticeKey} (mem : k ∈ l) (s : State) : k ∈ (markAll l s).ll.notices := by
  induction l generalizing s with
  | nil => cases mem
  | cons x l ih =>
    rw [markAll]
    rcases List.mem_cons.1 mem with rfl | mem
    · exact mem_markAll_of_mem l (mem_mark k s)
    · exact ih mem _

/-- A key whose reported content changed is marked at the end of the event (log 6). -/
theorem mem_markChanges {before : State} (key : k ∈ noticeKeys) (change : changed before s k = true) :
    k ∈ (markChanges before s).ll.notices := mem_markAll (List.mem_filter.2 ⟨key, change⟩) _

theorem door_mem_markAll {i : Nat} {l : List Nat} (mem : i ∈ l) (s : State) :
    NoticeKey.door i ∈ (markAll (doorKeys l) s).ll.notices := mem_markAll (List.mem_map.2 ⟨i, mem, rfl⟩) s

/-- Off the line there is no stop (01 R5). -/
theorem parkedStop_unknown (unknown : s.lgp.position = .unknown) : s.parkedStop = none := by
  have outside : s.windowStop = none := List.find?_eq_none.2 fun k _ => by simp [State.inStop, unknown]
  simp [State.parkedStop, State.stop, outside]

end

/-- Settles O58: what a mark makes of the list, and the marks of the end of an event and of the rules that the event
may undo. -/
theorem aMarkedKeyStandsOnceInTheNoticeList : Obligations.AMarkedKeyStandsOnceInTheNoticeList := by
  refine ⟨fun k s => mark_new, fun k s => mark_listed, fun k s once => (mark_listedOnce s k).2 once, ?count, ?begun,
    fun before s k => mem_markChanges, ?dwell, ?released, fun i s => mem_mark _ _, ?stop, ?line⟩
  case count =>
    intro l once keys
    exact length_nodup_noticeKeys.1 ▸ (once.subperm keys).length_le
  case begun =>
    intro k ks s idle empty list
    rw [transmit_notice idle empty list, forgetReported_ll]
    exact ⟨rfl, rfl⟩
  case dwell =>
    intro d s other
    rw [setDwell, if_neg other]
    exact ⟨door_mem_markAll (by simp) _, door_mem_markAll (by simp) _⟩
  case released =>
    intro c f r s released other i mem
    simp only [modReleased, released, if_neg other]
    exact door_mem_markAll mem _
  case stop =>
    intro x s
    refine ⟨fun same => if_pos same, fun other => ?_⟩
    rw [markStop, if_neg other]
    exact mem_mark _ _
  case line =>
    rintro r s u rfl
    exact ⟨parkedStop_unknown rfl, rfl⟩

end Sys2Proof.Machine
end

section

namespace Sys2Proof.Machine

/-! ### What the end of an event and the receiving of a frame leave alone (11 R179, R183) -/

section

variable {s : State}

/-- Marks reach the notice list alone. -/
theorem markAll_notices (l : List NoticeKey) (s : State) :
    markAll l s = { s with ll := { s.ll with notices := (markAll l s).ll.notices } } := by
  induction l generalizing s with
  | nil => rfl
  | cons k l ih => exact ih (mark k s)

/-- What the end of an event and the look of the transmitter leave alone. -/
theorem settled_frame (before s : State) :
    (transmit (finish before s)).pending = s.pending ∧ (transmit (finish before s)).now = s.now ∧
    (transmit (finish before s)).lgp = s.lgp ∧ (transmit (finish before s)).tt = s.tt ∧
    (transmit (finish before s)).mau = s.mau ∧ (transmit (finish before s)).ll.holding = s.ll.holding ∧
    (transmit (finish before s)).ll.rx = s.ll.rx ∧ (transmit (finish before s)).ll.gapDue = s.ll.gapDue := by
  have kept := finish_outer s before
  simp [outer_pending kept, outer_now kept, outer_holding kept, outer_rx kept, outer_gapDue kept]

/-- A valid frame touches of MAU neither the mode nor the posts nor the configuration record (09 R159, R162). -/
theorem validFrame_settings (s : State) : (validFrame s).mau.mode = s.mau.mode ∧
    (validFrame s).mau.posts = s.mau.posts ∧ (validFrame s).mau.config = s.mau.config := by
  simp only [validFrame, wake]
  (repeat' split) <;> simp [startSupervision]

/-- What the receiving of a frame leaves alone. -/
theorem receive_frame (f : HeldFrame) (s : State) :
    (receive f s).pending = s.pending ∧ (receive f s).now = s.now ∧ (receive f s).lgp = s.lgp ∧
    (receive f s).tt = s.tt ∧ (receive f s).mau.mode = s.mau.mode ∧ (receive f s).mau.posts = s.mau.posts ∧
    (receive f s).mau.config = s.mau.config ∧ (receive f s).ll.rx = s.ll.rx := by
  simp only [receive]
  split
  · generalize held : (s.modLl fun l => { l with holding := l.holding ++ [f] }) = x
    have kept := validFrame_outer x
    obtain ⟨mode, posts, config⟩ := validFrame_settings x
    rw [outer_pending kept, outer_now kept, validFrame_lgp, validFrame_tt, mode, posts, config, outer_rx kept, ← held]
    exact ⟨rfl, rfl, rfl, rfl, rfl, rfl, rfl, rfl⟩
  · exact ⟨rfl, rfl, rfl, rfl, rfl, rfl, rfl, rfl⟩

/-- What the state in which a request is judged has of the state before its frame arrived. -/
theorem asTaken_frame (s : State) (h : Header) (r : Request) :
    (s.asTaken h r).pending = s.pending ∧ (s.asTaken h r).now = s.now ∧ (s.asTaken h r).lgp = s.lgp ∧
    (s.asTaken h r).tt = s.tt ∧ (s.asTaken h r).mau.mode = s.mau.mode ∧
    (s.asTaken h r).mau.posts = s.mau.posts ∧ (s.asTaken h r).mau.config = s.mau.config ∧
    (s.asTaken h r).ll.rx = s.ll.rx := by
  obtain ⟨-, now, lgp, tt, mode, posts, config, rx⟩ :=
    receive_frame { header := h, content := requestContent r } s
  simp [State.asTaken, dropHeld, now, lgp, tt, mode, posts, config, rx]

end

end Sys2Proof.Machine
end

section

namespace Sys2Proof.Machine

/-! ### The ceiling and the demand of a trip (03 R42, R43) -/

section

variable {s : State} {t : TripRec}

/-- The terms of R42 that the kind of motion gives. -/
def State.segmentTerms (s : State) (t : TripRec) : List Nat :=
  match t.kind with
  | .cls n =>
    match s.class? n with
    | some segs =>
      ((segs[activeIndex segs (s.carPos .a)]?).map Segment.effective).toList
        ++ (laterSegments segs (s.carPos .a) t.dir).map (fun g => rootTerm g.1 (s.classDecel t.kind) g.2)
    | none => [s.creep t.kind]
  | .inspection => [s.inspectionSpeed * 1000000]
  | .recovery => [300 * 1000000]

/-- The term of R42 that the target gives. -/
def State.targetTerms (s : State) (t : TripRec) : List Nat :=
  match s.targetDistance t with
  | some d => [if 3000 < d then rootTerm (s.creep t.kind) (s.classDecel t.kind) (d - 3000) else s.creep t.kind]
  | none => []

/-- The term of R42 without a reference. -/
def State.referenceTerms (s : State) (t : TripRec) : List Nat :=
  if s.lgp.position ≠ .referenced ∨ s.hc.unreferencedTrip = true then [s.creep t.kind] else []

/-- All terms of R42. -/
def State.ceilingTerms (s : State) (t : TripRec) : List Nat :=
  s.segmentTerms t ++ s.targetTerms t ++ s.referenceTerms t

/-- The ceiling is the smallest of its terms, and the creep speed when there is none (03 R42, log 26). -/
theorem tripCeiling_eq (s : State) (t : TripRec) : s.tripCeiling t = ((s.ceilingTerms t).min?).getD (s.creep t.kind) :=
  rfl

/-- The ceiling is a lower bound of its terms, and one of them if there are any. -/
theorem tripCeiling_spec (s : State) (t : TripRec) : (∀ v ∈ s.ceilingTerms t, s.tripCeiling t ≤ v) ∧
    (s.tripCeiling t ∈ s.ceilingTerms t ∨ (s.ceilingTerms t = [] ∧ s.tripCeiling t = s.creep t.kind)) := by
  rw [tripCeiling_eq]
  cases least : (s.ceilingTerms t).min? with
  | none =>
    have empty := List.min?_eq_none_iff.1 least
    simp [empty]
  | some m =>
    obtain ⟨mem, lower⟩ := List.min?_eq_some_iff.1 least
    exact ⟨lower, .inl mem⟩

theorem mem_laterSegments_up {segs : List Segment} {x : Int} {y : Nat × Int} :
    y ∈ laterSegments segs x .up ↔ ∃ j g, activeIndex segs x < j ∧ segs[j]? = some g ∧
      y = (g.effective, (g.start : Int) - x) := by
  rw [laterSegments, List.mem_map]
  constructor
  · rintro ⟨g, mem, rfl⟩
    obtain ⟨i, place⟩ := List.mem_iff_getElem?.1 mem
    rw [List.getElem?_drop] at place
    exact ⟨_, g, by omega, place, rfl⟩
  · rintro ⟨j, g, later, place, rfl⟩
    refine ⟨g, List.mem_iff_getElem?.2 ⟨j - (activeIndex segs x + 1), ?_⟩, rfl⟩
    rwa [List.getElem?_drop, Nat.add_sub_cancel' later]

theorem mem_laterSegments_down {segs : List Segment} {x : Int} {y : Nat × Int} :
    y ∈ laterSegments segs x .down ↔ ∃ j g above, j < activeIndex segs x ∧ segs[j]? = some g ∧
      segs[j + 1]? = some above ∧ y = (g.effective, x - above.start) := by
  simp only [laterSegments, List.mem_filterMap, List.mem_range]
  constructor
  · rintro ⟨j, later, entry⟩
    split at entry
    · next g above place next_ => exact ⟨j, g, above, later, place, next_, (Option.some.inj entry).symm⟩
    · cases entry
  · rintro ⟨j, g, above, later, place, next_, rfl⟩
    exact ⟨j, later, by simp only [place, next_]⟩

/-- The terms of the kind of motion: for a loaded class the active segment and the root term of each later one. -/
theorem mem_segmentTerms (v : Nat) : v ∈ s.segmentTerms t ↔
    (∃ n segs g, t.kind = .cls n ∧ s.class? n = some segs ∧
      segs[activeIndex segs (s.carPos .a)]? = some g ∧ v = g.effective) ∨
    (∃ n segs j g, t.kind = .cls n ∧ s.class? n = some segs ∧ t.dir = .up ∧
      activeIndex segs (s.carPos .a) < j ∧ segs[j]? = some g ∧
      v = rootTerm g.effective (s.classDecel t.kind) ((g.start : Int) - s.carPos .a)) ∨
    (∃ n segs j g above, t.kind = .cls n ∧ s.class? n = some segs ∧ t.dir = .down ∧
      j < activeIndex segs (s.carPos .a) ∧ segs[j]? = some g ∧ segs[j + 1]? = some above ∧
      v = rootTerm g.effective (s.classDecel t.kind) (s.carPos .a - above.start)) ∨
    (∃ n, t.kind = .cls n ∧ s.class? n = none ∧ v = s.creep t.kind) ∨
    (t.kind = .inspection ∧ v = s.inspectionSpeed * 1000000) ∨
    (t.kind = .recovery ∧ v = 300000000) := by
  cases kind : t.kind with
  | inspection | recovery => simp [State.segmentTerms, kind]
  | cls n =>
    cases loaded : s.class? n with
    | none => simp [State.segmentTerms, kind, loaded]
    | some segs =>
      cases dir : t.dir with
      | up => simp [State.segmentTerms, kind, loaded, dir, mem_laterSegments_up, and_assoc, eq_comm (a := v)]
      | down => simp [State.segmentTerms, kind, loaded, dir, mem_laterSegments_down, and_assoc, eq_comm (a := v)]

theorem mem_targetTerms (v : Nat) : v ∈ s.targetTerms t ↔ ∃ d, s.targetDistance t = some d ∧ v = if 3000 < d
    then rootTerm (s.creep t.kind) (s.classDecel t.kind) (d - 3000) else s.creep t.kind := by
  cases distance : s.targetDistance t <;> simp [State.targetTerms, distance]

theorem mem_referenceTerms (v : Nat) : v ∈ s.referenceTerms t ↔
    (s.lgp.position ≠ .referenced ∨ s.hc.unreferencedTrip = true) ∧ v = s.creep t.kind := by
  rw [State.referenceTerms]
  split <;> simp [*]

/-- A term of R42: the active segment, the root term of each later one, the creep speed of a class that is not
loaded, the limits of INSPECTION and RECOVERY, the target, or the creep speed without a reference. -/
theorem mem_ceilingTerms (v : Nat) : v ∈ s.ceilingTerms t ↔
    (∃ n segs g, t.kind = .cls n ∧ s.class? n = some segs ∧
      segs[activeIndex segs (s.carPos .a)]? = some g ∧ v = g.effective) ∨
    (∃ n segs j g, t.kind = .cls n ∧ s.class? n = some segs ∧ t.dir = .up ∧
      activeIndex segs (s.carPos .a) < j ∧ segs[j]? = some g ∧
      v = rootTerm g.effective (s.classDecel t.kind) ((g.start : Int) - s.carPos .a)) ∨
    (∃ n segs j g above, t.kind = .cls n ∧ s.class? n = some segs ∧ t.dir = .down ∧
      j < activeIndex segs (s.carPos .a) ∧ segs[j]? = some g ∧ segs[j + 1]? = some above ∧
      v = rootTerm g.effective (s.classDecel t.kind) (s.carPos .a - above.start)) ∨
    (∃ n, t.kind = .cls n ∧ s.class? n = none ∧ v = s.creep t.kind) ∨
    (t.kind = .inspection ∧ v = s.inspectionSpeed * 1000000) ∨
    (t.kind = .recovery ∧ v = 300000000) ∨
    (∃ d, s.targetDistance t = some d ∧ v = if 3000 < d
      then rootTerm (s.creep t.kind) (s.classDecel t.kind) (d - 3000) else s.creep t.kind) ∨
    ((s.lgp.position ≠ .referenced ∨ s.hc.unreferencedTrip = true) ∧ v = s.creep t.kind) := by
  simp only [State.ceilingTerms, List.mem_append, mem_segmentTerms, mem_targetTerms, mem_referenceTerms, or_assoc]

/-- In RUNNING and APPROACH the ramp is held down by the ceiling and the drive has the demand (03 R43). -/
theorem commandDrive_moving (moves : s.hc.haul = .running ∨ s.hc.haul = .approach) (trip : s.hc.trip.rec? = some t) :
    commandDrive s = s.modHc fun x => { x with
      ramp := s.heldRamp t, drive := .speed t.dir (s.tripDemand t) } := by
  rcases moves with haul | haul <;> simp only [commandDrive, State.demand, haul, trip]

theorem demand_moving (moves : s.hc.haul = .running ∨ s.hc.haul = .approach) (trip : s.hc.trip.rec? = some t) :
    s.demand = s.tripDemand t := by
  rcases moves with haul | haul <;> simp only [State.demand, haul, trip]

/-- While the holding brake is not yet APPLIED a PARKED haul keeps its command (04 R66). -/
theorem commandDrive_parked (parked : s.hc.haul = .parked) : commandDrive s =
    if s.bl.brakes.fst.state = .applied then { s with hc := { s.hc with drive := .noTorque } } else s := by
  rw [commandDrive, parked]
  rfl

/-- The demand is at most the held ramp (03 R43). -/
theorem tripDemand_le_heldRamp (s : State) (t : TripRec) : s.tripDemand t ≤ s.heldRamp t := by
  simp only [State.tripDemand]
  split
  · exact Nat.min_le_left _ _
  · exact le_rfl

/-- In the final part the demand is at most what stops at the target (03 R43). -/
theorem tripDemand_final {d : Int} (referenced : s.hc.unreferencedTrip = false) (target : s.targetDistance t = some d)
    (final : 2 * s.classDecel t.kind * d.toNat * 1000000000000 ≤ s.creep t.kind * s.creep t.kind) :
    s.tripDemand t * s.tripDemand t ≤ 2 * s.classDecel t.kind * d.toNat * 1000000000000 := by
  have limit : s.finalLimit t = some (isqrt (2 * s.classDecel t.kind * d.toNat * 1000000000000)) := by
    simp only [State.finalLimit, referenced, target, if_pos final, Bool.false_eq_true, if_false]
  have below : s.tripDemand t ≤ isqrt (2 * s.classDecel t.kind * d.toNat * 1000000000000) := by
    simp only [State.tripDemand, limit]
    exact Nat.min_le_right _ _
  exact (Nat.mul_le_mul below below).trans (isqrt_spec _).1

end

end Sys2Proof.Machine
end

section

namespace Sys2Proof.Machine

/-! ### The automatic cycle and its attempts (03 R61, R97) -/

section

variable {before s : State}

/-- An amendment waits on unless its class has ceased to be in use by the end of its trip (03 R40, log 37). -/
theorem ceased_iff (n : Nat) : before.ceased s n = true ↔
    before.classInUse n = true ∧ s.classInUse n = false ∧ s.hc.trip.state ≠ .none := by
  simp [State.ceased, and_assoc]

theorem applyIdle_ceased {n : Nat} (used : before.classInUse n = true) (idle : s.classInUse n = false)
    (trip : s.hc.trip.state ≠ .none) : applyIdle before n s = applyPending n false s :=
  if_pos ((ceased_iff n).2 ⟨used, idle, trip⟩)

theorem applyIdle_waits {n : Nat} (waits : before.classInUse n = false ∨ s.classInUse n = true ∨
    s.hc.trip.state = .none) : applyIdle before n s = s := by
  refine if_neg fun ceased => ?_
  obtain ⟨used, idle, trip⟩ := (ceased_iff n).1 ceased
  rcases waits with unused | inUse | none
  · simp [used] at unused
  · simp [idle] at inUse
  · exact trip none

/-- A proven arrival in AUTOMATIC begins BOARDING and asks for both releases (03 R56, R61). -/
theorem beginCycle_automatic (due : s.hc.arrivalDue = true) (parked : s.hc.haul = .parked)
    (applied : s.bl.brakes.fst.state = .applied) (automatic : s.mau.mode = .automatic) : beginCycle s =
      (askReleases { s with hc := { s.hc with arrivalDue := false } }).modHc fun x => { x with cycle := .boarding } := by
  rw [beginCycle, if_pos ⟨due, parked, applied⟩]
  exact if_pos automatic

theorem askRelease_at_once {c : Car} {k : Nat} (may : s.mayRelease c k = true) :
    askRelease c k s = releasePair c k s := if_pos may

/-- A release that may not be made yet is left pending (06 R97). -/
theorem askRelease_pending {c : Car} {k : Nat} (may : s.mayRelease c k = false) :
    ((askRelease c k s).dc.pairs.car c).pendingStop = some k := by
  rw [askRelease, if_neg (by simp [may]), modPair, modDc_dc, setCar_car]

/-- The stages follow the door sets between BOARDING and READY (03 R61, 06 R107). -/
theorem followDoors_cycle (s : State) : (followDoors s).hc.cycle = (match s.hc.cycle with
    | .boarding => if s.allLocked = true ∧ s.releasePending = false then .ready else .boarding
    | .ready => if s.allLocked = true then .ready else .boarding
    | x => x) := by
  cases cycle : s.hc.cycle with
  | none | held => simp only [followDoors, cycle]
  | boarding =>
    simp only [followDoors, cycle, Bool.and_eq_true, Bool.not_eq_true']
    split
    · rfl
    · exact cycle
  | ready =>
    simp only [followDoors, cycle]
    split
    · exact cycle
    · rfl

/-- While the trip record is SUSPENDED no attempt is made. -/
theorem attempt_suspended (suspended : s.hc.trip.state = .suspended) : attempt s = s := if_pos suspended

/-- An attempt that fails a check of DISPATCH leaves the first reason (03 R61). -/
theorem attempt_refused {c : RefusalCode} (going : s.hc.trip.state ≠ .suspended)
    (refused : s.checkDispatch s.attemptTarget 0 = .error c) :
    attempt s = { s with hc := { s.hc with waiting := some c } } := by
  rw [attempt, if_neg going, refused]
  rfl

/-- An attempt that passes them opens a trip (03 R61). -/
theorem attempt_opens {x : Option Nat × Dir} (going : s.hc.trip.state ≠ .suspended)
    (allowed : s.checkDispatch s.attemptTarget 0 = .ok x) : attempt s = openTrip x.1 x.2 s := by
  rw [attempt, if_neg going, allowed]

/-- What makes an attempt in READY (03 R61). -/
theorem attemptDue_iff : attemptDue before s = true ↔ before.hc.cycle ≠ .ready ∨
    (before.hc.haul ≠ .parked ∧ s.hc.haul = .parked) ∨ slotCleared before.ft s.ft = true ∨
    (before.stu.tension.fst.average = none ∧ s.stu.tension.fst.average ≠ none) ∨
    (before.stu.tension.snd.average = none ∧ s.stu.tension.snd.average ≠ none) ∨
    (before.lgp.position ≠ .referenced ∧ s.lgp.position = .referenced) ∨
    (before.bl.driveReady = false ∧ s.bl.driveReady = true) ∨
    (before.standstill = false ∧ s.standstill = true) := by
  simp [attemptDue, or_assoc, Option.isSome_iff_ne_none]

theorem runAttempts_made (ready : s.hc.cycle = .ready) (due : attemptDue before s = true)
    (stays : (attempt s).hc.cycle = .ready) : runAttempts before s = attempt s := by
  simp only [runAttempts, ready, due, and_self, if_true, stays]

theorem runAttempts_none_due (ready : s.hc.cycle = .ready) (due : attemptDue before s = false) :
    runAttempts before s = s := by
  simp only [runAttempts, ready, due, Bool.false_eq_true, and_false, if_false, if_true]

theorem runAttempts_not_ready (other : s.hc.cycle ≠ .ready) :
    runAttempts before s = { s with hc := { s.hc with waiting := none } } := by
  simp only [runAttempts, other, false_and, if_false]
  rfl

end

/-- Settles O20: the frames of the end of an event and of the receiving of a frame, and the parts of the end of an
event one by one. -/
theorem whatTheEndOfAnEventAndAFrameLeaveAlone : Obligations.WhatTheEndOfAnEventAndAFrameLeaveAlone := by
  refine ⟨?frame, ?taken, fun _ _ => ⟨rfl, rfl, rfl, rfl⟩, ?moving, fun v a d => isqrt_spec _,
    fun s => commandDrive_parked, ?heading, fun before s n => ⟨applyIdle_ceased, applyIdle_waits⟩, ?cycle,
    fun before s => ⟨attemptDue_iff, runAttempts_made, runAttempts_none_due, runAttempts_not_ready⟩⟩
  case frame =>
    intro before s
    obtain ⟨pending, now, lgp, tt, mau, holding, rx, gapDue⟩ := settled_frame before s
    exact ⟨pending, now, lgp, tt, mau, holding, rx, gapDue, markAll_notices _ s⟩
  case taken =>
    rintro s q h r rfl
    exact asTaken_frame s h r
  case moving =>
    intro s t moves trip
    refine ⟨by rw [commandDrive_moving moves trip]; rfl, demand_moving moves trip,
      (tripDemand_le_heldRamp s t).trans (Nat.min_le_right _ _),
      (tripDemand_le_heldRamp s t).trans (Nat.min_le_left _ _),
      fun d referenced target final => tripDemand_final referenced target final, fun term terms => ?_⟩
    have listed : ∀ v, term v ↔ v ∈ s.ceilingTerms t := fun v => (terms v).trans (mem_ceilingTerms v).symm
    obtain ⟨lower, least⟩ := tripCeiling_spec s t
    simp only [listed]
    exact ⟨lower, least.imp_right fun ⟨empty, creep⟩ => ⟨by simp [empty], creep⟩⟩
  case heading =>
    intro s k stop
    rw [followHeading, stop, headFrom_hc]
  case cycle =>
    intro s
    refine ⟨beginCycle_automatic, fun c k => ⟨askRelease_at_once, askRelease_pending⟩, followDoors_cycle s,
      attempt_suspended, fun c => attempt_refused, fun x => attempt_opens⟩

end Sys2Proof.Machine
end

section

namespace Sys2Proof.Machine

/-! ### The queue and the step (log 4; log 27) -/

/-- The rule of an event or of an expiry leaves the commands waiting alone. -/
theorem FieldRule.keeps_pending {f : State → State} (rule : FieldRule f) (s : State) :
    (f s).pending = s.pending := by
  cases rule with
  | nothing => rfl
  | gap => rfl
  | _ => exact outer_pending (by simp)

/-- A full reset keeps the commands waiting: they are the model's own and no register of the part (log 4). -/
@[simp] theorem fullReset_pending (s : State) : (fullReset s).pending = s.pending := by
  have outer : (fullReset s).outer = (resetState s).outer := by simp [fullReset]
  exact (outer_pending outer).trans rfl

/-- Whatever a command makes of a state, the commands waiting stay. -/
theorem Moves.keeps_pending {s t : State} (m : Moves s t) : t.pending = s.pending := by
  cases m with
  | stays => rfl
  | reset => exact fullReset_pending s
  | frame f => exact frameArrives_pending s f
  | byte b => rw [linkByte, serve_pending, event_pending, byteIn_pending]
  | sent u => rw [serve_pending, event_pending, idle, modLl_pending, passUntil_pending]
  | now rule => rw [event_pending, rule.keeps_pending]
  | later dt rule => rw [event_pending, rule.keeps_pending, passTime_pending]

/-- Every command answers a next state: the arms that look at the state first, an input's change and the end of a
sent frame, do so in each branch, and the others at once (log 27). -/
theorem exec_answers (i : Instr) (s : State) : ∃ t, exec i s = .next t := by
  have either : ∀ (p : Prop) [Decidable p] (a b : State), ∃ t, (if p then .next a else .next b : Result) = .next t :=
    fun p _ a b => ⟨if p then a else b, (apply_ite _ p a b).symm⟩
  cases i with
  | presenceChange | brakeFeedbackChange | driveReportChange | platformDoorInputChange => exact either _ _ _
  | frameSendEnd =>
    simp only [exec, execFrameSendEnd]
    cases s.sendDue with
    | none => exact ⟨_, rfl⟩
    | some u => exact ⟨_, rfl⟩
  | _ => exact ⟨_, rfl⟩

/-- While no command waits, a step is the idle step. -/
theorem step_no_command {s : State} (none_waits : s.pending = []) : step s = idleStep s := by
  rw [step, none_waits]

theorem idleStep_nothing_runs {s : State} (none_runs : earliest s.timers = none) :
    idleStep s = .next (event (passTime 1000) s) := by
  rw [idleStep, none_runs]

theorem idleStep_due {s : State} {u : Nat} {c : Instr} (first : earliest s.timers = some (u, c)) (due : u ≤ s.now) :
    idleStep s = exec c s := by
  simp only [idleStep, first, if_pos due]

theorem idleStep_not_due {s : State} {u : Nat} {c : Instr} (first : earliest s.timers = some (u, c))
    (later : s.now < u) : idleStep s = .next (event (passTime (min 1000 (u - s.now))) s) := by
  simp only [idleStep, first, if_neg (Nat.not_le.mpr later)]

/-- Settles O3: every command answers next, and what it makes of the state is one of the moves of the part, each of
which keeps the queue. -/
theorem everyCommandAnswersNextAndKeepsTheQueue : Obligations.EveryCommandAnswersNextAndKeepsTheQueue := by
  intro i s
  obtain ⟨t, answers⟩ := exec_answers i s
  exact ⟨t, answers, (exec_moves answers).keeps_pending⟩

/-- Settles O1: the front command is the one that the step's match on the queue takes, and putting a queue in place
twice is putting the second. -/
theorem stepTakesTheFrontCommand : Obligations.StepTakesTheFrontCommand := fun _ _ _ => rfl

/-- Settles O2: the three cases of the idle step. -/
theorem aStepWithoutCommandsLetsTimePass : Obligations.AStepWithoutCommandsLetsTimePass := by
  intro s none_waits
  rw [step_no_command none_waits]
  exact ⟨idleStep_nothing_runs, fun u c => idleStep_due, fun u c => idleStep_not_due⟩

end Sys2Proof.Machine
end
